-- ==== Sys2Proof/Word.lean ====
section
/-!
DEFINITION. The plain words of the BX416: bytes on its wires and readings of its 32-bit counters. Station numbers 1..8, axle
numbers 1..6, slot numbers 1..16 and truck numbers 1..2 are plain `Nat`s, counted from 1 as the manual counts them (R1, R47,
R64, R153).
-/

namespace Sys2Proof

/-- One byte, as the consist line, the converter link and the service port carry it (R97, R168, R191). -/
abbrev Byte := BitVec 8

/-- One reading of a wrapping 32-bit counter: local time in ms (R1), or the microsecond counter of the
Speed Unit (chapter 3). -/
abbrev Time := BitVec 32

end Sys2Proof
end

