-- ==== Sys2Proof/Syntax.lean ====
section
/-!
DEFINITION. The commands of the BX416: one constructor for each row of spec/opcode_table.json.

The rows are the steps of the part, each whole and indivisible. A row of the table has no bits, so a command is a term,
not a word. Every command carries `dt`, what has passed since the command before it (log entry 1); a command that reads an
input of the device carries what it reads there (log entry 2).
-/

namespace Sys2Proof

/-- What the receive framer hears on the consist line and has no row for (R99). -/
inductive LineEvent where
  /-- The start bit of a character that is not complete by the end of the passage. -/
  | startBit
  /-- A complete character, from its start bit to its recessive stop bit. -/
  | character (b : Byte)
  deriving DecidableEq, Repr

/-- What passes between two commands, none of which has a row of its own (log entry 1): time on the device's own clock, in
microseconds; the clocks of the service port, each with the level of data in, in their order (R168); the dominant bits
that other stations drive on the consist line (R97), of which the device's state holds the end of the last one alone; and the
start bits and characters of the frames that they send, in their order (R99). -/
structure Passage where
  micros : Nat
  clocks : List Bool
  /-- The microseconds from the end of the last dominant bit seen to the end of the passage; absent when none was seen. -/
  dominant : Option Nat
  traffic : List LineEvent
  deriving DecidableEq, Repr

/-- A passage of time alone. -/
def Passage.quiet (micros : Nat) : Passage where
  micros := micros
  clocks := []
  dominant := none
  traffic := []

/-- The two reset inputs (chapter 11.5). -/
inductive ResetInput where
  | powerOn
  | hard
  deriving DecidableEq, Repr

/-- The levels the device reads at the release of a reset: the straps (R182), the power-fail warning (R190) and
select (R170). -/
structure ReleaseLevels where
  /-- The three station strap pins. -/
  station : BitVec 3
  /-- The axle count strap pin: high is six axles. -/
  sixAxles : Bool
  warning : Bool
  select : Bool
  deriving DecidableEq, Repr

/-- How a slot's lock mark reads: cleanly as unlocked, as locked, or neither (R162, R163, R165). -/
inductive MarkReading where
  | unlocked
  | locked
  | unclear
  deriving DecidableEq, Repr

/-- The read-back of the snapshots and events of a WRITE (R160). `mismatched diff` says in which bits the array differs
from what was written, byte by byte over the snapshots and then the events; bytes past the end of `diff` do not differ. -/
inductive ReadBack where
  | matched
  | mismatched (diff : List Byte)
  deriving DecidableEq, Repr

/-- Why a framer that receives discards the frame before its end (R99). -/
inductive DiscardCause where
  | dominantStopBit
  | wrongStartMark (char : Byte)
  deriving DecidableEq, Repr

/-- The commands, in the table's order. The rule beside each is the one the table names for it. -/
inductive Instr where
  /-- POWER_ON_RESET_RELEASE, R182. -/
  | powerOnResetRelease (dt : Passage) (levels : ReleaseLevels)
  /-- HARD_RESET_RELEASE, R190. -/
  | hardResetRelease (dt : Passage) (levels : ReleaseLevels)
  /-- RESET_ASSERTED, R166. -/
  | resetAsserted (dt : Passage) (input : ResetInput)
  /-- SCAN_END, R165. `cutMark` is how the scan reads a lock mark whose writing was cut off. -/
  | scanEnd (dt : Passage) (cutMark : MarkReading)
  /-- POWER_FAIL_WARNING_ASSERTED, R186. -/
  | powerFailWarningAsserted (dt : Passage)
  /-- POWER_FAIL_WARNING_DEASSERTED, R187. -/
  | powerFailWarningDeasserted (dt : Passage)
  /-- RELEASE_TIMER_EXPIRY, R187. -/
  | releaseTimerExpiry (dt : Passage)
  /-- CONFIGURATION_RECHECK, R188. -/
  | configurationRecheck (dt : Passage)
  /-- DEMAND_SAMPLE, R4. The four inputs that R5 reads. -/
  | demandSample (dt : Passage) (handle : BitVec 10) (cab handleEmergency trainLine : Bool)
  /-- DEMAND_FRAME_TIMER_EXPIRY, R9. -/
  | demandFrameTimerExpiry (dt : Passage)
  /-- SPEED_SWEEP, R49. -/
  | speedSweep (dt : Passage)
  /-- TACHOMETER_EDGE, R50. -/
  | tachometerEdge (dt : Passage) (axle : Nat)
  /-- BLEND_COMPUTATION, R22. -/
  | blendComputation (dt : Passage)
  /-- CONVERTER_FEEDBACK, R85. `chars` are the characters of the message as received. -/
  | converterFeedback (dt : Passage) (chars : List Byte)
  /-- STALENESS_EXPIRY, R86. -/
  | stalenessExpiry (dt : Passage)
  /-- REQUEST_MESSAGE, R84. -/
  | requestMessage (dt : Passage)
  /-- PRESSURE_SAMPLE, R93. -/
  | pressureSample (dt : Passage) (truck1 truck2 : BitVec 10)
  /-- REPORT_TIMER_EXPIRY, R105. -/
  | reportTimerExpiry (dt : Passage)
  /-- FIRST_GOES_ON_AIR, R107. `idle` is the line idle time, in bit times, at which the row falls (log entry 12). -/
  | firstGoesOnAir (dt : Passage) (idle : Nat)
  /-- RETRY_ATTEMPT, R109. `idle` is the line idle time, in bit times, at which the row falls (log entry 12). -/
  | retryAttempt (dt : Passage) (idle : Nat)
  /-- ATTEMPT_SUCCESS, R109. -/
  | attemptSuccess (dt : Passage)
  /-- COLLISION, R108. -/
  | collision (dt : Passage)
  /-- JAM_END, R108. -/
  | jamEnd (dt : Passage)
  /-- FRAMER_IDLE, R99. -/
  | framerIdle (dt : Passage)
  /-- FRAME_COMPLETE, R99. `chars` are the characters of the frame that no passage has brought to the receive buffer. -/
  | frameComplete (dt : Passage) (chars : List Byte)
  /-- SILENCE_EXPIRY, R120. -/
  | silenceExpiry (dt : Passage) (station : Nat)
  /-- UNHEARD_EXPIRY, R123. -/
  | unheardExpiry (dt : Passage)
  /-- DUPLICATE_EXPIRY, R126. -/
  | duplicateExpiry (dt : Passage)
  /-- SNAPSHOT, R132. -/
  | snapshot (dt : Passage)
  /-- WRITE_COMPLETE, R160. -/
  | writeComplete (dt : Passage) (readBack : ReadBack)
  /-- ERASE_COMPLETE, R161. `clear` says whether every location reads back clear. -/
  | eraseComplete (dt : Passage) (clear : Bool)
  /-- LOCK_COMPLETE, R162. -/
  | lockComplete (dt : Passage) (mark : MarkReading)
  /-- UNLOCK_COMPLETE, R163. -/
  | unlockComplete (dt : Passage) (mark : MarkReading)
  /-- SELECT_ASSERTED, R168. -/
  | selectAsserted (dt : Passage)
  /-- SELECT_RELEASED, R170. -/
  | selectReleased (dt : Passage)
  /-- UNKNOWN_COMMAND, R171. `params` are the parameter bytes that the command declares. -/
  | unknownCommand (dt : Passage) (code : Byte) (params : List Byte)
  /-- GET_STATUS, R172. -/
  | getStatus (dt : Passage) (params : List Byte)
  /-- GET_ROSTER, R173. -/
  | getRoster (dt : Passage) (params : List Byte)
  /-- LOAD_CONFIG, R174. -/
  | loadConfig (dt : Passage) (params : List Byte)
  /-- START, R175. -/
  | start (dt : Passage) (params : List Byte)
  /-- GET_DIRECTORY, R177. -/
  | getDirectory (dt : Passage) (params : List Byte)
  /-- READ_INCIDENT, R178. -/
  | readIncident (dt : Passage) (params : List Byte)
  /-- READ_EVENTS, R178. -/
  | readEvents (dt : Passage) (params : List Byte)
  /-- READ_HISTORY, R179. -/
  | readHistory (dt : Passage) (params : List Byte)
  /-- LOCK_SLOT, R180. -/
  | lockSlot (dt : Passage) (params : List Byte)
  /-- UNLOCK_SLOT, R180. `maintenance` is the maintenance input as R156 step 7 reads it. -/
  | unlockSlot (dt : Passage) (params : List Byte) (maintenance : Bool)
  /-- ERASE_SLOT, R180. -/
  | eraseSlot (dt : Passage) (params : List Byte)
  /-- MARK, R181. -/
  | mark (dt : Passage) (params : List Byte)
  /-- FRAME_DISCARDED, R99. -/
  | frameDiscarded (dt : Passage) (cause : DiscardCause)
  deriving DecidableEq, Repr

/-- What has passed since the command before (log entry 1). -/
def Instr.dt : Instr → Passage
  | .powerOnResetRelease dt _ => dt
  | .hardResetRelease dt _ => dt
  | .resetAsserted dt _ => dt
  | .scanEnd dt _ => dt
  | .powerFailWarningAsserted dt => dt
  | .powerFailWarningDeasserted dt => dt
  | .releaseTimerExpiry dt => dt
  | .configurationRecheck dt => dt
  | .demandSample dt _ _ _ _ => dt
  | .demandFrameTimerExpiry dt => dt
  | .speedSweep dt => dt
  | .tachometerEdge dt _ => dt
  | .blendComputation dt => dt
  | .converterFeedback dt _ => dt
  | .stalenessExpiry dt => dt
  | .requestMessage dt => dt
  | .pressureSample dt _ _ => dt
  | .reportTimerExpiry dt => dt
  | .firstGoesOnAir dt _ => dt
  | .retryAttempt dt _ => dt
  | .attemptSuccess dt => dt
  | .collision dt => dt
  | .jamEnd dt => dt
  | .framerIdle dt => dt
  | .frameComplete dt _ => dt
  | .silenceExpiry dt _ => dt
  | .unheardExpiry dt => dt
  | .duplicateExpiry dt => dt
  | .snapshot dt => dt
  | .writeComplete dt _ => dt
  | .eraseComplete dt _ => dt
  | .lockComplete dt _ => dt
  | .unlockComplete dt _ => dt
  | .selectAsserted dt => dt
  | .selectReleased dt => dt
  | .unknownCommand dt _ _ => dt
  | .getStatus dt _ => dt
  | .getRoster dt _ => dt
  | .loadConfig dt _ => dt
  | .start dt _ => dt
  | .getDirectory dt _ => dt
  | .readIncident dt _ => dt
  | .readEvents dt _ => dt
  | .readHistory dt _ => dt
  | .lockSlot dt _ => dt
  | .unlockSlot dt _ _ => dt
  | .eraseSlot dt _ => dt
  | .mark dt _ => dt
  | .frameDiscarded dt _ => dt

end Sys2Proof
end

