-- ==== Sys2Proof/Config.lean ====
section
/-!
DEFINITION. What the manual leaves open: constants without a body, so that no proof can see their value.

Every one of them is reached only where a stored configuration record breaks the ranges of R189. LOAD_CONFIG and
the INIT test refuse such a record, so only a change in the record's storage (R188) can bring it about, and the
manual states no result for it until the recheck finds it. Log entry 8.
-/

namespace Sys2Proof

/-- FREE VALUE (log entry 8). The quotient of `a` by 0: R89 divides by `R_air` and R35 by the sum of ratings, both of
which R189 keeps above 0. -/
opaque Config.quotientByZero (a : Nat) : Nat

/-- FREE VALUE (log entry 8). The capability curve at a speed that lies in no interval of the curve points: R24 takes
the points' speeds as strictly increasing and their count as 2..8. -/
opaque Config.curveOffPoints (v : Nat) : Nat

end Sys2Proof
end

