-- ==== Sys2Proof/Machine/State.lean ====
section
/-!
DEFINITION. The state of the BX416, block by block (chapter 00, section 3.1), as plain data, and the state right after a
power-on reset.

Quantities are the manual's integers in the manual's units (R1). Times are readings of the two 32-bit counters. A timer is
`none` while it is stopped; while it runs it holds the local time of its start or of its last expiry on its own grid.
-/

namespace Sys2Proof.Machine

open Sys2Proof

/-- A timer: stopped, or running since the local time given (R3). -/
abbrev Timer := Option Time

/-! ### Named values (R197) -/

/-- The device mode (R182). -/
inductive Mode where
  | init
  | config
  | run
  | safe
  deriving DecidableEq, Repr

/-- The demand state (R11). -/
inductive DemandState where
  | none
  | fresh
  | held
  deriving DecidableEq, Repr

/-- The emergency state (R15, R18). -/
inductive EmergencyState where
  | clear
  | emergency
  deriving DecidableEq, Repr

/-- The blend mode (R29). -/
inductive BlendMode where
  | localBlend
  | sharedBlend
  deriving DecidableEq, Repr

/-- An axle's status (R54). -/
inductive AxleStatus where
  | ok
  | suspect
  | noEdge
  deriving DecidableEq, Repr

/-- A truck's slide state (R72). -/
inductive SlideState where
  | normal
  | watch
  | relieve
  | hold
  | reapply
  | lockout
  deriving DecidableEq, Repr

/-- The command to a truck's valve lines (R72, R91). -/
inductive Valve where
  | apply
  | hold
  | vent
  deriving DecidableEq, Repr

/-- What a station offers the consist. The Output Stage holds BLEND or AIR; OUT is reported in SAFE (R85, R21). -/
inductive Participation where
  | blend
  | air
  | out
  deriving DecidableEq, Repr

/-- The three kinds of frame (R98). -/
inductive FrameKind where
  | report
  | demand
  | notice
  deriving DecidableEq, Repr

/-- The receive framer (R99). -/
inductive Framer where
  | idle
  | receiving
  | ignoring
  deriving DecidableEq, Repr

/-- The state of a roster entry (R115, R116). -/
inductive EntryState where
  | absent
  | joining
  | present
  | stale
  | lost
  | self
  deriving DecidableEq, Repr

/-- The twelve trigger sources (R135). -/
inductive Source where
  | emergency
  | slideLockout
  | peerLost
  | demandLost
  | demandConflict
  | shortfall
  | airMismatch
  | duplicateStation
  | peerNotice
  | unheard
  | manual
  | power
  deriving DecidableEq, Repr

/-- The two incident classes. -/
inductive Class where
  | note
  | severe
  deriving DecidableEq, Repr

/-- The capture state (R139, R141, R144). -/
inductive CaptureState where
  | idle
  | filling
  | committing
  deriving DecidableEq, Repr

/-- The state of a slot (R153). -/
inductive SlotState where
  | free
  | writing
  | stored
  | locked
  | damaged
  | erasing
  deriving DecidableEq, Repr

/-- The framer of the service port (R168). -/
inductive PortFramer where
  | idle
  | receiving
  | answering
  | ignoring
  deriving DecidableEq, Repr

/-! ### Clocks and pins -/

/-- The device's clocks: local time in ms (R1) and the microsecond counter (chapter 3), both starting at 0 at the release
of a reset. `phase` is the MODEL'S OWN field: the microseconds of the present millisecond that have passed. -/
structure Clock where
  ms : Time
  us : Time
  phase : Nat
  deriving DecidableEq, Repr

/-- The input pins as the device last read them (section 11.5). The two reset inputs are true while asserted. -/
structure Pins where
  handlePort : BitVec 10
  cabActive : Bool
  handleEmergency : Bool
  trainLine : Bool
  pressure1 : BitVec 10
  pressure2 : BitVec 10
  maintenance : Bool
  select : Bool
  stationStrap : BitVec 3
  sixAxlesStrap : Bool
  powerOnReset : Bool
  hardReset : Bool
  deriving DecidableEq, Repr

/-! ### Demand Unit (chapter 1) -/

/-- The content of a DEMAND frame: D and the emergency flag (R7, R103). -/
structure DemandContent where
  d : Nat
  emergency : Bool
  deriving DecidableEq, Repr

/-- The Demand Unit's state (chapter 1). `line` in a name is the emergency train line. -/
structure DemandUnit where
  handle : Nat
  handleEmergency : Bool
  lineEmergency : Bool
  controlling : Bool
  lastEnqueued : Option DemandContent
  state : DemandState
  dEff : Nat
  heldSince : Time
  conflictOpen : Bool
  lossOpen : Bool
  lastLogged : Nat
  emergency : EmergencyState
  entryTime : Time
  latch : Bool
  sampleTimer : Timer
  frameTimer : Timer
  deriving DecidableEq, Repr

/-! ### Blend Unit (chapter 2) -/

/-- The Blend Unit's state: `avail` is A_own, `target` T, `dyn` Dyn, `shortfall` S, `dTarget` d_t, `air` a_own. -/
structure BlendUnit where
  timer : Timer
  mode : BlendMode
  avail : Nat
  target : Nat
  dyn : Nat
  shortfall : Nat
  dTarget : Nat
  air : Nat
  shortfallSince : Option Time
  shortfallOpen : Bool
  deriving DecidableEq, Repr

/-! ### Speed Unit (chapter 3) -/

/-- One axle's state (chapter 3). The three edge times are readings of the microsecond counter. -/
structure Axle where
  edgeCount : Nat
  newestEdge : Option Time
  firstNewEdge : Option Time
  lastEdge : Option Time
  speed : Nat
  prevSpeed : Nat
  status : AxleStatus
  recoverySince : Option Time
  deriving DecidableEq, Repr

/-- The Speed Unit's state: six axles, axle 1 first, of which the first four or all six are served (R47), and the axle
constants in use (R48). -/
structure SpeedUnit where
  constants : Option (List Nat)
  axles : List Axle
  vRef : Nat
  refHold : Bool
  initialising : Bool
  sweepTimer : Timer
  deriving DecidableEq, Repr

/-! ### Slide Unit (chapter 4) -/

/-- One truck's slide state (chapter 4). -/
structure Truck where
  state : SlideState
  factor : Nat
  valve : Valve
  releaseTime : Nat
  quietSince : Option Time
  deriving DecidableEq, Repr

/-- The Slide Unit's state. -/
structure SlideUnit where
  truck1 : Truck
  truck2 : Truck
  lockoutSeen : Bool
  deriving DecidableEq, Repr

/-! ### Output Stage (chapter 5) -/

/-- What the Output Stage holds for one truck: the valve drive, the measured pressure and the mismatch watch. -/
structure TruckOutput where
  drive : Valve
  pMeas : Nat
  sensorFault : Bool
  mismatchSince : Option Time
  mismatchOpen : Bool
  deriving DecidableEq, Repr

/-- The request message on the converter link (R84): its two fields as taken when it began, and the microsecond reading of
that moment. -/
structure RequestMessage where
  effort : Nat
  valid : Bool
  begun : Time
  deriving DecidableEq, Repr

/-- The Output Stage's state. -/
structure OutputStage where
  dReq : Nat
  pReq : Nat
  valid : Bool
  truck1 : TruckOutput
  truck2 : TruckOutput
  eOwn : Nat
  lConv : Nat
  participation : Participation
  stalenessTimer : Timer
  pressureTimer : Timer
  request : Option RequestMessage
  deriving DecidableEq, Repr

/-! ### Line Controller (chapter 6) -/

/-- The 20 bytes of a REPORT payload, field by field (R192). Exactly as received or sent, fill included (R193). -/
structure ReportPayload where
  participation : Byte
  flags : Byte
  vRef : BitVec 16
  r : BitVec 16
  a : BitVec 16
  e : BitVec 16
  dEcho : BitVec 16
  relief : Byte
  lockout : Byte
  view : Byte
  lastIncident : BitVec 16
  fill1 : Byte
  fill2 : Byte
  fill3 : Byte
  deriving DecidableEq, Repr

/-- The content of a NOTICE frame (R103). -/
structure NoticeContent where
  number : Nat
  cause : Source
  cls : Class
  deriving DecidableEq, Repr

/-- The content of a frame on air. -/
inductive FrameContent where
  | report (p : ReportPayload)
  | demand (c : DemandContent)
  | notice (c : NoticeContent)
  deriving DecidableEq, Repr

/-- The transmit queue (R104). A queued REPORT has no content yet: it is taken when the REPORT first goes on air. -/
structure TxQueue where
  notices : List NoticeContent
  demand : Option DemandContent
  report : Bool
  deriving DecidableEq, Repr

/-- What the transmitter is doing with the frame on air: sending an attempt, driving the jam, or waiting to retry. The two
times are microsecond readings. -/
inductive AirPhase where
  | sending (since : Time)
  | jamming (since : Time)
  | waiting
  deriving DecidableEq, Repr

/-- The frame on air with its header's sequence number (R100, R106). -/
structure OnAir where
  content : FrameContent
  seq : Byte
  phase : AirPhase
  deriving DecidableEq, Repr

/-- The Line Controller's state. `idleMicros` is the line idle time, in microseconds (a bit time is 4 of them, R97). The
candidate is a function of the queue and the frame on air (R106), `Line.candidate`. -/
structure LineController where
  queue : TxQueue
  onAir : Option OnAir
  attempts : Nat
  idleMicros : Nat
  nextReportSeq : Byte
  nextDemandSeq : Byte
  nextNoticeSeq : Byte
  reportTimer : Timer
  framer : Framer
  buffer : List Byte
  echo : Bool
  deriving DecidableEq, Repr

/-! ### Peer Roster (chapter 7) -/

/-- The latest DEMAND received from a station (R128). -/
structure LatestDemand where
  d : BitVec 16
  emergency : Bool
  arrival : Time
  deriving DecidableEq, Repr

/-- One roster entry (R115). The own entry holds its six fields in `held`, the other bytes zero (R116, R196). -/
structure Entry where
  state : EntryState
  lastSeq : Option Byte
  lastHeard : Option Time
  joinCount : Nat
  held : Option ReportPayload
  latestDemand : Option LatestDemand
  lastNotice : Option (BitVec 16)
  deriving DecidableEq, Repr

/-- The Peer Roster's state: eight entries, station 1 first. -/
structure Roster where
  entries : List Entry
  unheard : Bool
  unheardSince : Option Time
  duplicate : Bool
  duplicateExpiry : Option Time
  deriving DecidableEq, Repr

/-! ### Recorder (chapter 8) -/

/-- A snapshot (R133). Masks hold bit n − 1 for station n. -/
structure Snapshot where
  time : Time
  mode : Mode
  dEff : Nat
  demandState : DemandState
  emergency : EmergencyState
  target : Nat
  dTarget : Nat
  air : Nat
  blendMode : BlendMode
  dReq : Nat
  pReq : Nat
  eOwn : Nat
  vRef : Nat
  pMeas1 : Nat
  pMeas2 : Nat
  slide1 : SlideState
  factor1 : Nat
  slide2 : SlideState
  factor2 : Nat
  presentMask : Byte
  staleMask : Byte
  deriving DecidableEq, Repr

/-- An event's kind with its fields (R134). -/
inductive EventKind where
  | peerState (station : Nat) (old new : EntryState)
  | demand (value : Nat) (emergency : Bool) (source : Nat)
  | emergencyEnter
  | emergencyExit
  | slide (truck : Nat) (new : SlideState)
  | secondaryTrigger (cause : Source) (cls : Class)
  | noticeHeard (originator : Nat) (number : Nat)
  | lineDiscard (kind : FrameKind)
  | mode (old new : Mode)
  deriving DecidableEq, Repr

/-- An entry of the event ring. -/
structure Event where
  time : Time
  kind : EventKind
  deriving DecidableEq, Repr

/-- The originator station and number that a PEER_NOTICE carries (R135). -/
structure Originator where
  station : Nat
  number : Nat
  deriving DecidableEq, Repr

/-- The six flags of an incident (R138). -/
structure IncidentFlags where
  truncated : Bool
  eventsTruncated : Bool
  noticeNotSent : Bool
  power : Bool
  lockRefused : Bool
  storeError : Bool
  deriving DecidableEq, Repr

/-- The capture image (R138). `kept` is the MODEL'S OWN mark of an image kept through a hard reset (R151, R164). -/
structure Image where
  number : Nat
  cause : Source
  cls : Class
  triggerTime : Time
  openingTime : Time
  station : Nat
  configCheck : BitVec 16
  originator : Option Originator
  secondary : Nat
  flags : IncidentFlags
  noticeEnqueued : Bool
  pre : List Snapshot
  post : List Snapshot
  events : List Event
  kept : Bool
  deriving DecidableEq, Repr

/-- The pending trigger (R146). -/
structure Pending where
  cause : Source
  cls : Class
  triggerTime : Time
  originator : Option Originator
  merged : Nat
  power : Bool
  deriving DecidableEq, Repr

/-- The Recorder's state: the last occurrence times stand in the order of the source codes (R197). -/
structure Recorder where
  history : List Snapshot
  events : List Event
  lastOccurrence : List (Option Time)
  capture : CaptureState
  image : Option Image
  pendingTrigger : Option Pending
  lastOpened : Nat
  snapshotTimer : Timer
  deriving DecidableEq, Repr

/-! ### Store Controller (chapter 9) -/

/-- A stored incident header (R154). -/
structure Header where
  number : Nat
  cause : Source
  cls : Class
  triggerTime : Time
  openingTime : Time
  station : Nat
  configCheck : BitVec 16
  originator : Option Originator
  secondary : Nat
  flags : IncidentFlags
  preCount : Nat
  postCount : Nat
  eventCount : Nat
  deriving DecidableEq, Repr

/-- One slot of the non-volatile store (chapter 9). `header` is the slot's valid header, `mark` its lock mark (absent while
it is being written), `tag` the operation tag, `clear` whether every location reads clear. `snapshots` and `events` are the
stored items as the array's bytes. `writing` is the number being written while the slot is WRITING, and 0 otherwise. -/
structure Slot where
  state : SlotState
  header : Option Header
  snapshots : List Byte
  events : List Byte
  mark : Option MarkReading
  tag : Bool
  clear : Bool
  writing : Nat
  deriving DecidableEq, Repr

/-- The current operation (R155). A WRITE carries the lock decision of R158 step 4. -/
inductive Operation where
  | none
  | scan
  | write (slot : Nat) (lock : Bool) (refused : Bool)
  | erase (slot : Nat)
  | lock (slot : Nat)
  | unlock (slot : Nat)
  deriving DecidableEq, Repr

/-- The operations whose completion leaves a result (R157). -/
inductive OpKind where
  | write
  | erase
  | lock
  | unlock
  deriving DecidableEq, Repr

/-- A last operation result (R157): `done` is DONE, otherwise VERIFY_FAILED. -/
structure OpResult where
  kind : OpKind
  slot : Nat
  done : Bool
  deriving DecidableEq, Repr

/-- The Store Controller's state: sixteen slots, slot 1 first. The store-busy flag, the LOCKED count and the directory are
functions of it: `Store.busy`, `Store.lockedCount`, `directoryEntryBytes`. -/
structure Store where
  slots : List Slot
  nextNumber : Nat
  op : Operation
  lastResult : Option OpResult
  deriving DecidableEq, Repr

/-! ### Service Port (chapter 10) -/

/-- A formed response with its read position (R168). -/
structure Response where
  bytes : List Byte
  position : Nat
  deriving DecidableEq, Repr

/-- The Service Port's state. `shift` is the MODEL'S OWN field: the bits of the present byte received so far, the latest in
the lowest place. `dataOut` is the level of the data-out wire, true at its idle level. -/
structure ServicePort where
  framer : PortFramer
  buffer : List Byte
  bitCount : Nat
  shift : Byte
  response : Option Response
  dataOut : Bool
  deriving DecidableEq, Repr

/-! ### Mode Controller (chapter 11) -/

/-- A configuration record as its storage holds it, with its check value (R189). -/
structure ConfigRecord where
  bytes : List Byte
  check : BitVec 16
  deriving DecidableEq, Repr

/-- A loaded record with the axle constants that the Speed Unit holds with it (R48, R174). -/
structure LoadedRecord where
  record : ConfigRecord
  constants : List Nat
  deriving DecidableEq, Repr

/-- The Mode Controller's state. `powerOnDue` is the MODEL'S OWN mark that the reset in progress has power-on reset among
its overlapping assertions (R182). -/
structure ModeController where
  mode : Mode
  station : Nat
  axleCount : Nat
  active : Option ConfigRecord
  loaded : Option LoadedRecord
  recheckTimer : Timer
  recheckFailed : Bool
  warning : Bool
  releaseTimer : Timer
  powerOnDue : Bool
  deriving DecidableEq, Repr

/-! ### The machine -/

/-- Why a step stops with a fault. -/
inductive Fault where
  /-- Raised by the entry common to all commands, in RUN or SAFE without an active record. SAFE (it stops where the device
  cannot be): the device reaches RUN and SAFE only with an active record (R48, R183, R184), and "has no value of its own to
  fall back on" (section 11.3). No state that meets `Safe` raises it. -/
  | noActiveRecord
  deriving DecidableEq, Repr

/-- Why a step is refused. -/
inductive Refusal where
  /-- The command has no meaning yet. SAFE. Raised by no arm of `exec`. -/
  | notModelled (mnemonic : String)
  deriving DecidableEq, Repr

/-- The whole state. `pending` is the queue of waiting commands, first in, first out. -/
structure State where
  pending : List Instr
  clock : Clock
  pins : Pins
  demand : DemandUnit
  blend : BlendUnit
  speed : SpeedUnit
  slide : SlideUnit
  output : OutputStage
  line : LineController
  roster : Roster
  recorder : Recorder
  store : Store
  port : ServicePort
  control : ModeController
  deriving DecidableEq, Repr

/-! ### Reset values, block by block -/

/-- R20. -/
def DemandUnit.reset : DemandUnit where
  handle := 0
  handleEmergency := false
  lineEmergency := false
  controlling := false
  lastEnqueued := none
  state := .none
  dEff := 0
  heldSince := 0
  conflictOpen := false
  lossOpen := false
  lastLogged := 0
  emergency := .clear
  entryTime := 0
  latch := false
  sampleTimer := none
  frameTimer := none

/-- R46. -/
def BlendUnit.reset : BlendUnit where
  timer := none
  mode := .localBlend
  avail := 0
  target := 0
  dyn := 0
  shortfall := 0
  dTarget := 0
  air := 0
  shortfallSince := none
  shortfallOpen := false

/-- R63, one axle. -/
def Axle.reset : Axle where
  edgeCount := 0
  newestEdge := none
  firstNewEdge := none
  lastEdge := none
  speed := 0
  prevSpeed := 0
  status := .noEdge
  recoverySince := none

/-- R63. -/
def SpeedUnit.reset : SpeedUnit where
  constants := none
  axles := List.replicate 6 Axle.reset
  vRef := 0
  refHold := false
  initialising := false
  sweepTimer := none

/-- R83, one truck; also what entry to NORMAL gives (R67, R68, R82). -/
def Truck.reset : Truck where
  state := .normal
  factor := 50
  valve := .apply
  releaseTime := 0
  quietSince := none

/-- R83. -/
def SlideUnit.reset : SlideUnit where
  truck1 := Truck.reset
  truck2 := Truck.reset
  lockoutSeen := false

/-- R96, one truck. -/
def TruckOutput.reset : TruckOutput where
  drive := .apply
  pMeas := 0
  sensorFault := false
  mismatchSince := none
  mismatchOpen := false

/-- R96. No request message has begun at the release. -/
def OutputStage.reset : OutputStage where
  dReq := 0
  pReq := 0
  valid := false
  truck1 := TruckOutput.reset
  truck2 := TruckOutput.reset
  eOwn := 0
  lConv := 0
  participation := .air
  stalenessTimer := none
  pressureTimer := none
  request := none

/-- An empty transmit queue. -/
def TxQueue.empty : TxQueue where
  notices := []
  demand := none
  report := false

/-- R114. -/
def LineController.reset : LineController where
  queue := TxQueue.empty
  onAir := none
  attempts := 0
  idleMicros := 0
  nextReportSeq := 0
  nextDemandSeq := 0
  nextNoticeSeq := 0
  reportTimer := none
  framer := .ignoring
  buffer := []
  echo := false

/-- R131, one entry. -/
def Entry.reset : Entry where
  state := .absent
  lastSeq := none
  lastHeard := none
  joinCount := 0
  held := none
  latestDemand := none
  lastNotice := none

/-- R131. -/
def Roster.reset : Roster where
  entries := List.replicate 8 Entry.reset
  unheard := false
  unheardSince := none
  duplicate := false
  duplicateExpiry := none

/-- R152, the power-on column. -/
def Recorder.reset : Recorder where
  history := []
  events := []
  lastOccurrence := List.replicate 12 none
  capture := .idle
  image := none
  pendingTrigger := none
  lastOpened := 0
  snapshotTimer := none

/-- A slot with every location clear (R165), its mark and header cleared by an ERASE (R161). -/
def Slot.blank : Slot where
  state := .free
  header := none
  snapshots := []
  events := []
  mark := some .unlocked
  tag := false
  clear := true
  writing := 0

/-- R167 before the scan, over a store that holds nothing (DESIGN CHOICE, log entry 4: the manual states no content for the
store of a new device). The next incident number is 0 until the scan recovers it (R172). -/
def Store.reset : Store where
  slots := List.replicate 16 Slot.blank
  nextNumber := 0
  op := .scan
  lastResult := none

/-- R170, with select deasserted at the release. -/
def ServicePort.reset : ServicePort where
  framer := .idle
  buffer := []
  bitCount := 0
  shift := 0
  response := none
  dataOut := true

/-- R190, the power-on column, with the straps and the warning at the low level (DESIGN CHOICE, log entry 4). -/
def ModeController.reset : ModeController where
  mode := .init
  station := 1
  axleCount := 4
  active := none
  loaded := none
  recheckTimer := none
  recheckFailed := false
  warning := false
  releaseTimer := none
  powerOnDue := false

/-- Both counters at 0 (R1, R63). -/
def Clock.reset : Clock where
  ms := 0
  us := 0
  phase := 0

/-- Every input at its low or deasserted level (DESIGN CHOICE, log entry 4). -/
def Pins.reset : Pins where
  handlePort := 0
  cabActive := false
  handleEmergency := false
  trainLine := false
  pressure1 := 0
  pressure2 := 0
  maintenance := false
  select := false
  stationStrap := 0
  sixAxlesStrap := false
  powerOnReset := false
  hardReset := false

/-- The machine right after the release of a power-on reset: mode INIT, the store scan under way, no command waiting. -/
def State.reset : State where
  pending := []
  clock := Clock.reset
  pins := Pins.reset
  demand := DemandUnit.reset
  blend := BlendUnit.reset
  speed := SpeedUnit.reset
  slide := SlideUnit.reset
  output := OutputStage.reset
  line := LineController.reset
  roster := Roster.reset
  recorder := Recorder.reset
  store := Store.reset
  port := ServicePort.reset
  control := ModeController.reset

/-! ### One update per block: the only way the operations change the state -/

/-- `s` with its `pending` replaced. -/
def State.setPending (s : State) (v : List Instr) : State := { s with pending := v }

/-- `s` with its `clock` replaced. -/
def State.setClock (s : State) (v : Clock) : State := { s with clock := v }

/-- `s` with its `pins` replaced. -/
def State.setPins (s : State) (v : Pins) : State := { s with pins := v }

/-- `s` with its `demand` replaced. -/
def State.setDemand (s : State) (v : DemandUnit) : State := { s with demand := v }

/-- `s` with its `blend` replaced. -/
def State.setBlend (s : State) (v : BlendUnit) : State := { s with blend := v }

/-- `s` with its `speed` replaced. -/
def State.setSpeed (s : State) (v : SpeedUnit) : State := { s with speed := v }

/-- `s` with its `slide` replaced. -/
def State.setSlide (s : State) (v : SlideUnit) : State := { s with slide := v }

/-- `s` with its `output` replaced. -/
def State.setOutput (s : State) (v : OutputStage) : State := { s with output := v }

/-- `s` with its `line` replaced. -/
def State.setLine (s : State) (v : LineController) : State := { s with line := v }

/-- `s` with its `roster` replaced. -/
def State.setRoster (s : State) (v : Roster) : State := { s with roster := v }

/-- `s` with its `recorder` replaced. -/
def State.setRecorder (s : State) (v : Recorder) : State := { s with recorder := v }

/-- `s` with its `store` replaced. -/
def State.setStore (s : State) (v : Store) : State := { s with store := v }

/-- `s` with its `port` replaced. -/
def State.setPort (s : State) (v : ServicePort) : State := { s with port := v }

/-- `s` with its `control` replaced. -/
def State.setControl (s : State) (v : ModeController) : State := { s with control := v }

end Sys2Proof.Machine
end

