-- ==== Sys2Proof/Machine/Bytes.lean ====
section
/-!
DEFINITION. Bytes: byte order (chapter 12), the check value (R191), and the roundings of R2.
-/

namespace Sys2Proof.Machine

open Sys2Proof

/-- The byte of a number below 256. -/
def byteOf (n : Nat) : Byte := BitVec.ofNat 8 n

/-- The byte of a flag: 1 when set and 0 when clear, also where the manual gives a one-byte flag no encoding (DESIGN CHOICE, log
entry 30). -/
def flagByte (b : Bool) : Byte := if b then 1 else 0

/-- A 16-bit word, most significant byte first (chapter 12). -/
def wordBytes (w : BitVec 16) : List Byte := [w.extractLsb' 8 8, w.extractLsb' 0 8]

/-- A number in 2 bytes, most significant byte first; of a number above 65535, for which the manual states no bytes, its value
modulo 2^16 (DESIGN CHOICE, log entry 8). -/
def natBytes2 (n : Nat) : List Byte := wordBytes (BitVec.ofNat 16 n)

/-- A time in 4 bytes, most significant byte first. -/
def timeBytes (t : Time) : List Byte :=
  [t.extractLsb' 24 8, t.extractLsb' 16 8, t.extractLsb' 8 8, t.extractLsb' 0 8]

/-- The byte at an offset; offsets past the end read as 0. -/
def byteAt (bs : List Byte) (i : Nat) : Byte := bs.getD i 0

/-- The 16-bit word at an offset, most significant byte first. -/
def wordAt (bs : List Byte) (i : Nat) : BitVec 16 := byteAt bs i ++ byteAt bs (i + 1)

/-- The number in the byte at an offset. -/
def natAt (bs : List Byte) (i : Nat) : Nat := (byteAt bs i).toNat

/-- The number in the 2 bytes at an offset. -/
def natAt2 (bs : List Byte) (i : Nat) : Nat := (wordAt bs i).toNat

/-- The number in the 4 bytes at an offset. -/
def natAt4 (bs : List Byte) (i : Nat) : Nat := natAt2 bs i * 65536 + natAt2 bs (i + 2)

/-- A list cut or filled with zeros to a length. -/
def padTo (n : Nat) (bs : List Byte) : List Byte := (bs ++ List.replicate n 0).take n

/-- One bit entering the check register (R191). -/
def checkBit (reg : BitVec 16) (bit : Bool) : BitVec 16 :=
  if reg.msb != bit then (reg <<< 1) ^^^ 0x1021#16 else reg <<< 1

/-- One byte entering the check register, most significant bit first (R191). -/
def checkByte (reg : BitVec 16) (b : Byte) : BitVec 16 :=
  [7, 6, 5, 4, 3, 2, 1, 0].foldl (fun r i => checkBit r (b.getLsbD i)) reg

/-- The check value over bytes in their order (R98, R191). -/
def checkValue (bs : List Byte) : BitVec 16 := bs.foldl checkByte 0xFFFF#16

/-- Bytes that differ from others in the bits of `diff`; bytes past its end do not differ (R160). -/
def xorBytes : List Byte → List Byte → List Byte
  | [], _ => []
  | b :: bs, [] => b :: bs
  | b :: bs, d :: ds => (b ^^^ d) :: xorBytes bs ds

/-- The exact quotient rounded down (R2). A division by 0 gives the free value of Config. -/
def floorDiv (a b : Nat) : Nat := if b = 0 then Config.quotientByZero a else a / b

/-- The exact quotient rounded up (R2). -/
def ceilDiv (a b : Nat) : Nat := if b = 0 then Config.quotientByZero a else (a + b - 1) / b

/-- The exact quotient rounded half up (R2). -/
def roundDiv (a b : Nat) : Nat := if b = 0 then Config.quotientByZero a else (2 * a + b) / (2 * b)

/-- `n` clamped to lo..hi (R2). -/
def clamp (lo hi n : Nat) : Nat := if n < lo then lo else if hi < n then hi else n

/-- The distance between two numbers. -/
def absDiff (a b : Nat) : Nat := (a - b) + (b - a)

/-- A ring that holds the newest `n` items, oldest first (R132, R134). -/
def pushRing {α : Type} (n : Nat) (x : α) (ring : List α) : List α :=
  (ring ++ [x]).drop (ring.length + 1 - n)

end Sys2Proof.Machine
end

