-- ==== Sys2Proof/Machine/Codes.lean ====
section
/-!
DEFINITION. The codes of every coded item (R192, R194, R197).
-/

namespace Sys2Proof.Machine

open Sys2Proof

/-- The code of a mode. -/
def Mode.code : Mode → Byte
  | .init => 0
  | .config => 1
  | .run => 2
  | .safe => 3

/-- The code of a demand state. -/
def DemandState.code : DemandState → Byte
  | .none => 0
  | .fresh => 1
  | .held => 2

/-- The code of a emergency state. -/
def EmergencyState.code : EmergencyState → Byte
  | .clear => 0
  | .emergency => 1

/-- The code of a blend mode. -/
def BlendMode.code : BlendMode → Byte
  | .localBlend => 0
  | .sharedBlend => 1

/-- The code of a peer entry state. -/
def EntryState.code : EntryState → Byte
  | .absent => 0
  | .joining => 1
  | .present => 2
  | .stale => 3
  | .lost => 4
  | .self => 5

/-- The code of a capture state. -/
def CaptureState.code : CaptureState → Byte
  | .idle => 0
  | .filling => 1
  | .committing => 2

/-- The code of a slot state. -/
def SlotState.code : SlotState → Byte
  | .free => 0
  | .writing => 1
  | .stored => 2
  | .locked => 3
  | .damaged => 4
  | .erasing => 5

/-- The code of a store operation. -/
def Operation.code : Operation → Byte
  | .none => 0
  | .scan => 1
  | .write _ _ _ => 2
  | .erase _ => 3
  | .lock _ => 4
  | .unlock _ => 5

/-- The slot of an operation, 0 when it has none (R196). -/
def Operation.slot : Operation → Nat
  | .none => 0
  | .scan => 0
  | .write n _ _ => n
  | .erase n => n
  | .lock n => n
  | .unlock n => n

/-- The code of a store operation of a last result. -/
def OpKind.code : OpKind → Byte
  | .write => 2
  | .erase => 3
  | .lock => 4
  | .unlock => 5

/-- The code of a slide state. -/
def SlideState.code : SlideState → Byte
  | .normal => 0
  | .watch => 1
  | .relieve => 2
  | .hold => 3
  | .reapply => 4
  | .lockout => 5

/-- The code of a trigger source. -/
def Source.codeNat : Source → Nat
  | .emergency => 1
  | .slideLockout => 2
  | .peerLost => 3
  | .demandLost => 4
  | .demandConflict => 5
  | .shortfall => 6
  | .airMismatch => 7
  | .duplicateStation => 8
  | .peerNotice => 9
  | .unheard => 10
  | .manual => 11
  | .power => 12

/-- The code of a trigger source as a byte. -/
def Source.code (c : Source) : Byte := byteOf c.codeNat

/-- The source that a code names; none for 0 and for 13 and above. -/
def Source.ofCode : Nat → Option Source
  | 1 => some .emergency
  | 2 => some .slideLockout
  | 3 => some .peerLost
  | 4 => some .demandLost
  | 5 => some .demandConflict
  | 6 => some .shortfall
  | 7 => some .airMismatch
  | 8 => some .duplicateStation
  | 9 => some .peerNotice
  | 10 => some .unheard
  | 11 => some .manual
  | 12 => some .power
  | _ => none

/-- The code of a class (R192). -/
def Class.code : Class → Byte
  | .note => 0
  | .severe => 1

/-- The code of a frame kind (R192). -/
def FrameKind.code : FrameKind → Byte
  | .report => 1
  | .demand => 2
  | .notice => 3

/-- The kind that a kind byte names (R193). -/
def FrameKind.ofCode (b : Byte) : Option FrameKind :=
  match b.toNat with
  | 1 => some .report
  | 2 => some .demand
  | 3 => some .notice
  | _ => none

/-- The payload length of a kind (R98). -/
def FrameKind.payloadLength : FrameKind → Nat
  | .report => 20
  | .demand => 4
  | .notice => 6

/-- The code of a participation (R192). -/
def Participation.code : Participation → Byte
  | .blend => 1
  | .air => 2
  | .out => 3

/-- A participation byte as a reader takes it: any byte other than 1, 2 and 3 is OUT (R27, R193). -/
def Participation.ofByte (b : Byte) : Participation :=
  match b.toNat with
  | 1 => .blend
  | 2 => .air
  | _ => .out

/-- The code of a event kind. -/
def EventKind.code : EventKind → Byte
  | .peerState _ _ _ => 1
  | .demand _ _ _ => 2
  | .emergencyEnter => 3
  | .emergencyExit => 4
  | .slide _ _ => 5
  | .secondaryTrigger _ _ => 6
  | .noticeHeard _ _ => 7
  | .lineDiscard _ => 8
  | .mode _ _ => 9

/-- The result codes of a service response (R171, R194). -/
inductive ResultCode where
  | ok
  | busy
  | unknown
  | format
  | range
  | state
  | slotProtected
  | maintenance
  | limit
  | check
  deriving DecidableEq, Repr

/-- The code of a result (R194). -/
def ResultCode.code : ResultCode → Byte
  | .ok => 0
  | .busy => 1
  | .unknown => 2
  | .format => 3
  | .range => 4
  | .state => 5
  | .slotProtected => 6
  | .maintenance => 7
  | .limit => 8
  | .check => 9

end Sys2Proof.Machine
end

