-- ==== Sys2Proof/Machine/Operands.lean ====
section
/-!
DEFINITION. How the device reads what a command brings: the handle port (R5), a pressure input (R93), the characters of a
consist line frame (R98, R99, R193) and of a feedback message (R85, R193), and the parameters of a service command.
-/

namespace Sys2Proof.Machine

open Sys2Proof

/-- The raw handle value as a demand (R5). -/
def handleDemand (raw : BitVec 10) : Nat :=
  if raw.toNat < 20 then 0 else if raw.toNat ≤ 1000 then raw.toNat else 1000

/-- A pressure reading above 700 is no cylinder pressure (R93). -/
def pressureFault (reading : BitVec 10) : Bool := 700 < reading.toNat

/-- The start mark of a consist line frame (R192). -/
def startMark : Byte := 0xA7

/-- A received frame: one that passes every test of R99. -/
structure ReceivedFrame where
  kind : FrameKind
  station : Nat
  seq : Byte
  payload : List Byte
  deriving DecidableEq, Repr

/-- The tests of R99 on the characters of a complete frame, start mark first. -/
def parseFrame (chars : List Byte) : Option ReceivedFrame :=
  match chars with
  | start :: kindByte :: source :: seq :: len :: rest =>
    let payload := rest.take (rest.length - 2)
    match FrameKind.ofCode kindByte with
    | none => none
    | some kind =>
      if start = startMark ∧ 2 ≤ rest.length ∧ 1 ≤ source.toNat ∧ source.toNat ≤ 8 ∧
          len.toNat = kind.payloadLength ∧ payload.length = len.toNat ∧
          wordAt rest (rest.length - 2) = checkValue (kindByte :: source :: seq :: len :: payload) then
        some ⟨kind, source.toNat, seq, payload⟩
      else none
  | _ => none

/-- The effort and limit of a feedback message that R193 accepts: exactly 7 characters, the start byte 5B, a matching
check. -/
def parseFeedback (chars : List Byte) : Option (Nat × Nat) :=
  if chars.length = 7 ∧ byteAt chars 0 = 0x5B#8 ∧
      wordAt chars 5 = checkValue ((chars.drop 1).take 4) then
    some (natAt2 chars 1, natAt2 chars 3)
  else none

/-- The class that a MARK carries (R181, R195). -/
def classOfByte (b : Byte) : Option Class :=
  match b.toNat with
  | 0 => some .note
  | 1 => some .severe
  | _ => none

end Sys2Proof.Machine
end

