-- ==== Sys2Proof/Machine/Framer.lean ====
section
/-!
DEFINITION. The receive framer of the consist line: start bits, characters and discards (R99, R111).
-/

namespace Sys2Proof.Machine

open Sys2Proof

/-- A start bit at the framer: an IDLE one becomes RECEIVING with an empty buffer, and the echo mark says whether the own
transmitter drove the bit as the start of a start mark (R99, R111). In the other states nothing happens: a start bit inside a
frame belongs to the frame's next character. -/
def LineController.receive (own : Bool) (l : LineController) : LineController :=
  if l.framer = .idle then { l with framer := .receiving, buffer := [], echo := own } else l

/-- A complete character at a RECEIVING framer: added to the buffer, but for a first one that is not the start mark, at which the
frame is discarded (R99). -/
def LineController.collect (b : Byte) (l : LineController) : LineController :=
  if l.framer = .receiving then
    if l.buffer.isEmpty && b != startMark then { l with framer := .ignoring } else { l with buffer := l.buffer ++ [b] }
  else l

/-- What another station sends reaches the framer; a character begins with its start bit (R97, R99, R111). -/
def LineController.hear (l : LineController) : LineEvent → LineController
  | .startBit => l.receive false
  | .character b => (l.receive false).collect b

/-- The framer after a passage's traffic, in its order. -/
def LineController.heard (traffic : List LineEvent) (l : LineController) : LineController :=
  traffic.foldl LineController.hear l

/-- The recessive bits at the end of a character: the data bits of value 1 sent last, and the stop bit (R97). -/
def recessiveTail (b : Byte) : Nat := ([7, 6, 5, 4, 3, 2, 1, 0].takeWhile fun i => b.getLsbD i).length + 1

/-- A frame discarded before its end: the framer goes to IGNORING (R99). The buffer, which R99 empties at the next start bit, is
emptied here already (DESIGN CHOICE, log entry 28). The idle time is no longer than since the discarded character's last
dominant bit (R97). -/
def LineController.discard (idle : Nat) (l : LineController) : LineController :=
  { l with framer := .ignoring, buffer := [], idleMicros := min l.idleMicros idle }

/-- Whether a RECEIVING framer discards: at a dominant stop bit always, at a character when it is the frame's first and is no
start mark (R99). The other states discard nothing. -/
def LineController.discards (l : LineController) : DiscardCause → Bool
  | .dominantStopBit => l.framer == .receiving
  | .wrongStartMark char => l.framer == .receiving && l.buffer.isEmpty && char != startMark

/-- The recessive time at the end of a discarded character: none after a dominant stop bit, else the character's own recessive
end (R97). -/
def discardIdle : DiscardCause → Nat
  | .dominantStopBit => 0
  | .wrongStartMark char => 4 * recessiveTail char

/-- The line idle time in bit times of 4 µs (R97). -/
def LineController.idleBits (l : LineController) : Nat := l.idleMicros / 4

end Sys2Proof.Machine
end

