-- ==== Sys2Proof/Machine/Record.lean ====
section
/-!
DEFINITION. The configuration record: its parameters at their places in the 110 bytes (R196), the ranges and conditions
(R16, R23, R48, R58, R65, R87, R136, gathered in R189) and the axle constants (R48).
-/

namespace Sys2Proof.Machine

open Sys2Proof

/-- One trigger table entry as its four bytes give it (R136, R196). -/
structure TriggerEntry where
  enabled : Nat
  cls : Nat
  qualifier : Nat
  window : Nat
  deriving DecidableEq, Repr

/-- The parameters of a record (R189). `points` holds all eight slots, `wheels` all six. -/
structure Params where
  rOwn : Nat
  rAir : Nat
  pointCount : Nat
  points : List (Nat × Nat)
  j : Nat
  pTake : Nat
  pMax : Nat
  pEmer : Nat
  wheels : List Nat
  teeth : Nat
  vRise : Nat
  vFall : Nat
  sWatch : Nat
  sRelieve : Nat
  decelWatch : Nat
  tLockout : Nat
  tHold : Nat
  triggers : List TriggerEntry
  deriving DecidableEq, Repr

/-- The parameters at their offsets in the record (R196). -/
def Params.ofBytes (bs : List Byte) : Params where
  rOwn := natAt2 bs 0
  rAir := natAt2 bs 2
  pointCount := natAt bs 4
  points := (List.range 8).map fun i => (natAt2 bs (5 + 4 * i), natAt2 bs (7 + 4 * i))
  j := natAt bs 37
  pTake := natAt2 bs 38
  pMax := natAt2 bs 40
  pEmer := natAt2 bs 42
  wheels := (List.range 6).map fun i => natAt2 bs (44 + 2 * i)
  teeth := natAt bs 56
  vRise := natAt bs 57
  vFall := natAt bs 58
  sWatch := natAt2 bs 59
  sRelieve := natAt2 bs 61
  decelWatch := natAt bs 63
  tLockout := natAt2 bs 64
  tHold := natAt4 bs 66
  triggers := (List.range 10).map fun i =>
    ⟨natAt bs (70 + 4 * i), natAt bs (71 + 4 * i), natAt bs (72 + 4 * i), natAt bs (73 + 4 * i)⟩

/-- The number of bytes of a record (R196). -/
def recordLength : Nat := 110

/-- The curve points that are used: those up to the point count (R24). A record has eight; with a corrupted record whose point count
is above 8 (R188, R189) the eight are used and the eighth is the last (DESIGN CHOICE, log entry 8). -/
def Params.curve (p : Params) : List (Nat × Nat) := p.points.take p.pointCount

/-- A list that rises strictly. -/
def strictlyRising : List Nat → Bool
  | a :: b :: l => a < b && strictlyRising (b :: l)
  | _ => true

/-- The ranges of the trigger table entry of the source with code `own` (R136, R189). -/
def TriggerEntry.valid (own : Nat) (t : TriggerEntry) : Bool :=
  t.enabled ≤ 1 && t.cls ≤ 1 && t.qualifier ≤ 12 && t.qualifier != own &&
  (if t.qualifier = 0 then t.window == 0 else 1 ≤ t.window && t.window ≤ 30)

/-- The ranges and conditions of R189 for a device that serves `axles` axles. -/
def Params.valid (axles : Nat) (p : Params) : Bool :=
  (1 ≤ p.rOwn && p.rOwn ≤ 800) && (50 ≤ p.rAir && p.rAir ≤ 600) &&
  (2 ≤ p.pointCount && p.pointCount ≤ 8) &&
  p.curve.all (fun q => q.1 ≤ 16000 && q.2 ≤ 800) && strictlyRising (p.curve.map Prod.fst) &&
  (1 ≤ p.j && p.j ≤ 50) && (20 ≤ p.pTake && p.pTake ≤ 150) && (200 ≤ p.pMax && p.pMax ≤ 500) &&
  (200 ≤ p.pEmer && p.pEmer ≤ 600 && p.pMax ≤ p.pEmer) &&
  (p.wheels.take axles).all (fun d => 800 ≤ d && d ≤ 1300) && (40 ≤ p.teeth && p.teeth ≤ 200) &&
  (1 ≤ p.vRise && p.vRise ≤ 10) && (1 ≤ p.vFall && p.vFall ≤ 20) &&
  (10 ≤ p.sWatch && p.sWatch ≤ 200) && (20 ≤ p.sRelieve && p.sRelieve ≤ 400 && p.sWatch + 10 ≤ p.sRelieve) &&
  (2 ≤ p.decelWatch && p.decelWatch ≤ 30) &&
  (1000 ≤ p.tLockout && p.tLockout ≤ 10000 && p.tLockout % 10 == 0) &&
  (10000 ≤ p.tHold && p.tHold ≤ 120000 && p.tHold % 1000 == 0) &&
  (p.triggers.zipIdx 1).all (fun (t, own) => t.valid own)

/-- The parameters of a record. -/
def ConfigRecord.params (r : ConfigRecord) : Params := Params.ofBytes r.bytes

/-- Whether the record's bytes agree with its check value (R188). -/
def ConfigRecord.checks (r : ConfigRecord) : Bool := checkValue r.bytes == r.check

/-- The INIT test of a kept record: check value and every range (R183). -/
def ConfigRecord.valid (axles : Nat) (r : ConfigRecord) : Bool := r.checks && r.params.valid axles

/-- The axle constant: the distance in µm for each tooth (R48). -/
def axleConstant (wheel teeth : Nat) : Nat := roundDiv (355 * wheel * 1000) (113 * teeth)

/-- The axle constants of the served axles (R48). -/
def Params.constants (axles : Nat) (p : Params) : List Nat :=
  (p.wheels.take axles).map fun d => axleConstant d p.teeth

/-- The parameters in force: those of the active record. Without one there are none; the entry common to all commands stops
in RUN and SAFE before they are read (`Fault.noActiveRecord`). -/
def State.params (s : State) : Params :=
  match s.control.active with
  | some r => r.params
  | none => Params.ofBytes []

/-- The trigger table entry of a source, for the ten that have one (R136, R189). -/
def Params.trigger (p : Params) (c : Source) : TriggerEntry := p.triggers.getD (c.codeNat - 1) ⟨0, 0, 0, 0⟩

end Sys2Proof.Machine
end

