-- ==== Sys2Proof/Machine/Serial.lean ====
section
/-!
DEFINITION. The clocks of the service port: the bits of a command on data in and of a response on data out (R168).
-/

namespace Sys2Proof.Machine

open Sys2Proof

/-- Whether a command buffer holds a whole command: its header of three bytes and the declared number of parameter bytes
(R168). -/
def commandComplete (buffer : List Byte) : Bool := 3 ≤ buffer.length && buffer.length == 3 + natAt2 buffer 1

/-- The bits of the present byte with one more, most significant bit first (R168). -/
def shiftIn (bit : Bool) (bits : Byte) : Byte := bits <<< 1 ||| flagByte bit

/-- One clock while RECEIVING: a bit of the present byte, and at the eighth the byte enters the command buffer (R168). The
clock that completes a command is not among the clocks between commands: it is the taking of the command, which has a row
of its own, and here it leaves the port as it is (log entry 6). -/
def ServicePort.clockIn (bit : Bool) (p : ServicePort) : ServicePort :=
  if p.bitCount < 7 then { p with bitCount := p.bitCount + 1, shift := shiftIn bit p.shift }
  else if commandComplete (p.buffer ++ [shiftIn bit p.shift]) then p
  else { p with buffer := p.buffer ++ [shiftIn bit p.shift], bitCount := 0, shift := 0 }

/-- The byte that data out carries when the `k`-th byte of the response is clocked: all ones past its end (R168). -/
def Response.byteAt (r : Response) (k : Nat) : Byte := r.bytes.getD k 0xFF

/-- The read position after a byte has been clocked: the next byte of the response, or its end (R168). -/
def Response.next (r : Response) : Response := { r with position := min (r.position + 1) r.bytes.length }

/-- One clock while ANSWERING: data out carries the next bit of the response, most significant bit first, and data in is not
read (R168). -/
def ServicePort.clockOut (p : ServicePort) : ServicePort :=
  match p.response with
  | none => p
  | some r =>
    { p with
      bitCount := if p.bitCount < 7 then p.bitCount + 1 else 0
      response := some (if p.bitCount < 7 then r else r.next)
      dataOut := (r.byteAt r.position).getLsbD (7 - p.bitCount) }

/-- One clock. Clocks of an IDLE port, whose select is deasserted, are not counted, and an IGNORING port ignores its
transaction to the end (R168, R170). -/
def ServicePort.clock (p : ServicePort) (bit : Bool) : ServicePort :=
  match p.framer with
  | .receiving => p.clockIn bit
  | .answering => p.clockOut
  | .idle => p
  | .ignoring => p

/-- The port after clocks with the given levels of data in, in their order. -/
def ServicePort.clocked (bits : List Bool) (p : ServicePort) : ServicePort := bits.foldl ServicePort.clock p

/-- The eight bits of a byte in the order in which they pass (R168). -/
def byteBits (b : Byte) : List Bool := [7, 6, 5, 4, 3, 2, 1, 0].map fun i => b.getLsbD i

/-- Whether what the port has received of the present command is the beginning of these bytes, and less than all of them. -/
def ServicePort.begins (bytes : List Byte) (p : ServicePort) : Bool :=
  p.buffer.length < bytes.length && bytes.take p.buffer.length == p.buffer &&
  byteAt bytes p.buffer.length >>> (8 - p.bitCount) == p.shift

end Sys2Proof.Machine
end

