-- ==== Sys2Proof/Machine/Layouts.lean ====
section
/-!
DEFINITION. The byte layouts of the payloads, records and headers (R192, R196).
-/

namespace Sys2Proof.Machine

open Sys2Proof

/-! ### Payloads (R192, R193) -/

def ReportPayload.bytes (p : ReportPayload) : List Byte :=
  [p.participation, p.flags] ++ wordBytes p.vRef ++ wordBytes p.r ++ wordBytes p.a ++ wordBytes p.e ++
  wordBytes p.dEcho ++ [p.relief, p.lockout, p.view] ++ wordBytes p.lastIncident ++ [p.fill1, p.fill2, p.fill3]

/-- The REPORT payload of 20 bytes as received (R193). -/
def ReportPayload.ofBytes (bs : List Byte) : ReportPayload where
  participation := byteAt bs 0
  flags := byteAt bs 1
  vRef := wordAt bs 2
  r := wordAt bs 4
  a := wordAt bs 6
  e := wordAt bs 8
  dEcho := wordAt bs 10
  relief := byteAt bs 12
  lockout := byteAt bs 13
  view := byteAt bs 14
  lastIncident := wordAt bs 15
  fill1 := byteAt bs 17
  fill2 := byteAt bs 18
  fill3 := byteAt bs 19

/-- The bit of a station in a mask of stations (R192). -/
def maskBit (n : Nat) : Byte := 1#8 <<< (n - 1)

/-- Whether a mask names a station (R192). -/
def inMask (mask : Byte) (n : Nat) : Bool := mask.getLsbD (n - 1)

def DemandContent.bytes (c : DemandContent) : List Byte := natBytes2 c.d ++ [flagByte c.emergency, 0]

def NoticeContent.bytes (c : NoticeContent) : List Byte := natBytes2 c.number ++ [c.cause.code, c.cls.code, 0, 0]

def FrameContent.kind : FrameContent → FrameKind
  | .report _ => .report
  | .demand _ => .demand
  | .notice _ => .notice

def FrameContent.payload : FrameContent → List Byte
  | .report p => p.bytes
  | .demand c => c.bytes
  | .notice c => c.bytes

/-- A whole frame as the station sends it: start mark, header, payload, check (R98, R100, R192). -/
def frameBytes (station : Nat) (seq : Byte) (content : FrameContent) : List Byte :=
  let covered := [content.kind.code, byteOf station, seq, byteOf content.kind.payloadLength] ++ content.payload
  startMark :: covered ++ wordBytes (checkValue covered)

/-- A request message as it stands on the converter link (R193). Bits 1 to 7 of the valid byte are sent 0 (DESIGN CHOICE, log entry
30). -/
def RequestMessage.bytes (m : RequestMessage) : List Byte :=
  let covered := natBytes2 m.effort ++ [flagByte m.valid]
  0x5A#8 :: covered ++ wordBytes (checkValue covered)

/-! ### Records (R196) -/

/-- A snapshot, 34 bytes (R133, R196). With a record within R189 every value fits its bytes (R43). With a corrupted record (R188) T
in SHARED can lie above 65535, and R_air 0 makes p_req free: the manual does not say what the 2 bytes then hold, and the model
stores T and p_req modulo 2^16 (DESIGN CHOICE, log entry 8). -/
def Snapshot.bytes (x : Snapshot) : List Byte :=
  timeBytes x.time ++ [x.mode.code] ++ natBytes2 x.dEff ++ [x.demandState.code, x.emergency.code] ++
  natBytes2 x.target ++ natBytes2 x.dTarget ++ natBytes2 x.air ++ [x.blendMode.code] ++ natBytes2 x.dReq ++
  natBytes2 x.pReq ++ natBytes2 x.eOwn ++ natBytes2 x.vRef ++ natBytes2 x.pMeas1 ++ natBytes2 x.pMeas2 ++
  [x.slide1.code, byteOf x.factor1, x.slide2.code, byteOf x.factor2, x.presentMask, x.staleMask]

/-- The number of bytes of a snapshot (R196). -/
def snapshotLength : Nat := 34

/-- The four field bytes of an event, left-aligned, unused ones 0. -/
def EventKind.fieldBytes : EventKind → List Byte
  | .peerState n old new => [byteOf n, old.code, new.code, 0]
  | .demand value flag source => natBytes2 value ++ [flagByte flag, byteOf source]
  | .emergencyEnter => [0, 0, 0, 0]
  | .emergencyExit => [0, 0, 0, 0]
  | .slide truck new => [byteOf truck, new.code, 0, 0]
  | .secondaryTrigger cause cls => [cause.code, cls.code, 0, 0]
  | .noticeHeard n number => byteOf n :: natBytes2 number ++ [0]
  | .lineDiscard kind => [kind.code, 0, 0, 0]
  | .mode old new => [old.code, new.code, 0, 0]

def Event.bytes (x : Event) : List Byte := timeBytes x.time ++ [x.kind.code] ++ x.kind.fieldBytes

/-- The number of bytes of an event (R196). -/
def eventLength : Nat := 9

/-- The flags byte of an incident: truncated, events truncated, notice not sent, POWER, lock refused, store error, from bit
0 up (R196). Bits 6 and 7 are 0 (DESIGN CHOICE, log entry 30). -/
def IncidentFlags.byte (f : IncidentFlags) : Byte :=
  byteOf (f.truncated.toNat + 2 * f.eventsTruncated.toNat + 4 * f.noticeNotSent.toNat + 8 * f.power.toNat +
    16 * f.lockRefused.toNat + 32 * f.storeError.toNat)

/-- The originator's station byte and number, 0 when absent. -/
def originatorBytes : Option Originator → List Byte
  | none => [0, 0, 0]
  | some o => byteOf o.station :: natBytes2 o.number

/-- An incident header, 23 bytes. -/
def Header.bytes (h : Header) : List Byte :=
  natBytes2 h.number ++ [h.cause.code, h.cls.code] ++ timeBytes h.triggerTime ++ timeBytes h.openingTime ++
  [byteOf h.station] ++ wordBytes h.configCheck ++ originatorBytes h.originator ++
  [byteOf h.secondary, h.flags.byte, byteOf h.preCount, byteOf h.postCount, byteOf h.eventCount]

/-- The directory entry of slot `n`, 16 bytes, with the fields its state gives (R154, R196). Bits 2 to 7 of the presence byte are 0
(DESIGN CHOICE, log entry 30). -/
def directoryEntryBytes (n : Nat) (x : Slot) : List Byte :=
  match x.state, x.header with
  | .writing, _ => [byteOf n, x.state.code, 1] ++ natBytes2 x.writing ++ List.replicate 11 0
  | .stored, some h => stored h
  | .locked, some h => stored h
  | _, _ => [byteOf n, x.state.code, 0] ++ List.replicate 13 0
where
  /-- The entry of a slot that holds an incident. -/
  stored (h : Header) : List Byte :=
    [byteOf n, x.state.code, 3] ++ natBytes2 h.number ++ [h.cause.code, h.cls.code] ++ timeBytes h.triggerTime ++
    [h.flags.byte, byteOf h.preCount, byteOf h.postCount, byteOf h.eventCount, byteOf h.secondary]

/-- The latest demand as GET_ROSTER gives it, zeros when absent. -/
def latestDemandBytes : Option LatestDemand → List Byte
  | none => List.replicate 7 0
  | some x => wordBytes x.d ++ [flagByte x.emergency] ++ timeBytes x.arrival

/-- The roster entry of station `n`, 38 bytes (R173, R196). Bits 4 to 7 of the presence byte are 0 (DESIGN CHOICE, log entry 30). -/
def rosterEntryBytes (n : Nat) (x : Entry) : List Byte :=
  [byteOf n, x.state.code,
    byteOf (x.lastSeq.isSome.toNat + 2 * x.held.isSome.toNat + 4 * x.latestDemand.isSome.toNat +
      8 * x.lastNotice.isSome.toNat),
    x.lastSeq.getD 0] ++ timeBytes (x.lastHeard.getD 0) ++ [byteOf x.joinCount] ++
  (match x.held with | some p => p.bytes | none => List.replicate 20 0) ++
  latestDemandBytes x.latestDemand ++ wordBytes (x.lastNotice.getD 0)

end Sys2Proof.Machine
end

