-- ==== Sys2Proof/Machine/Wire.lean ====
section
/-!
DEFINITION. The levels that the own transmitter drives on the consist line, bit by bit, and how long the last dominant one of
them has been over (R97, R108). A level is recessive (`true`) or dominant (`false`); a bit takes 4 µs.
-/

namespace Sys2Proof.Machine

open Sys2Proof

/-- The ten levels of a character: the start bit, the eight data bits with the least significant first, the stop bit (R97). -/
def charLevels (b : Byte) : List Bool := false :: [0, 1, 2, 3, 4, 5, 6, 7].map (fun i => b.getLsbD i) ++ [true]

/-- The levels of consecutive characters, with no gap between them (R97). -/
def frameLevels (chars : List Byte) : List Bool := chars.flatMap charLevels

/-- The levels of the jam: dominant for 16 bit times (R108). -/
def jamLevels : List Bool := List.replicate 16 false

/-- The microseconds from the end of the last dominant bit to now, when the first of the levels began `sent` microseconds ago:
0 in a dominant bit, and past the last level the line is left recessive (R97). -/
def sinceDominant (levels : List Bool) (sent : Nat) : Nat :=
  sent - 4 * ((levels.take (sent / 4 + 1)).reverse.dropWhile id).length

/-- What the own transmitter drives: when it began, and the levels from there on. It drives an attempt and a jam, and nothing
while a frame waits (R108, R109). `own` is the station number in the header (R100). -/
def LineController.drive (own : Nat) (l : LineController) : Option (Time × List Bool) :=
  match l.onAir with
  | some ⟨content, seq, .sending since⟩ => some (since, frameLevels (frameBytes own seq content))
  | some ⟨_, _, .jamming since⟩ => some (since, jamLevels)
  | _ => none

end Sys2Proof.Machine
end

