-- ==== Sys2Proof/Machine/Clock.lean ====
section
/-!
DEFINITION. Local time, the microsecond counter, timers, and the entry common to all commands (R1, R3).
-/

namespace Sys2Proof.Machine

open Sys2Proof

/-- The present local time (R1). -/
def State.now (s : State) : Time := s.clock.ms

/-- The present reading of the microsecond counter (chapter 3). -/
def State.micros (s : State) : Time := s.clock.us

/-- The time elapsed between two readings of one counter, modulo 2^32 (R1). -/
def elapsed (since now : Time) : Nat := (now - since).toNat

/-- Whether a timer of the given period expires: it runs, and the period has elapsed since its start or its last expiry
(R3). -/
def timerDue (t : Timer) (period : Nat) (now : Time) : Bool :=
  match t with
  | none => false
  | some since => period ≤ elapsed since now

/-- A periodic timer after an expiry: its next expiry lies one period after this one on the timer's own grid (R3). -/
def timerNext (t : Timer) (period : Nat) : Timer := t.map fun since => since + BitVec.ofNat 32 period

/-- The clock after `dt` microseconds. -/
def Clock.advance (dt : Nat) (c : Clock) : Clock where
  ms := c.ms + BitVec.ofNat 32 ((c.phase + dt) / 1000)
  us := c.us + BitVec.ofNat 32 dt
  phase := (c.phase + dt) % 1000

/-- The line idle time after a passage that ends at `now`: it runs while the line stays recessive, and counts from the end of
the last dominant bit seen, be it another station's or one that the own transmitter drives; a station that sends measures it
from the line too (R97). -/
def LineController.idleAfter (own : Nat) (now : Time) (dt : Passage) (l : LineController) : Nat :=
  let heard := match dt.dominant with
    | some since => min since dt.micros
    | none => l.idleMicros + dt.micros
  match l.drive own with
  | some (since, levels) => min heard (sinceDominant levels (elapsed since now))
  | none => heard

/-- The characters of the own frame that are complete by `now`, when the framer receives it: the transmitter's attempt is under
way, and the frame being received is the own one (R99, R108, R111). A character takes 40 µs (R97). -/
def LineController.ownHeard (own : Nat) (now : Time) (l : LineController) : Option (List Byte) :=
  match l.onAir with
  | some ⟨content, seq, .sending since⟩ =>
    if l.framer = .receiving ∧ l.echo = true then some ((frameBytes own seq content).take (elapsed since now / 40)) else none
  | _ => none

/-- The receive framer after a passage that ends at `now`. While the own transmitter sends the frame that it receives, what is on
the line is that frame (R108: a bit that does not match is a collision, which has its own row), so its characters are the own
ones; else they are the passage's traffic (R99). In INIT the framer takes nothing from the line (R99). -/
def LineController.framed (mode : Mode) (own : Nat) (now : Time) (traffic : List LineEvent) (l : LineController) : LineController :=
  if mode = .init then l
  else match l.ownHeard own now with
    | some chars => { l with buffer := chars }
    | none => l.heard traffic

/-- What passes before a command: both counters run, the clocks of the service port move its transaction, the receive framer
hears the line, and the line idle time is counted (R1, R97, R99, R168). -/
def State.advance (dt : Passage) (s : State) : State :=
  let now := (s.clock.advance dt.micros).us
  ((s.setClock (s.clock.advance dt.micros)).setPort (s.port.clocked dt.clocks)).setLine
    { s.line.framed s.control.mode s.control.station now dt.traffic with
      idleMicros := s.line.idleAfter s.control.station now dt }

/-- Whether a reset input is asserted. -/
def State.heldInReset (s : State) : Bool := s.pins.powerOnReset || s.pins.hardReset

/-- Whether the blocks work without an active record, which the device never does (R48, R184). -/
def State.lacksRecord (s : State) : Bool :=
  (s.control.mode == .run || s.control.mode == .safe) && s.control.active.isNone

/-- The entry common to all commands but those of the resets. The passage takes place; a device held in reset does nothing (log entry 5);
a device without the record it works by stops. -/
def perform (dt : Passage) (effect : State → State) (s : State) : Host.Outcome State Fault Refusal :=
  let t := s.advance dt
  if t.heldInReset then .next t
  else if t.lacksRecord then .fault .noActiveRecord
  else .next (effect t)

end Sys2Proof.Machine
end

