-- ==== Sys2Proof/Machine/Flags.lean ====
section
/-!
DEFINITION. The flags and masks that the device computes: the REPORT's flags and slide summary (R81, R102), the masks of
stations (R102, R133), and the flags of the status block (R196).
-/

namespace Sys2Proof.Machine

open Sys2Proof

/-- A byte from its bits, bit 0 first. -/
def byteOfBits (bits : List Bool) : Byte :=
  (bits.zipIdx).foldl (fun acc (b, i) => if b then acc ||| (1#8 <<< i) else acc) 0

/-- Whether either truck is in LOCKOUT (R81). -/
def SlideUnit.lockoutPresent (u : SlideUnit) : Bool := u.truck1.state == .lockout || u.truck2.state == .lockout

/-- Whether a truck counts for the relief count (R81). -/
def Truck.inRelief (t : Truck) : Bool := t.state == .relieve || t.state == .hold || t.state == .reapply

/-- The relief count (R81). -/
def SlideUnit.reliefCount (u : SlideUnit) : Nat := u.truck1.inRelief.toNat + u.truck2.inRelief.toNat

/-- The flags byte of a REPORT: controlling, emergency, unheard, duplicate, lockout-present, ref-hold, safe (R102, R192). -/
def State.reportFlags (s : State) : Byte :=
  byteOfBits [s.demand.controlling, s.demand.emergency == .emergency, s.roster.unheard, s.roster.duplicate,
    s.slide.lockoutPresent, s.speed.refHold, s.control.mode == .safe]

/-- The mask of the stations whose entries are in a state. -/
def Roster.maskOf (st : EntryState) (r : Roster) : Byte :=
  byteOfBits (r.entries.map fun e => e.state == st)

/-- The view mask of a REPORT, which is also a snapshot's PRESENT mask: the stations whose entries are PRESENT (R102,
R133). -/
def Roster.viewMask (r : Roster) : Byte := r.maskOf .present

/-- A snapshot's STALE mask, in which station n has the bit that it has in the view mask (R133; log entry 30). -/
def Roster.staleMask (r : Roster) : Byte := r.maskOf .stale

/-- Set while the current operation is other than NONE (R155). -/
def Store.busy (st : Store) : Bool := st.op != .none

/-- The number of slots in state LOCKED (R153). -/
def Store.lockedCount (st : Store) : Nat := st.slots.countP fun x => x.state == .locked

/-- The flags byte of the status block: UNHEARD, DUPLICATE, pending, store-busy, from bit 0 up (R196). Bits 4 to 7 are 0 (DESIGN
CHOICE, log entry 30). -/
def State.statusFlags (s : State) : Byte :=
  byteOfBits [s.roster.unheard, s.roster.duplicate, s.recorder.pendingTrigger.isSome, s.store.busy]

end Sys2Proof.Machine
end

