-- ==== Sys2Proof/Machine/Ops.lean ====
section
/-!
DEFINITION. The operations that the blocks share: logging an event (R134), handing a frame to the transmit queue (R104,
R113), beginning a WRITE (R158, R159), and raising a trigger source with all that a firing does (R137 to R148).
-/

namespace Sys2Proof.Machine

open Sys2Proof

/-! ### Roster entries -/

/-- The entry of a station; stations outside 1..8 have none. -/
def Roster.entry? (r : Roster) (n : Nat) : Option Entry := if n = 0 then none else r.entries[n - 1]?

/-- The roster with the entry of station `n` replaced. -/
def Roster.setEntry (r : Roster) (n : Nat) (e : Entry) : Roster := { r with entries := r.entries.set (n - 1) e }

/-- The own roster entry's fields as the device holds them for itself (R116): participation, R, A, E, V_ref and D_echo, the
other bytes zero. -/
def ownFields (p : Participation) (r a e vRef dEcho : Nat) : ReportPayload where
  participation := p.code
  flags := 0
  vRef := BitVec.ofNat 16 vRef
  r := BitVec.ofNat 16 r
  a := BitVec.ofNat 16 a
  e := BitVec.ofNat 16 e
  dEcho := BitVec.ofNat 16 dEcho
  relief := 0
  lockout := 0
  view := 0
  lastIncident := 0
  fill1 := 0
  fill2 := 0
  fill3 := 0

/-- The own entry in state SELF with the given fields (R116). -/
def Entry.ownSelf (p : ReportPayload) : Entry := { Entry.reset with state := .self, held := some p }

/-! ### Events -/

/-- An event offered to the image of a FILLING capture (R142). -/
def Image.offer (e : Event) (img : Image) : Image :=
  if img.events.length < 48 then { img with events := img.events ++ [e] }
  else { img with flags := { img.flags with eventsTruncated := true } }

/-- The Recorder after an event: appended to the event ring, and offered to the image while FILLING (R134, R142). -/
def Recorder.log (e : Event) (r : Recorder) : Recorder :=
  { r with
    events := pushRing 32 e r.events
    image := if r.capture = .filling then r.image.map (Image.offer e) else r.image }

/-- An event is logged at the present local time (R134). -/
def logEvent (k : EventKind) (s : State) : State := s.setRecorder (s.recorder.log ⟨s.now, k⟩)

/-! ### The transmit queue -/

/-- A NOTICE is returned to the Recorder as not sent: the flag is set in the image that holds its number (R140). -/
def Recorder.noticeReturned (number : Nat) (r : Recorder) : Recorder :=
  { r with image := r.image.map fun img =>
      if img.number = number then { img with flags := { img.flags with noticeNotSent := true } } else img }

/-- `Recorder.noticeReturned` on the whole state. -/
def noticeReturned (number : Nat) (s : State) : State := s.setRecorder (s.recorder.noticeReturned number)

/-- A queue is put in place of the transmit queue. -/
def LineController.withQueue (q : TxQueue) (l : LineController) : LineController := { l with queue := q }

/-- A DEMAND is enqueued: accepted in RUN, where it replaces a queued one, and lost otherwise (R104, R113). -/
def enqueueDemand (c : DemandContent) (s : State) : State :=
  if s.control.mode = .run then s.setLine (s.line.withQueue { s.line.queue with demand := some c }) else s

/-- A REPORT is enqueued: accepted in RUN and SAFE, where it replaces a queued one (R104, R113). -/
def enqueueReport (s : State) : State :=
  if s.control.mode = .run ∨ s.control.mode = .safe then
    s.setLine (s.line.withQueue { s.line.queue with report := true })
  else s

/-- A NOTICE is enqueued: accepted in RUN behind at most one other, and otherwise refused and returned as not sent (R104,
R113). -/
def enqueueNotice (c : NoticeContent) (s : State) : State :=
  if s.control.mode = .run ∧ s.line.queue.notices.length < 2 then
    s.setLine (s.line.withQueue { s.line.queue with notices := s.line.queue.notices ++ [c] })
  else noticeReturned c.number s

/-! ### Beginning a WRITE -/

/-- The number after `n`, cyclically: 65535 is followed by 1 (R164). -/
def nextIncident (n : Nat) : Nat := if n = 65535 then 1 else n + 1

/-- How far the number `n` lies behind the next incident number (R159). -/
def distanceBehind (next n : Nat) : Nat := (next + 2 * 65535 - n - 1) % 65535 + 1

/-- The number of a slot's incident; a slot in STORED or LOCKED has one. -/
def Slot.number (x : Slot) : Nat := match x.header with | some h => h.number | none => 0

/-- The slots with their numbers, slot 1 first. -/
def Store.numbered (st : Store) : List (Slot × Nat) := st.slots.zipIdx 1

/-- The lowest-numbered slot in a state. -/
def Store.lowest (st : Store) (want : SlotState) : Option Nat :=
  (st.numbered.find? fun (x, _) => x.state == want).map Prod.snd

/-- The oldest STORED slot, the lower-numbered of two that hold the same number (R159). -/
def Store.oldestStored (st : Store) : Option Nat :=
  ((st.numbered.filter fun (x, _) => x.state == .stored).foldl pick none).map Prod.fst
where
  /-- The older of the slot found so far and another, with its distance. -/
  pick (best : Option (Nat × Nat)) (c : Slot × Nat) : Option (Nat × Nat) :=
    let d := distanceBehind st.nextNumber c.1.number
    match best with
    | none => some (c.2, d)
    | some b => if b.2 < d then some (c.2, d) else some b

/-- The slot that a WRITE chooses (R159). -/
def Store.chooseSlot (st : Store) : Option Nat :=
  (st.lowest .free).or ((st.lowest .damaged).or st.oldestStored)

/-- The slot with number `n`; numbers outside 1..16 name none. -/
def Store.slot? (st : Store) (n : Nat) : Option Slot := if n = 0 then none else st.slots[n - 1]?

/-- The store with slot `n` replaced. -/
def Store.setSlot (st : Store) (n : Nat) (x : Slot) : Store := { st with slots := st.slots.set (n - 1) x }

/-- A slot at the beginning of a WRITE under an incident number: its former content is gone and the operation tag stands in
it (R158). Until the completion it holds no items and an unlocked mark (DESIGN CHOICE, log entry 29). -/
def Slot.beginWrite (number : Nat) : Slot :=
  { Slot.blank with state := .writing, tag := true, clear := false, writing := number }

/-- The number a WRITE assigns: the next incident number, but an image kept through a hard reset keeps its own (R158,
R164). -/
def Store.assigned (st : Store) (img : Image) : Nat := if img.kept then img.number else st.nextNumber

/-- A WRITE of an image begins in slot `n` (R158). -/
def Store.beginWrite (n : Nat) (img : Image) (st : Store) : Store :=
  let number := st.assigned img
  let severe := img.cls == .severe
  let room := decide (st.lockedCount < 12)
  { st.setSlot n (Slot.beginWrite number) with
    nextNumber := nextIncident number
    op := .write n (severe && room) (severe && !room) }

/-- A commit that finds the store idle begins its WRITE; with an operation in flight it waits (R145, R158). -/
def beginCommit (s : State) : State :=
  match s.recorder.capture, s.recorder.image, s.store.op with
  | .committing, some img, .none =>
    match s.store.chooseSlot with
    | some n => s.setStore (s.store.beginWrite n img)
    | none => s
  | _, _, _ => s

/-! ### Incidents -/

/-- A NOTICE is enqueued for the image when its class is SEVERE, its cause is not PEER_NOTICE and none has been handed over
(R140). -/
def offerNotice (s : State) : State :=
  match s.recorder.image with
  | none => s
  | some img =>
    if img.cls = .severe ∧ img.cause ≠ .peerNotice ∧ img.noticeEnqueued = false then
      enqueueNotice ⟨img.number, img.cause, img.cls⟩
        (s.setRecorder { s.recorder with image := some { img with noticeEnqueued := true } })
    else s

/-- The image flags at an opening: every flag clear but POWER, which a POWER opening sets (R139, R144, R148). -/
def IncidentFlags.opening (power : Bool) : IncidentFlags where
  truncated := false
  eventsTruncated := false
  noticeNotSent := false
  power := power
  lockRefused := false
  storeError := false

/-- The check value of the active record, for incident headers (R139). -/
def State.configCheck (s : State) : BitVec 16 := match s.control.active with | some r => r.check | none => 0

/-- The capture image that an opening forms at the present local time (R139 steps 1 to 3, R148). -/
def State.openedImage (p : Pending) (s : State) : Image where
  number := s.store.nextNumber
  cause := p.cause
  cls := p.cls
  triggerTime := p.triggerTime
  openingTime := s.now
  station := s.control.station
  configCheck := s.configCheck
  originator := p.originator
  secondary := p.merged
  flags := IncidentFlags.opening p.power
  noticeEnqueued := false
  pre := s.recorder.history
  post := []
  events := s.recorder.events.filter fun e => elapsed e.time s.now ≤ 6400
  kept := false

/-- An incident is opened (R139, R144, R148): from a firing in IDLE, or at a write completion from the pending trigger. -/
def openIncident (p : Pending) (s : State) : State :=
  let img := s.openedImage p
  let s := s.setRecorder { s.recorder with
    image := some img
    lastOpened := img.number
    capture := if p.power then .committing else .filling }
  beginCommit (offerNotice s)

/-- The class after a merge: SEVERE as soon as one of the two is (R143, R147). -/
def Class.max (a b : Class) : Class := if a = .severe ∨ b = .severe then .severe else .note

/-- The image after a merged firing: the count, which stops at 255, and the class (R143). -/
def Image.merge (cls : Class) (img : Image) : Image :=
  { img with secondary := min 255 (img.secondary + 1), cls := img.cls.max cls }

/-- A firing merges into the incident while FILLING (R143). -/
def mergeIntoImage (p : Pending) (s : State) : State :=
  let s := logEvent (.secondaryTrigger p.cause p.cls) s
  offerNotice (s.setRecorder { s.recorder with image := s.recorder.image.map (Image.merge p.cls) })

/-- A POWER firing ends the FILLING window (R144). -/
def endFillingOnPower (s : State) : State :=
  beginCommit (s.setRecorder { s.recorder with
    image := s.recorder.image.map fun img => { img with flags := { img.flags with power := true } }
    capture := .committing })

/-- The pending trigger after a firing merged into it (R147). -/
def Pending.merge (p f : Pending) : Pending :=
  { p with merged := min 255 (p.merged + 1), cls := p.cls.max f.cls, power := p.power || f.power }

/-- A firing in COMMITTING becomes the pending trigger, or merges into it (R146, R147). -/
def holdFiring (f : Pending) (s : State) : State :=
  match s.recorder.pendingTrigger with
  | none => s.setRecorder { s.recorder with pendingTrigger := some f }
  | some p =>
    let s := logEvent (.secondaryTrigger f.cause f.cls) s
    s.setRecorder { s.recorder with pendingTrigger := some (p.merge f) }

/-- What a firing does, by the capture state (R137). -/
def fire (f : Pending) (s : State) : State :=
  match s.recorder.capture with
  | .idle => openIncident f s
  | .filling => if f.power then endFillingOnPower (mergeIntoImage f s) else mergeIntoImage f s
  | .committing => holdFiring f s

/-- The last occurrence time of the source with a code. -/
def Recorder.lastOccurrenceOf (r : Recorder) (code : Nat) : Option Time :=
  (r.lastOccurrence.getD (code - 1) none)

/-- Whether an entry's qualifier, if it has one, has occurred within its window (R137). -/
def TriggerEntry.qualified (t : TriggerEntry) (r : Recorder) (now : Time) : Bool :=
  if t.qualifier = 0 then true
  else match r.lastOccurrenceOf t.qualifier with
    | none => false
    | some since => elapsed since now ≤ t.window * 1000

/-- Whether a raising of a source fires in this state (R137). -/
def State.fires (c : Source) (s : State) : Bool :=
  (s.control.mode == .run || s.control.mode == .safe) &&
  (c == .power || c == .manual ||
    ((s.params.trigger c).enabled == 1 && (s.params.trigger c).qualified s.recorder s.now))

/-- The class of a firing: SEVERE for POWER, the MARK's for MANUAL, the trigger table's otherwise (R135, R136). A class byte
other than 0 and 1, which only a corrupted record can have (R188, R189), is read as NOTE (DESIGN CHOICE, log entry 16). -/
def State.classOf (c : Source) (given : Class) (s : State) : Class :=
  match c with
  | .power => .severe
  | .manual => given
  | _ => if (s.params.trigger c).cls = 1 then .severe else .note

/-- A source is raised (R137): its last occurrence time is set, and the raising fires if it may. `given` is a MARK's class
and `orig` a PEER_NOTICE's originator. -/
def raiseWith (c : Source) (given : Class) (orig : Option Originator) (s : State) : State :=
  let s := s.setRecorder { s.recorder with
    lastOccurrence := s.recorder.lastOccurrence.set (c.codeNat - 1) (some s.now) }
  if s.fires c then fire ⟨c, s.classOf c given, s.now, orig, 0, c == .power⟩ s else s

/-- A source that carries nothing is raised (R135). -/
def raise (c : Source) (s : State) : State := raiseWith c .note none s

end Sys2Proof.Machine
end

