-- ==== Sys2Proof/Machine/Output.lean ====
section
/-!
DEFINITION. The Output Stage: the converter link, the dynamic and pressure requests, valves and valid line, pressure
feedback and the mismatch watch (R84 to R95).
-/

namespace Sys2Proof.Machine

open Sys2Proof

/-! ### The converter link -/

/-- Feedback values as taken: clamped to 0..800, participation BLEND, the staleness timer started anew (R85). -/
def OutputStage.feedback (e l : Nat) (now : Time) (o : OutputStage) : OutputStage :=
  { o with eOwn := min e 800, lConv := min l 800, participation := .blend, stalenessTimer := some now }

/-- A feedback message: taken when it passes the tests of R193, discarded otherwise (R85). -/
def converterFeedbackEffect (chars : List Byte) (s : State) : State :=
  match parseFeedback chars with
  | some (e, l) => s.setOutput (s.output.feedback e l s.now)
  | none => s

/-- CONVERTER_FEEDBACK (R85). -/
def execConverterFeedback (dt : Passage) (chars : List Byte) (s : State) : Host.Outcome State Fault Refusal :=
  perform dt (converterFeedbackEffect chars) s

/-- The feedback is stale (R86). -/
def OutputStage.stale (o : OutputStage) : OutputStage :=
  { o with eOwn := 0, lConv := 0, participation := .air, stalenessTimer := none }

/-- The staleness timer's expiry, 100 ms after the last accepted message (R86). -/
def stalenessEffect (s : State) : State :=
  if timerDue s.output.stalenessTimer 100 s.now then s.setOutput s.output.stale else s

/-- STALENESS_EXPIRY (R86). -/
def execStalenessExpiry (dt : Passage) (s : State) : Host.Outcome State Fault Refusal := perform dt stalenessEffect s

/-- Whether the next request message begins: none has begun since the release, or 80 bit times have passed since the last one
began (R84, R193). -/
def OutputStage.requestDue (micros : Time) (o : OutputStage) : Bool :=
  match o.request with
  | none => true
  | some m => 320 ≤ elapsed m.begun micros

/-- A request message begins and takes d_req and the valid line (R84). -/
def requestMessageEffect (s : State) : State :=
  if s.output.requestDue s.micros then
    s.setOutput { s.output with request := some ⟨s.output.dReq, s.output.valid, s.micros⟩ }
  else s

/-- REQUEST_MESSAGE (R84). -/
def execRequestMessage (dt : Passage) (s : State) : Host.Outcome State Fault Refusal := perform dt requestMessageEffect s

/-! ### The requests at a blend completion -/

/-- The dynamic request: the ramp by J and the cut to A_own (R88). -/
def dynamicRequest (j prev target avail : Nat) : Nat :=
  let candidate := if prev ≤ target then min target (prev + j) else max target (prev - j)
  min candidate avail

/-- The pressure request from the own air effort (R89). R189 keeps p_max above p_take; with a corrupted record that has it
below, the difference counts as 0 and the request is p_take (DESIGN CHOICE, log entry 8). -/
def pressureRequest (pTake pMax rAir air : Nat) : Nat :=
  if air = 0 then 0 else pTake + roundDiv ((pMax - pTake) * min air rAir) rAir

/-- The requests formed at a blend completion from d_t, a_own, A_own and the emergency state handed over (R38, R88 to R90). -/
def OutputStage.handOff (p : Params) (em : EmergencyState) (dTarget air avail : Nat) (o : OutputStage) : OutputStage :=
  match em with
  | .clear =>
    { o with dReq := dynamicRequest p.j o.dReq dTarget avail, pReq := pressureRequest p.pTake p.pMax p.rAir air }
  | .emergency => { o with dReq := dynamicRequest p.j o.dReq 0 avail, pReq := p.pEmer }

/-! ### Valve lines -/

/-- The supply-cut line of a valve drive (R91). -/
def Valve.supplyCut : Valve → Bool
  | .apply => false
  | .hold => true
  | .vent => true

/-- The exhaust line of a valve drive (R91). -/
def Valve.exhaust : Valve → Bool
  | .apply => false
  | .hold => false
  | .vent => true

/-! ### Entry to RUN and SAFE -/

/-- The valid line at entry to RUN; the requests stand at 0 until the first blend completion (R92). -/
def OutputStage.enterRun (o : OutputStage) : OutputStage := { o with valid := true, dReq := 0, pReq := 0 }

/-- One truck at entry to SAFE: APPLY, and its mismatch run and episode end (R92, R94). -/
def TruckOutput.toSafe (t : TruckOutput) : TruckOutput :=
  { t with drive := .apply, mismatchSince := none, mismatchOpen := false }

/-- The outputs at entry to SAFE (R92, R94). -/
def OutputStage.toSafe (o : OutputStage) : OutputStage :=
  { o with valid := false, dReq := 0, pReq := 0, truck1 := o.truck1.toSafe, truck2 := o.truck2.toSafe }

/-! ### Pressure feedback and the mismatch watch -/

/-- A pressure reading taken (R93). -/
def TruckOutput.read (reading : BitVec 10) (t : TruckOutput) : TruckOutput :=
  if pressureFault reading then { t with sensorFault := true }
  else { t with pMeas := reading.toNat, sensorFault := false }

/-- The mismatch condition of a truck (R94). -/
def TruckOutput.mismatch (mode : Mode) (pReq : Nat) (t : TruckOutput) : Bool :=
  mode == .run && t.drive == .apply && !t.sensorFault && 60 < absDiff pReq t.pMeas

/-- Whether the mismatch watch raises AIR_MISMATCH at a sample at which the condition holds (R95). -/
def TruckOutput.mismatchRaises (now : Time) (t : TruckOutput) : Bool :=
  match t.mismatchSince with
  | none => false
  | some since => 2000 ≤ elapsed since now && !t.mismatchOpen

/-- The mismatch watch of a truck (R94, R95). -/
def TruckOutput.watch (mode : Mode) (pReq : Nat) (now : Time) (t : TruckOutput) : TruckOutput :=
  if t.mismatch mode pReq then
    { t with
      mismatchSince := some (t.mismatchSince.getD now)
      mismatchOpen := t.mismatchOpen || t.mismatchRaises now }
  else { t with mismatchSince := none, mismatchOpen := false }

/-- The Output Stage's part for truck `n`. -/
def OutputStage.truck (n : Nat) (o : OutputStage) : TruckOutput := if n = 1 then o.truck1 else o.truck2

/-- The Output Stage with its part for truck `n` replaced. -/
def OutputStage.setTruck (n : Nat) (t : TruckOutput) (o : OutputStage) : OutputStage :=
  if n = 1 then { o with truck1 := t } else { o with truck2 := t }

/-- The mismatch watch of truck `n` with its raising (R94, R95). -/
def watchTruck (n : Nat) (s : State) : State :=
  let t := s.output.truck n
  let raises := t.mismatch s.control.mode s.output.pReq && t.mismatchRaises s.now
  let s := s.setOutput (s.output.setTruck n (t.watch s.control.mode s.output.pReq s.now))
  if raises then raise .airMismatch s else s

/-- Both readings of one pressure sample (R93). -/
def readPressures (p1 p2 : BitVec 10) (s : State) : State :=
  (s.setPins { s.pins with pressure1 := p1, pressure2 := p2 }).setOutput
    { s.output with
      truck1 := s.output.truck1.read p1
      truck2 := s.output.truck2.read p2
      pressureTimer := timerNext s.output.pressureTimer 20 }

/-- One pressure sample: both inputs read, then the mismatch watch, truck 1 first (R93 to R95). -/
def pressureSampleEffect (p1 p2 : BitVec 10) (s : State) : State :=
  if timerDue s.output.pressureTimer 20 s.now then watchTruck 2 (watchTruck 1 (readPressures p1 p2 s)) else s

/-- PRESSURE_SAMPLE (R93). -/
def execPressureSample (dt : Passage) (p1 p2 : BitVec 10) (s : State) : Host.Outcome State Fault Refusal :=
  perform dt (pressureSampleEffect p1 p2) s

end Sys2Proof.Machine
end

