-- ==== Sys2Proof/Machine/Blend.lean ====
section
/-!
DEFINITION. The Blend Unit: the own available effort, the set K, the SHARED and LOCAL blends, the hand-off and the shortfall
watch (R21 to R45).
-/

namespace Sys2Proof.Machine

open Sys2Proof

/-! ### Stage 1: own available dynamic effort -/

/-- A segment of the curve at a speed in it, the exact value rounded down (R24). -/
def segmentEffort (v1 e1 v2 e2 v : Nat) : Nat :=
  if e1 ≤ e2 then e1 + (e2 - e1) * (v - v1) / (v2 - v1)
  else e1 - ((e1 - e2) * (v - v1) + (v2 - v1) - 1) / (v2 - v1)

/-- The curve from a point on, at a speed not below that point's (R24). R189 keeps the points' speeds rising; with a corrupted
record whose speeds do not rise, the first interval that holds the speed counts, also where a later one holds it too or the last
point's speed does not lie above it (DESIGN CHOICE, log entry 8). -/
def curveFrom (v : Nat) : List (Nat × Nat) → Nat
  | [] => Config.curveOffPoints v
  | [(_, e)] => e
  | (v1, e1) :: (v2, e2) :: rest =>
    if v1 ≤ v ∧ v < v2 then segmentEffort v1 e1 v2 e2 v else curveFrom v ((v2, e2) :: rest)

/-- The capability curve at a speed (R24). -/
def curveAt (points : List (Nat × Nat)) (v : Nat) : Nat :=
  match points with
  | [] => Config.curveOffPoints v
  | (v1, e1) :: rest => if v ≤ v1 then e1 else curveFrom v ((v1, e1) :: rest)

/-- A_own (R25). -/
def ownAvailable (part : Participation) (curve lConv factor : Nat) : Nat :=
  match part with
  | .blend => min curve lConv * factor / 100
  | _ => 0

/-! ### Stage 2: the set K -/

/-- A member of K with its rating, available and achieved effort (R27, R28). -/
structure Member where
  station : Nat
  r : Nat
  a : Nat
  e : Nat
  deriving DecidableEq, Repr

/-- A peer as a member: its entry PRESENT or STALE, its participation BLEND or AIR, its rating above 0 (R26, R27). -/
def peerMember (n : Nat) (x : Entry) : Option Member :=
  match x.state, x.held with
  | .present, some p => reported p
  | .stale, some p => reported p
  | _, _ => none
where
  /-- The member that the reported values give, each clamped to 0..800. -/
  reported (p : ReportPayload) : Option Member :=
    let r := min p.r.toNat 800
    if r = 0 then none
    else match Participation.ofByte p.participation with
      | .blend => some ⟨n, r, min p.a.toNat 800, min p.e.toNat 800⟩
      | .air => some ⟨n, r, 0, min p.e.toNat 800⟩
      | .out => none

/-- The set K in ascending station number, the own station at its own place (R26 to R28). -/
def setK (own : Member) (entries : List Entry) : List Member :=
  (entries.zipIdx 1).filterMap fun (x, n) => if n = own.station then some own else peerMember n x

/-- The sums over K. -/
def sumR (k : List Member) : Nat := (k.map Member.r).sum
@[inherit_doc sumR] def sumA (k : List Member) : Nat := (k.map Member.a).sum
@[inherit_doc sumR] def sumE (k : List Member) : Nat := (k.map Member.e).sum

/-! ### Stage 3: the mode -/

/-- The blend mode (R29). -/
def selectMode (unheard duplicate : Bool) (k : List Member) : BlendMode :=
  if unheard || duplicate || k.length ≤ 1 then .localBlend else .sharedBlend

/-! ### Stage 4: the results -/

/-- A member's base: the whole part of its exact share (R32). -/
def base (dyn total : Nat) (m : Member) : Nat := dyn * m.a / total

/-- A member's remainder (R32). -/
def remainder (dyn total : Nat) (m : Member) : Nat := if total = 0 then 0 else dyn * m.a % total

/-- The shares of the members in order, when `left` kN are still to be given out one each to members with a nonzero remainder
(R33). -/
def sharesFrom (dyn total : Nat) : Nat → List Member → List (Nat × Nat)
  | _, [] => []
  | left, m :: rest =>
    if remainder dyn total m ≠ 0 ∧ 0 < left then
      (m.station, base dyn total m + 1) :: sharesFrom dyn total (left - 1) rest
    else (m.station, base dyn total m) :: sharesFrom dyn total left rest

/-- The kN left after the base values (R32). -/
def leftOver (dyn total : Nat) (k : List Member) : Nat := dyn - (k.map (base dyn total)).sum

/-- The shares of the dynamic total among the members of K (R32, R33). -/
def shares (dyn : Nat) (k : List Member) : List (Nat × Nat) :=
  sharesFrom dyn (sumA k) (leftOver dyn (sumA k) k) k

/-- The share of one station. -/
def shareOf (n : Nat) (sh : List (Nat × Nat)) : Nat :=
  match sh.find? fun x => x.1 == n with
  | some x => x.2
  | none => 0

/-- The results of one computation (R37). -/
structure BlendResult where
  mode : BlendMode
  avail : Nat
  target : Nat
  dyn : Nat
  shortfall : Nat
  dTarget : Nat
  air : Nat
  deriving DecidableEq, Repr

/-- The SHARED results (R30 to R35). -/
def sharedBlend (dEff : Nat) (own : Member) (k : List Member) : BlendResult :=
  let target := dEff * sumR k / 1000
  let dyn := min target (sumA k)
  let shortfall := target - sumE k
  { mode := .sharedBlend
    avail := own.a
    target := target
    dyn := dyn
    shortfall := shortfall
    dTarget := shareOf own.station (shares dyn k)
    air := ceilDiv (shortfall * own.r) (sumR k) }

/-- The LOCAL results (R36). -/
def localBlend (dEff : Nat) (own : Member) : BlendResult :=
  let target := dEff * own.r / 1000
  let dTarget := min target own.a
  { mode := .localBlend
    avail := own.a
    target := target
    dyn := dTarget
    shortfall := target - own.e
    dTarget := dTarget
    air := target - own.e }

/-- The own station as a member of K (R25, R28). -/
def State.ownMember (s : State) : Member where
  station := s.control.station
  r := s.params.rOwn
  a := ownAvailable s.output.participation (curveAt s.params.curve s.speed.vRef) s.output.lConv
    (s.slide.truck1.factor + s.slide.truck2.factor)
  e := s.output.eOwn

/-- Stages 1 to 4 of a blend computation (R22). -/
def State.blendResult (s : State) : BlendResult :=
  let own := s.ownMember
  let k := setK own s.roster.entries
  match selectMode s.roster.unheard s.roster.duplicate k with
  | .localBlend => localBlend s.demand.dEff own
  | .sharedBlend => sharedBlend s.demand.dEff own k

/-! ### Stage 5: results and hand-off -/

/-- The Blend Unit with the results stored (R37). -/
def BlendUnit.store (r : BlendResult) (u : BlendUnit) : BlendUnit :=
  { u with
    mode := r.mode
    avail := r.avail
    target := r.target
    dyn := r.dyn
    shortfall := r.shortfall
    dTarget := r.dTarget
    air := r.air }

/-- The own roster entry refreshed from the results (R39). -/
def refreshOwn (r : BlendResult) (s : State) : State :=
  s.setRoster (s.roster.setEntry s.control.station (Entry.ownSelf
    (ownFields s.output.participation s.params.rOwn r.avail s.output.eOwn s.speed.vRef s.demand.dEff)))

/-- Stage 5: results stored, requests formed, own entry refreshed (R37 to R40). -/
def blendHandOff (r : BlendResult) (s : State) : State :=
  refreshOwn r ((s.setBlend (s.blend.store r)).setOutput
    (s.output.handOff s.params s.demand.emergency r.dTarget r.air r.avail))

/-! ### Stage 6: the shortfall watch -/

/-- The shortfall condition (R41). -/
def State.shortfallHolds (s : State) : Bool := s.demand.emergency == .clear && s.params.rAir < s.blend.air

/-- Whether the shortfall watch raises SHORTFALL while the condition holds (R42). -/
def BlendUnit.shortfallRaises (now : Time) (u : BlendUnit) : Bool :=
  match u.shortfallSince with
  | none => false
  | some since => 2000 ≤ elapsed since now && !u.shortfallOpen

/-- Stage 6 (R41, R42). -/
def shortfallWatch (s : State) : State :=
  if s.shortfallHolds then
    let t := s.setBlend { s.blend with
      shortfallSince := some (s.blend.shortfallSince.getD s.now)
      shortfallOpen := s.blend.shortfallOpen || s.blend.shortfallRaises s.now }
    if s.blend.shortfallRaises s.now then raise .shortfall t else t
  else s.setBlend { s.blend with shortfallSince := none, shortfallOpen := false }

/-- One blend computation (R22). -/
def blendEffect (s : State) : State :=
  if timerDue s.blend.timer 20 s.now then
    shortfallWatch (blendHandOff s.blendResult (s.setBlend { s.blend with timer := timerNext s.blend.timer 20 }))
  else s

/-- BLEND_COMPUTATION (R22). -/
def execBlendComputation (dt : Passage) (s : State) : Host.Outcome State Fault Refusal := perform dt blendEffect s

/-! ### Leaving RUN -/

/-- The Blend Unit at entry to SAFE: the timer stops, results 0, the shortfall run ends; the mode is kept (R21). -/
def BlendUnit.toSafe (u : BlendUnit) : BlendUnit :=
  { u with
    timer := none
    avail := 0
    target := 0
    dyn := 0
    shortfall := 0
    dTarget := 0
    air := 0
    shortfallSince := none
    shortfallOpen := false }

/-- The own entry at entry to SAFE: participation OUT and A 0 (R21). -/
def Entry.toSafe (e : Entry) : Entry :=
  { e with held := e.held.map fun p => { p with participation := Participation.out.code, a := 0 } }

end Sys2Proof.Machine
end

