-- ==== Sys2Proof/Machine/Demand.lean ====
section
/-!
DEFINITION. The Demand Unit: the demand sample, controlling status, DEMAND origination, the effective demand and the
emergency state (R4 to R19).
-/

namespace Sys2Proof.Machine

open Sys2Proof

/-- A fresh demand source (R10). -/
structure DemandSource where
  station : Nat
  value : Nat
  emergency : Bool
  deriving DecidableEq, Repr

/-! ### Steps 1 and 2: inputs, controlling status, immediate DEMAND -/

/-- Step 1: the four inputs replace their samples (R5); the pins stand as read, and the timer runs on to its next expiry
(R4). -/
def demandRead (raw : BitVec 10) (cab handleEmergency trainLine : Bool) (s : State) : State :=
  (s.setPins { s.pins with
      handlePort := raw
      cabActive := cab
      handleEmergency := handleEmergency
      trainLine := trainLine }).setDemand
    { s.demand with
      handle := handleDemand raw
      handleEmergency := handleEmergency
      lineEmergency := trainLine
      sampleTimer := timerNext s.demand.sampleTimer 10 }

/-- Controlling ends: the demand frame timer stops and the last enqueued demand becomes absent (R6, R9). -/
def DemandUnit.endControlling (u : DemandUnit) : DemandUnit :=
  { u with controlling := false, lastEnqueued := none, frameTimer := none }

/-- Step 2, controlling status from the cab-active line just read (R6, R9). Outside RUN it is no. -/
def settleControlling (s : State) : State :=
  if s.control.mode = .run ∧ s.pins.cabActive = true then
    if s.demand.controlling then s
    else s.setDemand { s.demand with controlling := true, frameTimer := some s.now }
  else if s.demand.controlling then s.setDemand s.demand.endControlling
  else s

/-- The content of a DEMAND frame enqueued now (R7). -/
def DemandUnit.content (u : DemandUnit) : DemandContent := ⟨u.handle, u.handleEmergency⟩

/-- A DEMAND frame is handed to the Line Controller and recorded as the last enqueued demand (R7). -/
def originateDemand (s : State) : State :=
  (enqueueDemand s.demand.content s).setDemand { s.demand with lastEnqueued := some s.demand.content }

/-- Whether R8 asks for a DEMAND frame at once. -/
def DemandUnit.immediateDue (u : DemandUnit) : Bool :=
  u.controlling &&
  match u.lastEnqueued with
  | none => true
  | some c => 10 ≤ absDiff u.handle c.d || u.handleEmergency != c.emergency

/-- Step 2, the immediate DEMAND frame (R8). -/
def immediateDemand (s : State) : State := if s.demand.immediateDue then originateDemand s else s

/-! ### Step 3: the effective demand -/

/-- The latest demand of a peer as a fresh source: present and no more than 300 ms old, a value above 1000 taken as 1000
(R10). -/
def peerSource (now : Time) (n : Nat) (e : Entry) : Option DemandSource :=
  match e.latestDemand with
  | none => none
  | some x => if elapsed x.arrival now ≤ 300 then some ⟨n, min x.d.toNat 1000, x.emergency⟩ else none

/-- The fresh demand sources, in ascending station number (R10). -/
def State.freshSources (s : State) : List DemandSource :=
  (s.roster.entries.zipIdx 1).filterMap fun (e, n) =>
    if n = s.control.station then
      if s.demand.controlling then some ⟨n, s.demand.handle, s.demand.handleEmergency⟩ else none
    else peerSource s.now n e

/-- The greatest value over the sources. -/
def maxDemand (src : List DemandSource) : Nat := src.foldl (fun m x => max m x.value) 0

/-- Step 3: demand state and D_eff from the fresh sources (R11). -/
def DemandUnit.formDemand (src : List DemandSource) (now : Time) (u : DemandUnit) : DemandUnit :=
  if src.isEmpty then
    match u.state with
    | .none => { u with dEff := 0 }
    | .fresh => { u with state := .held, heldSince := now }
    | .held => u
  else { u with state := .fresh, dEff := maxDemand src }

/-- `DemandUnit.formDemand` on the whole state. -/
def formDemand (src : List DemandSource) (s : State) : State := s.setDemand (s.demand.formDemand src s.now)

/-- Step 3, the conflict episode (R12). -/
def conflictEpisode (src : List DemandSource) (s : State) : State :=
  if 2 ≤ src.length then
    if s.demand.conflictOpen then s
    else raise .demandConflict (s.setDemand { s.demand with conflictOpen := true })
  else s.setDemand { s.demand with conflictOpen := false }

/-- Step 3, the loss episode (R13). -/
def lossEpisode (s : State) : State :=
  match s.demand.state with
  | .fresh => s.setDemand { s.demand with lossOpen := false }
  | .held =>
    if 3000 ≤ elapsed s.demand.heldSince s.now ∧ s.demand.lossOpen = false then
      raise .demandLost (s.setDemand { s.demand with lossOpen := true })
    else s
  | .none => s

/-! ### Step 4: the emergency state -/

/-- Whether a source of another station carries the emergency flag (R15, R17). -/
def peerFlag (own : Nat) (src : List DemandSource) : Bool := src.any fun x => x.station != own && x.emergency

/-- Whether any source carries the emergency flag, the own handle included (R17, R18). -/
def anyFlag (src : List DemandSource) : Bool := src.any DemandSource.emergency

/-- Whether the hold time has expired (R16). -/
def State.holdExpired (s : State) : Bool := s.params.tHold ≤ elapsed s.demand.entryTime s.now

/-- The emergency latch after the sample (R17). -/
def State.latchAfter (src : List DemandSource) (s : State) : Bool :=
  if peerFlag s.control.station src then true
  else if s.holdExpired && !src.isEmpty && !anyFlag src then false
  else s.demand.latch

/-- Whether an entry source is present (R15). -/
def State.emergencySource (src : List DemandSource) (s : State) : Bool :=
  s.demand.lineEmergency || (s.demand.controlling && s.demand.handleEmergency) || peerFlag s.control.station src

/-- Whether every exit condition holds, the latch having been evaluated (R18). -/
def State.emergencyOver (src : List DemandSource) (s : State) : Bool :=
  s.holdExpired && !s.demand.lineEmergency && !anyFlag src && !s.demand.latch && s.demand.dEff == 0

/-- Entry to EMERGENCY: the state and entry time, EMERGENCY_ENTER logged, EMERGENCY raised (R15, R19). -/
def enterEmergency (s : State) : State :=
  raise .emergency (logEvent .emergencyEnter
    (s.setDemand { s.demand with emergency := .emergency, entryTime := s.now }))

/-- Exit from EMERGENCY: EMERGENCY_EXIT logged (R18, R19). -/
def exitEmergency (s : State) : State :=
  logEvent .emergencyExit (s.setDemand { s.demand with emergency := .clear })

/-- Step 4: the latch, then the entry test in CLEAR or the exit test in EMERGENCY (R15, R17, R18). -/
def emergencyStep (src : List DemandSource) (s : State) : State :=
  let s := s.setDemand { s.demand with latch := s.latchAfter src }
  match s.demand.emergency with
  | .clear => if s.emergencySource src then enterEmergency s else s
  | .emergency => if s.emergencyOver src then exitEmergency s else s

/-! ### Step 5: the DEMAND event -/

/-- The source station of a DEMAND event (R14). -/
def DemandUnit.eventSource (src : List DemandSource) (u : DemandUnit) : Nat :=
  if u.state = .held then 0
  else match src.find? fun x => x.value == u.dEff with
    | some x => x.station
    | none => 0

/-- Step 5: a DEMAND event when D_eff has moved 50 or more from the last logged demand (R14). -/
def logDemand (src : List DemandSource) (s : State) : State :=
  if 50 ≤ absDiff s.demand.dEff s.demand.lastLogged then
    logEvent (.demand s.demand.dEff (s.demand.emergency == .emergency) (s.demand.eventSource src))
      (s.setDemand { s.demand with lastLogged := s.demand.dEff })
  else s

/-! ### The two commands -/

/-- Steps 3 to 5 over the sources collected (R4). -/
def demandFromSources (src : List DemandSource) (s : State) : State :=
  logDemand src (emergencyStep src (lossEpisode (conflictEpisode src (formDemand src s))))

/-- One demand sample (R4). -/
def demandSampleEffect (raw : BitVec 10) (cab handleEmergency trainLine : Bool) (s : State) : State :=
  if timerDue s.demand.sampleTimer 10 s.now then
    let s := immediateDemand (settleControlling (demandRead raw cab handleEmergency trainLine s))
    demandFromSources s.freshSources s
  else s

/-- DEMAND_SAMPLE (R4). -/
def execDemandSample (dt : Passage) (raw : BitVec 10) (cab handleEmergency trainLine : Bool) (s : State) :
    Host.Outcome State Fault Refusal :=
  perform dt (demandSampleEffect raw cab handleEmergency trainLine) s

/-- One expiry of the demand frame timer (R9). -/
def demandFrameEffect (s : State) : State :=
  if timerDue s.demand.frameTimer 50 s.now then
    originateDemand (s.setDemand { s.demand with frameTimer := timerNext s.demand.frameTimer 50 })
  else s

/-- DEMAND_FRAME_TIMER_EXPIRY (R9). -/
def execDemandFrameTimerExpiry (dt : Passage) (s : State) : Host.Outcome State Fault Refusal :=
  perform dt demandFrameEffect s

end Sys2Proof.Machine
end

