-- ==== Sys2Proof/Machine/Line.lean ====
section
/-!
DEFINITION. The Line Controller's transmitter: the report timer, the candidate, first going on air, collisions, retries and
giving up (R97 to R110, R113).
-/

namespace Sys2Proof.Machine

open Sys2Proof

/-! ### Queue and candidate -/

/-- One expiry of the report timer (R105). -/
def reportTimerEffect (s : State) : State :=
  if timerDue s.line.reportTimer 100 s.now then
    enqueueReport (s.setLine { s.line with reportTimer := timerNext s.line.reportTimer 100 })
  else s

/-- REPORT_TIMER_EXPIRY (R105). -/
def execReportTimerExpiry (dt : Passage) (s : State) : Host.Outcome State Fault Refusal := perform dt reportTimerEffect s

/-- The kind of the candidate: none while a frame is on air, else by the service order (R106). -/
def LineController.candidate (l : LineController) : Option FrameKind :=
  if l.onAir.isSome then none
  else if !l.queue.notices.isEmpty then some .notice
  else if l.queue.demand.isSome then some .demand
  else if l.queue.report then some .report
  else none

/-- The quiet time of a kind at a station, in bit times (R107). -/
def quietTime (own : Nat) : FrameKind → Nat
  | .notice => 24
  | .demand => 32
  | .report => 48 + 8 * own

/-- The backoff after `attempts` failed attempts, in bit times (R109). -/
def backoff (own : Nat) (attempts : Nat) : Nat := attempts * own * 20

/-- Whether the transmitter may send a frame of a kind: all in RUN, REPORT alone in SAFE (R113). -/
def transmits (mode : Mode) (kind : FrameKind) : Bool :=
  match mode with
  | .run => true
  | .safe => kind == .report
  | _ => false

/-! ### REPORT content (R101, R102) -/

/-- The own entry's fields; before the first entry to RUN there are none. -/
def State.ownHeld (s : State) : ReportPayload :=
  match s.roster.entry? s.control.station with
  | some ⟨_, _, _, _, some p, _, _⟩ => p
  | _ => ownFields .out 0 0 0 0 0

/-- The payload of a REPORT that goes on air now (R101, R102). -/
def State.reportPayload (s : State) : ReportPayload where
  participation := if s.control.mode = .safe then Participation.out.code else s.ownHeld.participation
  flags := s.reportFlags
  vRef := BitVec.ofNat 16 s.speed.vRef
  r := s.ownHeld.r
  a := s.ownHeld.a
  e := s.ownHeld.e
  dEcho := BitVec.ofNat 16 s.demand.dEff
  relief := byteOf s.slide.reliefCount
  lockout := flagByte s.slide.lockoutSeen
  view := s.roster.viewMask
  lastIncident := BitVec.ofNat 16 s.recorder.lastOpened
  fill1 := 0
  fill2 := 0
  fill3 := 0

/-! ### Going on air -/

/-- The start bit of a start mark is driven: the idle time returns to 0, and an IDLE framer begins to receive the own frame
with the echo mark set (R97, R99, R111). -/
def LineController.driveStart (l : LineController) : LineController := { l with idleMicros := 0 }.receive true

/-- A frame becomes the frame on air at its first attempt (R100, R107). -/
def LineController.putOnAir (content : FrameContent) (seq : Byte) (micros : Time) (l : LineController) :
    LineController :=
  { l with onAir := some ⟨content, seq, .sending micros⟩, attempts := 0 }.driveStart

/-- The oldest queued NOTICE goes on air (R106, R107). -/
def noticeOnAir (s : State) : State :=
  match s.line.queue.notices with
  | [] => s
  | c :: rest =>
    s.setLine (({ s.line with
      queue := { s.line.queue with notices := rest }
      nextNoticeSeq := s.line.nextNoticeSeq + 1 } : LineController).putOnAir (.notice c) s.line.nextNoticeSeq s.micros)

/-- The queued DEMAND goes on air (R103, R107). -/
def demandOnAir (s : State) : State :=
  match s.line.queue.demand with
  | none => s
  | some c =>
    s.setLine (({ s.line with
      queue := { s.line.queue with demand := none }
      nextDemandSeq := s.line.nextDemandSeq + 1 } : LineController).putOnAir (.demand c) s.line.nextDemandSeq s.micros)

/-- The queued REPORT goes on air with the content of this moment; lockout seen has been read and becomes clear (R81, R101,
R107). -/
def reportOnAir (s : State) : State :=
  (s.setLine (({ s.line with
      queue := { s.line.queue with report := false }
      nextReportSeq := s.line.nextReportSeq + 1 } : LineController).putOnAir
        (.report s.reportPayload) s.line.nextReportSeq s.micros)).setSlide
    { s.slide with lockoutSeen := false }

/-- The candidate of a kind goes on air. -/
def candidateOnAir : FrameKind → State → State
  | .notice, s => noticeOnAir s
  | .demand, s => demandOnAir s
  | .report, s => reportOnAir s

/-- The candidate first goes on air when the idle time has reached its quiet time (R107). `idle` is the idle time at which the
row falls: the line has been idle that long (log entry 12). -/
def firstGoesOnAirEffect (idle : Nat) (s : State) : State :=
  match s.line.candidate with
  | none => s
  | some kind =>
    if transmits s.control.mode kind ∧ quietTime s.control.station kind ≤ idle ∧ idle ≤ s.line.idleBits then
      candidateOnAir kind s
    else s

/-- FIRST_GOES_ON_AIR (R107). -/
def execFirstGoesOnAir (dt : Passage) (idle : Nat) (s : State) : Host.Outcome State Fault Refusal :=
  perform dt (firstGoesOnAirEffect idle) s

/-- The line with the frame on air in another phase. -/
def LineController.withPhase (f : OnAir) (phase : AirPhase) (l : LineController) : LineController :=
  { l with onAir := some { f with phase := phase } }

/-- The next attempt of a frame that waits, when the idle time has reached quiet time plus backoff (R109); `idle` as in R107's
row. -/
def retryAttemptEffect (idle : Nat) (s : State) : State :=
  match s.line.onAir with
  | some ⟨content, seq, .waiting⟩ =>
    if transmits s.control.mode content.kind ∧
        quietTime s.control.station content.kind + backoff s.control.station s.line.attempts ≤ idle ∧
        idle ≤ s.line.idleBits then
      s.setLine (s.line.withPhase ⟨content, seq, .waiting⟩ (.sending s.micros)).driveStart
    else s
  | _ => s

/-- RETRY_ATTEMPT (R109). -/
def execRetryAttempt (dt : Passage) (idle : Nat) (s : State) : Host.Outcome State Fault Refusal :=
  perform dt (retryAttemptEffect idle) s

/-! ### The end of an attempt -/

/-- The microseconds that a whole frame of a kind takes on the line: start mark, header, payload and check of 10 bit times
each (R97, R98). -/
def sendingMicros (kind : FrameKind) : Nat := (7 + kind.payloadLength) * 40

/-- The frame on air has ended: the attempt count is 0 again (R109, R110). The idle time, which the next candidate's wait is
measured by, is the line's and runs on (R97; log entry 12). -/
def LineController.endFrame (l : LineController) : LineController :=
  { l with onAir := none, attempts := 0 }

/-- The last bit of an attempt has been sent with every bit matching (R108, R109). -/
def attemptSuccessEffect (s : State) : State :=
  match s.line.onAir with
  | some ⟨content, _, .sending since⟩ =>
    if sendingMicros content.kind ≤ elapsed since s.micros then s.setLine s.line.endFrame else s
  | _ => s

/-- ATTEMPT_SUCCESS (R109). -/
def execAttemptSuccess (dt : Passage) (s : State) : Host.Outcome State Fault Refusal := perform dt attemptSuccessEffect s

/-- A bit mismatch while sending: the frame stops and the jam begins (R108). -/
def collisionEffect (s : State) : State :=
  match s.line.onAir with
  | some ⟨content, seq, .sending since⟩ =>
    s.setLine { s.line.withPhase ⟨content, seq, .sending since⟩ (.jamming s.micros) with idleMicros := 0 }
  | _ => s

/-- COLLISION (R108). -/
def execCollision (dt : Passage) (s : State) : Host.Outcome State Fault Refusal := perform dt collisionEffect s

/-- The attempt count at which a frame is given up (R110). -/
def attemptLimit : Nat := 8

/-- The frame on air is given up: LINE_DISCARD is logged and a NOTICE is returned as not sent (R110). -/
def giveUp (content : FrameContent) (s : State) : State :=
  let s := logEvent (.lineDiscard content.kind) (s.setLine s.line.endFrame)
  match content with
  | .notice c => noticeReturned c.number s
  | _ => s

/-- The jam of 16 bit times ends: the line is released and the attempt has failed (R108 to R110). -/
def jamEndEffect (s : State) : State :=
  match s.line.onAir with
  | some ⟨content, seq, .jamming since⟩ =>
    if 64 ≤ elapsed since s.micros then
      let s := s.setLine { s.line with attempts := s.line.attempts + 1 }
      if attemptLimit ≤ s.line.attempts then giveUp content s
      else s.setLine (s.line.withPhase ⟨content, seq, .jamming since⟩ .waiting)
    else s
  | _ => s

/-- JAM_END (R108). -/
def execJamEnd (dt : Passage) (s : State) : Host.Outcome State Fault Refusal := perform dt jamEndEffect s

/-! ### Entry to SAFE -/

/-- The NOTICEs that entry to SAFE takes from the line: those queued, and one on air (R113). -/
def LineController.noticesTaken (l : LineController) : List NoticeContent :=
  l.queue.notices ++ match l.onAir with
    | some ⟨.notice c, _, _⟩ => [c]
    | _ => []

/-- The line at entry to SAFE: DEMAND and NOTICE frames removed or abandoned, a REPORT kept (R113). A DEMAND or NOTICE whose
jam is in progress is dropped at once too, and its jam ends with it: the rule names a frame being sent and one that waits
(DESIGN CHOICE, log entry 27). The attempt count is 0 after a frame is abandoned, of which the rule says nothing (DESIGN CHOICE,
log entry 27). -/
def LineController.toSafe (l : LineController) : LineController :=
  let l := l.withQueue { l.queue with notices := [], demand := none }
  match l.onAir with
  | some ⟨.demand _, _, _⟩ => { l with onAir := none, attempts := 0 }
  | some ⟨.notice _, _, _⟩ => { l with onAir := none, attempts := 0 }
  | _ => l

/-- `LineController.toSafe`, each removed or abandoned NOTICE returned to the Recorder as not sent (R113). -/
def lineToSafe (s : State) : State :=
  s.line.noticesTaken.foldl (fun t c => noticeReturned c.number t) (s.setLine s.line.toSafe)

end Sys2Proof.Machine
end

