-- ==== Sys2Proof/Machine/Recorder.lean ====
section
/-!
DEFINITION. The Recorder's own events: the snapshot (R132, R133, R141), the received NOTICE (R149) and the image kept through
a hard reset (R151).
-/

namespace Sys2Proof.Machine

open Sys2Proof

/-- A snapshot of the device as it stands (R133). -/
def State.takeSnapshot (s : State) : Snapshot where
  time := s.now
  mode := s.control.mode
  dEff := s.demand.dEff
  demandState := s.demand.state
  emergency := s.demand.emergency
  target := s.blend.target
  dTarget := s.blend.dTarget
  air := s.blend.air
  blendMode := s.blend.mode
  dReq := s.output.dReq
  pReq := s.output.pReq
  eOwn := s.output.eOwn
  vRef := s.speed.vRef
  pMeas1 := s.output.truck1.pMeas
  pMeas2 := s.output.truck2.pMeas
  slide1 := s.slide.truck1.state
  factor1 := s.slide.truck1.factor
  slide2 := s.slide.truck2.state
  factor2 := s.slide.truck2.factor
  presentMask := s.roster.viewMask
  staleMask := s.roster.staleMask

/-- The image with one more post-trigger snapshot (R141). -/
def Image.addPost (x : Snapshot) (img : Image) : Image := { img with post := img.post ++ [x] }

/-- Whether the FILLING window is over: 32 post-trigger snapshots (R141). -/
def Image.full (img : Image) : Bool := 32 ≤ img.post.length

/-- The Recorder with a snapshot taken in: appended to the history ring, and to the image while FILLING, which the 32nd
makes COMMITTING (R132, R141). -/
def Recorder.addSnapshot (x : Snapshot) (r : Recorder) : Recorder :=
  let r := { r with history := pushRing 64 x r.history }
  match r.capture, r.image with
  | .filling, some img =>
    { r with
      image := some (img.addPost x)
      capture := if (img.addPost x).full then .committing else .filling }
  | _, _ => r

/-- Whether the capture state has become COMMITTING. -/
def becameCommitting (before after : CaptureState) : Bool := before != .committing && after == .committing

/-- One snapshot timer expiry (R132, R141, R145). -/
def snapshotEffect (s : State) : State :=
  if timerDue s.recorder.snapshotTimer 100 s.now then
    let t := s.setRecorder { s.recorder.addSnapshot s.takeSnapshot with
      snapshotTimer := timerNext s.recorder.snapshotTimer 100 }
    if becameCommitting s.recorder.capture t.recorder.capture then beginCommit t else t
  else s

/-- SNAPSHOT (R132). -/
def execSnapshot (dt : Passage) (s : State) : Host.Outcome State Fault Refusal := perform dt snapshotEffect s

/-- A NOTICE received from station `n`: discarded when its number is 0 or the last one accepted from there, and otherwise
noted, logged and raised (R149). -/
def noticeArrival (n : Nat) (number : BitVec 16) (s : State) : State :=
  match s.roster.entry? n with
  | none => s
  | some e =>
    if number = 0 ∨ e.lastNotice = some number then s
    else
      let s := s.setRoster (s.roster.setEntry n { e with lastNotice := some number })
      let s := logEvent (.noticeHeard n number.toNat) s
      raiseWith .peerNotice .note (some ⟨n, number.toNat⟩) s

/-- The Recorder at INIT with an image kept through a hard reset: a FILLING one is truncated and becomes COMMITTING
(R151). -/
def Recorder.settleKept (r : Recorder) : Recorder :=
  match r.capture with
  | .filling =>
    { r with
      capture := .committing
      image := r.image.map fun img => { img with flags := { img.flags with truncated := true } } }
  | _ => r

end Sys2Proof.Machine
end

