-- ==== Sys2Proof/Machine/Roster.lean ====
section
/-!
DEFINITION. The Peer Roster and the commands of the receive framer that feeds it: joining and silence (R115 to R122), UNHEARD
(R123 to R125), DUPLICATE (R126), latest demand (R128), and frames received (R99, R111, R112).
-/

namespace Sys2Proof.Machine

open Sys2Proof

/-! ### UNHEARD -/

/-- The PRESENT entries. -/
def Roster.presentEntries (r : Roster) : List Entry := r.entries.filter fun e => e.state == .present

/-- Whether an entry's held view mask contains a station (R123). -/
def Entry.lists (own : Nat) (e : Entry) : Bool :=
  match e.held with
  | some p => inMask p.view own
  | none => false

/-- The unheard condition (R123). -/
def State.unheardCondition (s : State) : Bool :=
  s.control.mode == .run && !s.roster.presentEntries.isEmpty &&
  !s.roster.presentEntries.any (Entry.lists s.control.station)

/-- The unheard condition is evaluated (R123). -/
def evalUnheard (s : State) : State :=
  s.setRoster { s.roster with
    unheardSince := if s.unheardCondition then some (s.roster.unheardSince.getD s.now) else none }

/-- The unheard expiry, 1000 ms after the run began (R123). It occurs in RUN alone (R125). -/
def unheardExpiryEffect (s : State) : State :=
  if s.control.mode = .run ∧ timerDue s.roster.unheardSince 1000 s.now then
    let t := s.setRoster { s.roster with unheardSince := none, unheard := true }
    if s.roster.unheard then t else raise .unheard t
  else s

/-- UNHEARD_EXPIRY (R123). -/
def execUnheardExpiry (dt : Passage) (s : State) : Host.Outcome State Fault Refusal := perform dt unheardExpiryEffect s

/-! ### Joining -/

/-- Whether a REPORT's sequence follows the entry's last one, modulo 256 (R118, R119). -/
def Entry.inSequence (seq : Byte) (e : Entry) : Bool :=
  match e.lastSeq with
  | some q => seq == q + 1
  | none => false

/-- Whether a REPORT comes no more than 250 ms after the last one heard (R118). -/
def Entry.inTime (now : Time) (e : Entry) : Bool :=
  match e.lastHeard with
  | some t => elapsed t now ≤ 250
  | none => false

/-- The entry's standing after a REPORT: its state and join count (R117 to R119). -/
def Entry.standing (seq : Byte) (now : Time) (e : Entry) : EntryState × Nat :=
  match e.state with
  | .absent => (.joining, 1)
  | .lost => (.joining, 1)
  | .joining =>
    if e.inSequence seq && e.inTime now then
      if 3 ≤ e.joinCount + 1 then (.present, 3) else (.joining, e.joinCount + 1)
    else (.joining, 1)
  | .present => if e.inSequence seq then (.present, 3) else (.joining, 1)
  | .stale => if e.inSequence seq then (.present, 3) else (.joining, 1)
  | .self => (.self, e.joinCount)

/-- The entry after a REPORT (R117 to R119). -/
def Entry.report (seq : Byte) (p : ReportPayload) (now : Time) (e : Entry) : Entry :=
  { e with
    state := (e.standing seq now).1
    joinCount := (e.standing seq now).2
    lastSeq := some seq
    lastHeard := some now
    held := some p }

/-- An entry changes: a change of state logs PEER_STATE, and a change to LOST raises PEER_LOST (R121). -/
def changeEntry (n : Nat) (old new : Entry) (s : State) : State :=
  let s := s.setRoster (s.roster.setEntry n new)
  if old.state = new.state then s
  else
    let s := logEvent (.peerState n old.state new.state) s
    if new.state = .lost then raise .peerLost s else s

/-- UNHEARD becomes clear when a PRESENT entry's REPORT lists the own station (R124). -/
def clearUnheard (own : Nat) (e : Entry) (r : Roster) : Roster :=
  if e.state = .present ∧ e.lists own = true then { r with unheard := false } else r

/-- A REPORT from a peer (R117 to R119, R121, R123, R124). -/
def reportArrival (n : Nat) (seq : Byte) (p : ReportPayload) (s : State) : State :=
  match s.roster.entry? n with
  | none => s
  | some e =>
    let new := e.report seq p s.now
    let s := changeEntry n e new s
    evalUnheard (s.setRoster (clearUnheard s.control.station new s.roster))

/-- A DEMAND from a peer (R128, R193). -/
def demandArrival (n : Nat) (payload : List Byte) (s : State) : State :=
  match s.roster.entry? n with
  | none => s
  | some e =>
    s.setRoster (s.roster.setEntry n
      { e with latestDemand := some ⟨wordAt payload 0, (byteAt payload 2).getLsbD 0, s.now⟩ })

/-! ### DUPLICATE -/

/-- A frame that bears the own station number and is not the own echo (R126). -/
def duplicateArrival (s : State) : State :=
  let t := s.setRoster { s.roster with duplicate := true, duplicateExpiry := some (s.now + 5000#32) }
  if s.roster.duplicate then t else raise .duplicateStation t

/-- Whether the duplicate expiry time has come: 5000 ms after the arrival that set it (R126). -/
def State.duplicateDue (s : State) : Bool :=
  timerDue (s.roster.duplicateExpiry.map fun t => t - 5000#32) 5000 s.now

/-- The duplicate expiry (R126). -/
def duplicateExpiryEffect (s : State) : State :=
  if s.duplicateDue then s.setRoster { s.roster with duplicate := false, duplicateExpiry := none } else s

/-- DUPLICATE_EXPIRY (R126). -/
def execDuplicateExpiry (dt : Passage) (s : State) : Host.Outcome State Fault Refusal := perform dt duplicateExpiryEffect s

/-! ### Silence -/

/-- The entry after its silence expiry, when it is due (R120). -/
def Entry.silence (now : Time) (e : Entry) : Option Entry :=
  match e.state with
  | .present => if timerDue e.lastHeard 250 now then some { e with state := .stale } else none
  | .stale =>
    if timerDue e.lastHeard 1000 now then some { e with state := .lost, held := none, joinCount := 0 } else none
  | .joining =>
    if timerDue e.lastHeard 1000 now then
      some { e with state := .absent, held := none, lastSeq := none, lastHeard := none, joinCount := 0 }
    else none
  | _ => none

/-- The silence expiry of station `n`'s entry, which falls in CONFIG, RUN and SAFE (R120, R121, R123). -/
def silenceExpiryEffect (n : Nat) (s : State) : State :=
  if s.control.mode = .init then s
  else match s.roster.entry? n with
    | none => s
    | some e =>
      match e.silence s.now with
      | none => s
      | some new => evalUnheard (changeEntry n e new s)

/-- SILENCE_EXPIRY (R120). -/
def execSilenceExpiry (dt : Passage) (station : Nat) (s : State) : Host.Outcome State Fault Refusal :=
  perform dt (silenceExpiryEffect station) s

/-! ### The receive framer -/

/-- An IGNORING framer after 10 bit times of idle line; in INIT it is held (R99). -/
def framerIdleEffect (s : State) : State :=
  if s.control.mode ≠ .init ∧ s.line.framer = .ignoring ∧ 10 ≤ s.line.idleBits then
    s.setLine { s.line with framer := .idle }
  else s

/-- FRAMER_IDLE (R99). -/
def execFramerIdle (dt : Passage) (s : State) : Host.Outcome State Fault Refusal := perform dt framerIdleEffect s

/-- A frame is discarded while it is received; in INIT the framer takes nothing (R99). An IDLE framer whose frame no passage has
begun receives from the start bit of the row's own character (R99, R111). -/
def frameDiscardedEffect (cause : DiscardCause) (s : State) : State :=
  let line := s.line.receive false
  if s.control.mode ≠ .init ∧ line.discards cause = true then s.setLine (line.discard (discardIdle cause)) else s

/-- FRAME_DISCARDED (R99). -/
def execFrameDiscarded (dt : Passage) (cause : DiscardCause) (s : State) : Host.Outcome State Fault Refusal :=
  perform dt (frameDiscardedEffect cause) s

/-- A received frame goes to the block that owns its meaning (R112). -/
def dispatchFrame (f : ReceivedFrame) (s : State) : State :=
  if f.station = s.control.station then duplicateArrival s
  else match f.kind with
    | .report => reportArrival f.station f.seq (ReportPayload.ofBytes f.payload) s
    | .demand => demandArrival f.station f.payload s
    | .notice => noticeArrival f.station (wordAt f.payload 0) s

/-- A frame has completed: the framer is IDLE again, and the frame is tested, and dispatched when it passes and is not the own
echo (R99, R111, R112). -/
def frameCompleted (s : State) : State :=
  let s := s.setLine { s.line with framer := .idle }
  match parseFrame s.line.buffer with
  | none => s
  | some f => if s.line.echo then s else dispatchFrame f s

/-- A frame completes at 10 bit times of idle (R99): the framer hears the characters that no passage has brought, and if it is
RECEIVING then, the frame is complete. In INIT none does. -/
def frameCompleteEffect (chars : List Byte) (s : State) : State :=
  let line := s.line.heard (chars.map .character)
  if s.control.mode = .init ∨ s.line.idleBits < 10 then s
  else if line.framer = .receiving then frameCompleted (s.setLine line)
  else s.setLine line

/-- FRAME_COMPLETE (R99). -/
def execFrameComplete (dt : Passage) (chars : List Byte) (s : State) : Host.Outcome State Fault Refusal :=
  perform dt (frameCompleteEffect chars) s

end Sys2Proof.Machine
end

