-- ==== Sys2Proof/Machine/Slide.lean ====
section
/-!
DEFINITION. The Slide Unit: the evaluation of each truck at the completion of a speed sweep in RUN (R64 to R82).
-/

namespace Sys2Proof.Machine

open Sys2Proof

/-- The quantities of a truck that has an OK axle (R69, R70). -/
structure TruckQuantities where
  slip : Nat
  decel : Int
  accel : Int
  deriving DecidableEq, Repr

/-- What an evaluation reads besides the truck's own state and axles (R66). -/
structure SlideInputs where
  vRef : Nat
  refHold : Bool
  braking : Bool
  sWatch : Nat
  sRelieve : Nat
  decelWatch : Nat
  tLockout : Nat
  now : Time
  deriving DecidableEq, Repr

/-- An axle's slip in ‰ (R69). -/
def axleSlip (vRef speed : Nat) : Nat := if vRef ≤ speed then 0 else (vRef - speed) * 1000 / vRef

/-- An axle's deceleration per sweep (R69). -/
def Axle.decel (a : Axle) : Int := (a.prevSpeed : Int) - a.speed

/-- The quantities with one more OK axle taken in: the worst axle stays the lower-numbered one where slips are equal
(R70). -/
def TruckQuantities.take (vRef : Nat) (q : Option TruckQuantities) (a : Axle) : Option TruckQuantities :=
  let slip := axleSlip vRef a.speed
  match q with
  | none => some ⟨slip, a.decel, -a.decel⟩
  | some q =>
    some { slip := max q.slip slip
           decel := max q.decel a.decel
           accel := if q.slip < slip then -a.decel else q.accel }

/-- The truck quantities from the truck's axles, lowest-numbered first; none without an OK axle (R70, R71). -/
def truckQuantities (vRef : Nat) (axles : List Axle) : Option TruckQuantities :=
  (axles.filter fun a => a.status == .ok).foldl (TruckQuantities.take vRef) none

/-- Whether the slide evaluation of a truck is suspended (R67). -/
def SlideInputs.suspended (i : SlideInputs) : Bool := !i.braking || i.vRef < 500 || i.refHold

/-- A truck that enters a state, with the factor and valve command of R72. -/
def Truck.enter (st : SlideState) (t : Truck) : Truck :=
  match st with
  | .normal => { t with state := .normal, factor := 50, valve := .apply, quietSince := none }
  | .watch => { t with state := .watch, factor := 50, valve := .apply, quietSince := none }
  | .relieve => { t with state := .relieve, factor := 0, valve := .vent, quietSince := none }
  | .hold => { t with state := .hold, factor := 0, valve := .hold }
  | .reapply => { t with state := .reapply, factor := 1, valve := .apply }
  | .lockout => { t with state := .lockout, factor := 50, valve := .apply, quietSince := none }

/-- WATCH below s_relieve: the quiet condition and its 100 ms (R73). -/
def Truck.watchQuiet (i : SlideInputs) (q : TruckQuantities) (t : Truck) : Truck :=
  if q.slip < i.sWatch ∧ q.decel < i.decelWatch then
    match t.quietSince with
    | none => { t with quietSince := some i.now }
    | some since => if 100 ≤ elapsed since i.now then t.enter .normal else t
  else { t with quietSince := none }

/-- REAPPLY below s_relieve: the factor rises by 2 up to 50, where the truck becomes NORMAL (R72, R75). -/
def Truck.reapplyRise (t : Truck) : Truck :=
  if 50 ≤ t.factor + 2 then t.enter .normal else { t with factor := t.factor + 2 }

/-- Step 4: at most one transition (R73 to R76). LOCKOUT was settled before it (R68). In HOLD the slip cannot be s_relieve or more
and below s_watch under a record within R189; under a corrupted one it can, and the truck becomes RELIEVE (DESIGN CHOICE, log
entry 8). -/
def Truck.transition (i : SlideInputs) (q : TruckQuantities) (t : Truck) : Truck :=
  match t.state with
  | .normal => if i.sWatch ≤ q.slip ∨ (i.decelWatch : Int) ≤ q.decel then t.enter .watch else t
  | .watch => if i.sRelieve ≤ q.slip then t.enter .relieve else t.watchQuiet i q
  | .relieve => if 2 ≤ q.accel then t.enter .hold else t
  | .hold =>
    if i.sRelieve ≤ q.slip then t.enter .relieve
    else if q.slip < i.sWatch then t.enter .reapply
    else t
  | .reapply => if i.sRelieve ≤ q.slip then t.enter .relieve else t.reapplyRise
  | .lockout => t

/-- Step 4 for a truck without an OK axle: no transition, and in WATCH no quiet run (R71). -/
def Truck.noQuantities (t : Truck) : Truck :=
  if t.state = .watch then { t with quietSince := none } else t

/-- Step 5: the release time, and LOCKOUT when after an increase it equals T_lockout (R77). R77 also says that the release time
never exceeds T_lockout; with a T_lockout of a corrupted record (R188) off the 10 ms grid, or below a release time that has
already run, both cannot hold, and the model keeps to the equality: the time runs on past T_lockout without LOCKOUT (DESIGN CHOICE,
log entry 8). -/
def Truck.account (i : SlideInputs) (t : Truck) : Truck :=
  if t.inRelief then
    let t := { t with releaseTime := t.releaseTime + 10 }
    if t.releaseTime = i.tLockout then t.enter .lockout else t
  else if t.state = .normal then { t with releaseTime := 0 }
  else t

/-- A truck after steps 1 to 5 of one evaluation, with the events it logs: whether it entered RELIEVE, and whether it entered
LOCKOUT (R66). -/
structure TruckOutcome where
  truck : Truck
  relieved : Bool
  lockedOut : Bool
  deriving DecidableEq, Repr

/-- The evaluation of one truck (R66). -/
def Truck.evaluate (i : SlideInputs) (axles : List Axle) (t : Truck) : TruckOutcome :=
  if t.state = .lockout then
    ⟨if i.braking = false ∨ i.vRef < 300 then Truck.reset else t, false, false⟩
  else if i.suspended then
    ⟨if t.state = .normal then t else Truck.reset, false, false⟩
  else
    let moved := match truckQuantities i.vRef axles with
      | none => t.noQuantities
      | some q => t.transition i q
    let after := moved.account i
    ⟨after, moved.state == .relieve && t.state != .relieve, after.state == .lockout⟩

/-- What the evaluation reads (R66, R67). -/
def State.slideInputs (s : State) : SlideInputs where
  vRef := s.speed.vRef
  refHold := s.speed.refHold
  braking := 0 < s.output.dReq || 0 < s.output.pReq
  sWatch := s.params.sWatch
  sRelieve := s.params.sRelieve
  decelWatch := s.params.decelWatch
  tLockout := s.params.tLockout
  now := s.now

/-- The axles of a truck (R47): with 6 served, 1 to 3 and 4 to 6; with 4 served, 1 and 2, and 3 and 4. -/
def State.truckAxles (truck : Nat) (s : State) : List Axle :=
  let half := s.control.axleCount / 2
  if truck = 1 then s.speed.axles.take half else (s.speed.axles.drop half).take half

/-- Truck 1's or truck 2's own state (R64). -/
def SlideUnit.truck (n : Nat) (u : SlideUnit) : Truck := if n = 1 then u.truck1 else u.truck2

/-- The unit with truck `n` replaced. -/
def SlideUnit.setTruck (n : Nat) (t : Truck) (u : SlideUnit) : SlideUnit :=
  if n = 1 then { u with truck1 := t } else { u with truck2 := t }

/-- A truck's entry to LOCKOUT: the SLIDE event, SLIDE_LOCKOUT raised, lockout seen set (R78). -/
def noteLockout (n : Nat) (s : State) : State :=
  let s := raise .slideLockout (logEvent (.slide n .lockout) s)
  s.setSlide { s.slide with lockoutSeen := true }

/-- Truck `n` is evaluated and its events are logged, RELIEVE before LOCKOUT (R66, R74, R78). -/
def evaluateTruck (n : Nat) (s : State) : State :=
  let out := (s.slide.truck n).evaluate s.slideInputs (s.truckAxles n)
  let s := s.setSlide (s.slide.setTruck n out.truck)
  let s := if out.relieved then logEvent (.slide n .relieve) s else s
  if out.lockedOut then noteLockout n s else s

/-- The valve drives take the slide commands (R80, R91). -/
def takeSlideCommands (s : State) : State :=
  s.setOutput { s.output with
    truck1 := { s.output.truck1 with drive := s.slide.truck1.valve }
    truck2 := { s.output.truck2 with drive := s.slide.truck2.valve } }

/-- The slide evaluation at a sweep completion, in RUN alone (R66). -/
def slideEvaluation (s : State) : State :=
  if s.control.mode = .run then takeSlideCommands (evaluateTruck 2 (evaluateTruck 1 s)) else s

/-- Both trucks at entry to SAFE; lockout seen is not changed (R82). -/
def SlideUnit.toNormal (u : SlideUnit) : SlideUnit := { u with truck1 := Truck.reset, truck2 := Truck.reset }

end Sys2Proof.Machine
end

