-- ==== Sys2Proof/Machine/Speed.lean ====
section
/-!
DEFINITION. The Speed Unit: edge capture, the speed sweep, axle status and the reference speed (R47 to R62).
-/

namespace Sys2Proof.Machine

open Sys2Proof

/-! ### Edges -/

/-- An axle after one rising edge at a microsecond reading (R50). -/
def Axle.edge (at_ : Time) (a : Axle) : Axle :=
  { a with
    newestEdge := some at_
    firstNewEdge := if a.edgeCount = 0 then some at_ else a.firstNewEdge
    edgeCount := if a.edgeCount = 100 then 100 else a.edgeCount + 1 }

/-- One tachometer edge: captured on a served axle while the sweep timer runs (R47, R50). -/
def tachometerEffect (axle : Nat) (s : State) : State :=
  if s.speed.sweepTimer.isSome ∧ 1 ≤ axle ∧ axle ≤ s.control.axleCount then
    s.setSpeed { s.speed with axles := s.speed.axles.modify (axle - 1) (Axle.edge s.micros) }
  else s

/-- TACHOMETER_EDGE (R50). -/
def execTachometerEdge (dt : Passage) (axle : Nat) (s : State) : Host.Outcome State Fault Refusal :=
  perform dt (tachometerEffect axle) s

/-! ### Steps 1 and 2: measuring an axle and settling its status -/

/-- The speed from `m` teeth of `k` µm in `dt` µs, in centi-km/h: rounded down, at most 16000, and 16000 at 0 µs (R51). -/
def measuredSpeed (m k dt : Nat) : Nat := if dt = 0 then 16000 else min 16000 (m * k * 360 / dt)

/-- What step 1 did with an axle (R54). -/
inductive Measured where
  | speed
  | held
  | noEdge
  deriving DecidableEq, Repr

/-- The axle with its captured edges used up (R50). -/
def Axle.clearEdges (a : Axle) : Axle := { a with edgeCount := 0, firstNewEdge := none, newestEdge := none }

/-- Step 1 for an axle with new edges: from the last edge time (R51), or from the first new edge (R52). -/
def Axle.measureEdges (k : Nat) (newest : Time) (a : Axle) : Axle × Measured :=
  match a.lastEdge with
  | some last =>
    ({ a with prevSpeed := a.speed, speed := measuredSpeed a.edgeCount k (elapsed last newest), lastEdge := some newest },
      .speed)
  | none =>
    if 2 ≤ a.edgeCount then
      ({ a with
          prevSpeed := a.speed
          speed := measuredSpeed (a.edgeCount - 1) k (elapsed (a.firstNewEdge.getD newest) newest)
          lastEdge := some newest }, .speed)
    else ({ a with prevSpeed := a.speed, lastEdge := some newest }, .held)

/-- Step 1 for an axle without new edges: NO_EDGE when 250 ms have passed since its last edge (R53). -/
def Axle.measureNone (micros : Time) (a : Axle) : Axle × Measured :=
  match a.lastEdge with
  | some last =>
    if 250000 ≤ elapsed last micros then
      ({ a with prevSpeed := a.speed, speed := 0, status := .noEdge, lastEdge := none, recoverySince := none }, .noEdge)
    else ({ a with prevSpeed := a.speed }, .held)
  | none => ({ a with prevSpeed := a.speed }, .held)

/-- Step 1 for one axle with its axle constant (R51 to R53). -/
def Axle.measure (k : Nat) (micros : Time) (a : Axle) : Axle × Measured :=
  match a.edgeCount, a.newestEdge with
  | _ + 1, some newest => let (b, m) := a.measureEdges k newest; (b.clearEdges, m)
  | _, _ => let (b, m) := a.measureNone micros; (b.clearEdges, m)

/-- Step 2 for one axle (R54, R55). -/
def Axle.settle (m : Measured) (a : Axle) : Axle :=
  match m, a.status with
  | .noEdge, _ => a
  | .speed, .noEdge => { a with status := .ok }
  | .speed, .ok => if a.speed + 60 < a.prevSpeed then { a with status := .suspect, recoverySince := none } else a
  | _, _ => a

/-- Steps 1 and 2 for one axle. -/
def Axle.sweep (k : Nat) (micros : Time) (a : Axle) : Axle :=
  let (b, m) := a.measure k micros
  b.settle m

/-- Steps 1 and 2 for the served axles; an unserved axle keeps no state (R47). Without axle constants no axle is measured
(R48). -/
def SpeedUnit.measureAll (served : Nat) (micros : Time) (u : SpeedUnit) : SpeedUnit :=
  match u.constants with
  | none => u
  | some ks => { u with axles := u.axles.mapIdx fun i a => if i < served then a.sweep (ks.getD i 0) micros else a }

/-! ### Step 3: the reference speed -/

/-- The speeds of the served OK axles. -/
def SpeedUnit.okSpeeds (served : Nat) (u : SpeedUnit) : List Nat :=
  ((u.axles.take served).filter fun a => a.status == .ok).map Axle.speed

/-- The reference speeds reported by the PRESENT peers, clamped to 16000 (R57). -/
def Roster.presentSpeeds (r : Roster) : List Nat :=
  (r.entries.filter fun e => e.state == .present).map fun e =>
    match e.held with
    | some p => min p.vRef.toNat 16000
    | none => 0

/-- The greatest of a list, none of an empty one. -/
def greatest : List Nat → Option Nat
  | [] => none
  | x :: xs => some (xs.foldl max x)

/-- V_ref moved towards a candidate within the limits (R58). -/
def limitedVRef (rise fall vPrev candidate : Nat) : Nat := clamp (max 0 (vPrev - fall)) (vPrev + rise) candidate

/-- Step 3 (R57 to R60). -/
def SpeedUnit.formVRef (served rise fall : Nat) (peers : List Nat) (u : SpeedUnit) : SpeedUnit :=
  if u.initialising then
    { u with
      vRef := (greatest (u.okSpeeds served)).getD 0
      refHold := (u.okSpeeds served).isEmpty && peers.isEmpty
      initialising := false }
  else
    match greatest (u.okSpeeds served ++ peers) with
    | none => { u with refHold := true }
    | some c => { u with vRef := limitedVRef rise fall u.vRef c, refHold := false }

/-! ### Step 4: SUSPECT recovery -/

/-- Step 4 for one axle: 1000 ms within one twentieth of V_ref (R56). -/
def Axle.recover (vRef : Nat) (now : Time) (a : Axle) : Axle :=
  if a.status = .suspect then
    if 20 * absDiff a.speed vRef ≤ vRef then
      match a.recoverySince with
      | none => { a with recoverySince := some now }
      | some since => if 1000 ≤ elapsed since now then { a with status := .ok, recoverySince := none } else a
    else { a with recoverySince := none }
  else a

/-- Step 4 (R56). -/
def SpeedUnit.recoverAll (served : Nat) (now : Time) (u : SpeedUnit) : SpeedUnit :=
  { u with axles := u.axles.mapIdx fun i a => if i < served then a.recover u.vRef now else a }

/-! ### The sweep -/

/-- Steps 1 to 4 (R49). -/
def SpeedUnit.sweep (served rise fall : Nat) (peers : List Nat) (micros now : Time) (u : SpeedUnit) : SpeedUnit :=
  ((u.measureAll served micros).formVRef served rise fall peers).recoverAll served now

/-- One speed sweep with the slide evaluation at its completion (R49, R66). -/
def speedSweepEffect (s : State) : State :=
  if timerDue s.speed.sweepTimer 10 s.now then
    let u := s.speed.sweep s.control.axleCount s.params.vRise s.params.vFall s.roster.presentSpeeds s.micros s.now
    slideEvaluation (s.setSpeed { u with sweepTimer := timerNext s.speed.sweepTimer 10 })
  else s

/-- SPEED_SWEEP (R49). -/
def execSpeedSweep (dt : Passage) (s : State) : Host.Outcome State Fault Refusal := perform dt speedSweepEffect s

end Sys2Proof.Machine
end

