-- ==== Sys2Proof/Machine/Store.lean ====
section
/-!
DEFINITION. The Store Controller: service requests (R156), completions (R157, R160 to R163), number recovery (R164) and the
INIT scan (R165).
-/

namespace Sys2Proof.Machine

open Sys2Proof

/-! ### Service requests -/

/-- The test of a service request of the given kind for a slot, in R156's order. A WRITE is no service request. -/
def Store.requestResult (kind : OpKind) (n : Nat) (maintenance : Bool) (st : Store) : ResultCode :=
  match st.slot? n with
  | none => .range
  | some x =>
    if st.busy then .busy
    else match kind with
      | .erase =>
        if x.state = .locked then .slotProtected
        else if x.state ≠ .stored ∧ x.state ≠ .damaged then .state
        else .ok
      | .lock =>
        if x.state = .locked then .slotProtected
        else if x.state ≠ .stored then .state
        else if 12 ≤ st.lockedCount then .limit
        else .ok
      | .unlock =>
        if x.state ≠ .locked then .state
        else if maintenance = false then .maintenance
        else .ok
      | .write => .state

/-- A slot at the beginning of an ERASE: ERASING, its header fields gone, the operation tag in it (R161). The snapshots, the events
and the lock mark stay as they stood until the completion (DESIGN CHOICE, log entry 29). -/
def Slot.beginErase (x : Slot) : Slot := { x with state := .erasing, header := none, tag := true, clear := false }

/-- A slot whose lock mark is being written: state and content stay (R162, R163). -/
def Slot.beginMark (x : Slot) : Slot := { x with mark := none }

/-- An accepted request begins its operation (R155, R161 to R163). -/
def Store.begin (kind : OpKind) (n : Nat) (st : Store) : Store :=
  match st.slot? n with
  | none => st
  | some x =>
    match kind with
    | .erase => { st.setSlot n x.beginErase with op := .erase n }
    | .lock => { st.setSlot n x.beginMark with op := .lock n }
    | .unlock => { st.setSlot n x.beginMark with op := .unlock n }
    | .write => st

/-! ### Completions -/

/-- The operation ends with its result (R155, R157). -/
def Store.finish (kind : OpKind) (n : Nat) (done : Bool) (st : Store) : Store :=
  { st with op := .none, lastResult := some ⟨kind, n, done⟩ }

/-- Whether the read-back matched (R157). -/
def readBackMatched : ReadBack → Bool
  | .matched => true
  | .mismatched _ => false

/-- The bits in which the array differs from what was written. -/
def readBackDiff : ReadBack → List Byte
  | .matched => []
  | .mismatched diff => diff

/-- The bytes of a list of snapshots in the array (R196). -/
def snapshotsBytes (xs : List Snapshot) : List Byte := xs.flatMap Snapshot.bytes

/-- The bytes of a list of events in the array (R196). -/
def eventsBytes (xs : List Event) : List Byte := xs.flatMap Event.bytes

/-- The stored header of an image written under a number (R154, R160). -/
def Image.header (number : Nat) (refused storeError : Bool) (img : Image) : Header where
  number := number
  cause := img.cause
  cls := img.cls
  triggerTime := img.triggerTime
  openingTime := img.openingTime
  station := img.station
  configCheck := img.configCheck
  originator := img.originator
  secondary := img.secondary
  flags := { img.flags with lockRefused := refused, storeError := storeError }
  preCount := img.pre.length
  postCount := img.post.length
  eventCount := img.events.length

/-- A slot at the completion of a WRITE (R154, R158, R160). -/
def Slot.written (img : Image) (number : Nat) (lock refused : Bool) (rb : ReadBack) : Slot where
  state := if lock then .locked else .stored
  header := some (img.header number refused (!readBackMatched rb))
  snapshots := xorBytes (snapshotsBytes (img.pre ++ img.post)) (readBackDiff rb)
  events := xorBytes (eventsBytes img.events)
    ((readBackDiff rb).drop (snapshotsBytes (img.pre ++ img.post)).length)
  mark := some (if lock then .locked else .unlocked)
  tag := false
  clear := false
  writing := 0

/-- The Recorder at the completion of its WRITE: the image is absent, and the capture state is IDLE (R145). -/
def Recorder.writeDone (r : Recorder) : Recorder :=
  { r with image := none, pendingTrigger := none, capture := .idle }

/-- The pending trigger, if any, opens the next incident (R148). -/
def openPending (p : Option Pending) (s : State) : State :=
  match p with
  | none => s
  | some p => openIncident p s

/-- A WRITE completes (R145, R148, R160). -/
def writeCompleteEffect (rb : ReadBack) (s : State) : State :=
  match s.store.op, s.recorder.image with
  | .write n lock refused, some img =>
    let number := match s.store.slot? n with | some x => x.writing | none => img.number
    let st := (s.store.setSlot n (Slot.written img number lock refused rb)).finish .write n (readBackMatched rb)
    openPending s.recorder.pendingTrigger ((s.setStore st).setRecorder s.recorder.writeDone)
  | _, _ => s

/-- WRITE_COMPLETE (R160). -/
def execWriteComplete (dt : Passage) (rb : ReadBack) (s : State) : Host.Outcome State Fault Refusal :=
  perform dt (writeCompleteEffect rb) s

/-- A slot at the completion of an ERASE: FREE when every location reads back clear, else DAMAGED (R161). -/
def Slot.erased (clear : Bool) : Slot :=
  if clear then Slot.blank else { Slot.blank with state := .damaged, mark := some .unclear, clear := false }

/-- An ERASE completes, and a waiting commit begins (R145, R161). -/
def eraseCompleteEffect (clear : Bool) (s : State) : State :=
  match s.store.op with
  | .erase n => beginCommit (s.setStore ((s.store.setSlot n (Slot.erased clear)).finish .erase n clear))
  | _ => s

/-- ERASE_COMPLETE (R161). -/
def execEraseComplete (dt : Passage) (clear : Bool) (s : State) : Host.Outcome State Fault Refusal :=
  perform dt (eraseCompleteEffect clear) s

/-- The state that a lock mark gives a slot with a valid header: STORED only when it reads cleanly as unlocked (R162, R165). -/
def markState (m : MarkReading) : SlotState := if m = .unlocked then .stored else .locked

/-- A slot whose lock mark reads back as `m`. -/
def Slot.marked (m : MarkReading) (x : Slot) : Slot := { x with state := markState m, mark := some m }

/-- The store with slot `n`'s lock mark as read back (R162, R163). -/
def Store.markSlot (n : Nat) (m : MarkReading) (st : Store) : Store :=
  match st.slot? n with
  | none => st
  | some x => st.setSlot n (x.marked m)

/-- A LOCK completes; DONE when the mark reads back as locked (R162). A waiting commit begins (R145). -/
def lockCompleteEffect (m : MarkReading) (s : State) : State :=
  match s.store.op with
  | .lock n => beginCommit (s.setStore ((s.store.markSlot n m).finish .lock n (m == .locked)))
  | _ => s

/-- LOCK_COMPLETE (R162). -/
def execLockComplete (dt : Passage) (m : MarkReading) (s : State) : Host.Outcome State Fault Refusal :=
  perform dt (lockCompleteEffect m) s

/-- An UNLOCK completes; DONE when the mark reads back cleanly as unlocked (R163). A waiting commit begins (R145). -/
def unlockCompleteEffect (m : MarkReading) (s : State) : State :=
  match s.store.op with
  | .unlock n => beginCommit (s.setStore ((s.store.markSlot n m).finish .unlock n (m == .unlocked)))
  | _ => s

/-- UNLOCK_COMPLETE (R163). -/
def execUnlockComplete (dt : Passage) (m : MarkReading) (s : State) : Host.Outcome State Fault Refusal :=
  perform dt (unlockCompleteEffect m) s

/-! ### The INIT scan -/

/-- A slot as the scan classifies it; `cut` is how a mark whose writing was cut off reads (R165, R166). A header that a WRITE
left agrees with the slot's data at every later scan, that of a slot with store error too (DESIGN CHOICE, log entry 14). -/
def Slot.scanned (cut : MarkReading) (x : Slot) : Slot :=
  let mark := x.mark.getD cut
  let x := { x with mark := some mark, writing := 0 }
  if x.tag then { x with state := .damaged }
  else if x.header.isSome then { x with state := markState mark }
  else { x with state := if x.clear then .free else .damaged }

/-- Whether the number `a` is ahead of the number `b` (R164). -/
def aheadOf (a b : Nat) : Bool := 1 ≤ (a + 65535 - b) % 65535 && (a + 65535 - b) % 65535 ≤ 32767

/-- How many of the found numbers are ahead of a number (R164). -/
def aheadCount (found : List Nat) (n : Nat) : Nat := found.countP fun m => aheadOf m n

/-- The better of two found numbers: fewer ahead of it, or as many and the larger value (R164). -/
def higherNumber (found : List Nat) (best : Option Nat) (n : Nat) : Option Nat :=
  match best with
  | none => some n
  | some b =>
    if aheadCount found n < aheadCount found b ∨ (aheadCount found n = aheadCount found b ∧ b < n) then some n
    else some b

/-- The numbers found in the headers of STORED and LOCKED slots, each once (R164). -/
def Store.numbersFound (st : Store) : List Nat :=
  ((st.slots.filter fun x => x.state == .stored || x.state == .locked).filterMap fun x =>
    x.header.map Header.number).dedup

/-- The next incident number recovered at INIT (R164). -/
def Store.recoveredNext (st : Store) : Nat :=
  match st.numbersFound.foldl (higherNumber st.numbersFound) none with
  | none => 1
  | some n => nextIncident n

/-- The store at the end of the scan (R165). -/
def Store.scanDone (cut : MarkReading) (st : Store) : Store :=
  let st := { st with slots := st.slots.map (Slot.scanned cut), op := .none, lastResult := none }
  { st with nextNumber := st.recoveredNext }

/-- The store at the release of a reset, the scan under way (R165, R167). The slots keep their content. -/
def Store.released (st : Store) : Store := { st with op := .scan, lastResult := none, nextNumber := 0 }

end Sys2Proof.Machine
end

