-- ==== Sys2Proof/Machine/Control.lean ====
section
/-!
DEFINITION. The Mode Controller: resets, INIT, entry to RUN and SAFE, the power-fail warning, the release timer and the
recheck (R182 to R188, R190).
-/

namespace Sys2Proof.Machine

open Sys2Proof

/-! ### Entry to SAFE and to RUN -/

/-- The mode changes, and the MODE event is logged (R182). -/
def changeMode (new : Mode) (s : State) : State :=
  logEvent (.mode s.control.mode new) (s.setControl { s.control with mode := new })

/-- The own roster entry at entry to SAFE (R21). -/
def ownToSafe (s : State) : State :=
  match s.roster.entry? s.control.station with
  | none => s
  | some e => s.setRoster (s.roster.setEntry s.control.station e.toSafe)

/-- The blocks' SAFE state at entry to SAFE: controlling ends, the blend zeroes, the trucks return to NORMAL, the outputs
become invalid, the unheard run ends (R6, R21, R82, R92, R94, R125). -/
def blocksToSafe (s : State) : State :=
  let s := s.setDemand s.demand.endControlling
  let s := s.setBlend s.blend.toSafe
  let s := ownToSafe s
  let s := s.setSlide s.slide.toNormal
  let s := s.setOutput s.output.toSafe
  s.setRoster { s.roster with unheardSince := none }

/-- Entry to SAFE from RUN: the MODE event first, then every block's SAFE state, the line among them (R113, R186, R188). -/
def enterSafe (s : State) : State := lineToSafe (blocksToSafe (changeMode .safe s))

/-- Entry to SAFE on the power-fail warning: POWER is raised after the MODE event (R186). -/
def powerFail (s : State) : State := raise .power (enterSafe s)

/-- The timers and the own entry that an entry to RUN from INIT or CONFIG starts (R4, R49, R93, R105, R116, R132, R185,
R188). -/
def startWork (s : State) : State :=
  let s := s.setDemand { s.demand with sampleTimer := some s.now }
  let s := s.setSpeed { s.speed with sweepTimer := some s.now, initialising := true }
  let s := s.setOutput { s.output with pressureTimer := some s.now }
  let s := s.setLine { s.line with reportTimer := some s.now }
  let s := s.setRecorder { s.recorder with snapshotTimer := some s.now }
  let s := s.setControl { s.control with recheckTimer := some s.now }
  s.setRoster (s.roster.setEntry s.control.station (Entry.ownSelf (ownFields .out s.params.rOwn 0 0 0 0)))

/-- What every entry to RUN does: the blend timer starts, the outputs become valid, the valve drives take the slide commands,
the unheard condition is evaluated (R21, R91, R92, R123, R185). -/
def runOutputs (s : State) : State :=
  let s := s.setBlend { s.blend with timer := some s.now }
  evalUnheard (takeSlideCommands (s.setOutput s.output.enterRun))

/-- A warning that stands at the completion of an entry to RUN is a new assertion (R185, R186). -/
def warningAtEntry (s : State) : State :=
  if s.control.warning then powerFail (s.setControl { s.control with releaseTimer := none }) else s

/-- Entry to RUN; `fresh` when it comes from INIT or CONFIG (R185). -/
def enterRun (fresh : Bool) (s : State) : State :=
  let s := changeMode .run s
  warningAtEntry (runOutputs (if fresh then startWork s else s))

/-! ### The power-fail warning -/

/-- An assertion of the power-fail warning (R186). -/
def warningAssertedEffect (s : State) : State :=
  let s := s.setControl { s.control with warning := true, releaseTimer := none }
  if s.control.mode = .run then powerFail s else s

/-- POWER_FAIL_WARNING_ASSERTED (R186). -/
def execPowerFailWarningAsserted (dt : Passage) (s : State) : Host.Outcome State Fault Refusal :=
  perform dt warningAssertedEffect s

/-- A deassertion of the power-fail warning; in SAFE the release timer starts (R187). -/
def warningDeassertedEffect (s : State) : State :=
  s.setControl { s.control with
    warning := false
    releaseTimer := if s.control.mode = .safe then some s.now else s.control.releaseTimer }

/-- POWER_FAIL_WARNING_DEASSERTED (R187). -/
def execPowerFailWarningDeasserted (dt : Passage) (s : State) : Host.Outcome State Fault Refusal :=
  perform dt warningDeassertedEffect s

/-! ### Release timer and recheck -/

/-- Whether the active record's bytes agree with its check value (R187, R188). -/
def State.recordChecks (s : State) : Bool :=
  match s.control.active with
  | some r => r.checks
  | none => false

/-- The release timer's expiry (R187). -/
def releaseTimerEffect (s : State) : State :=
  if s.control.mode = .safe ∧ timerDue s.control.releaseTimer 500 s.now then
    let s := s.setControl { s.control with releaseTimer := none }
    if s.control.recheckFailed then s
    else if s.recordChecks then enterRun false s
    else s.setControl { s.control with recheckFailed := true }
  else s

/-- RELEASE_TIMER_EXPIRY (R187). -/
def execReleaseTimerExpiry (dt : Passage) (s : State) : Host.Outcome State Fault Refusal := perform dt releaseTimerEffect s

/-- One configuration recheck (R188). -/
def recheckEffect (s : State) : State :=
  if timerDue s.control.recheckTimer 1000 s.now then
    let s := s.setControl { s.control with recheckTimer := timerNext s.control.recheckTimer 1000 }
    if s.recordChecks then s
    else
      let s := s.setControl { s.control with recheckFailed := true }
      if s.control.mode = .run then enterSafe s else s
  else s

/-- CONFIGURATION_RECHECK (R188). -/
def execConfigurationRecheck (dt : Passage) (s : State) : Host.Outcome State Fault Refusal := perform dt recheckEffect s

/-! ### INIT -/

/-- Steps 2 and 3 of INIT: the kept record is tested, an invalid one becomes absent, and a valid one gives the axle
constants (R183). -/
def settleRecord (s : State) : State :=
  match s.control.active with
  | none => s
  | some r =>
    if r.valid s.control.axleCount then
      s.setSpeed { s.speed with constants := some (r.params.constants s.control.axleCount) }
    else s.setControl { s.control with active := none }

/-- The end of the INIT scan and the INIT work that follows (R151, R165, R183). -/
def scanEndEffect (cut : MarkReading) (s : State) : State :=
  if s.control.mode = .init ∧ s.store.op = .scan then
    let s := settleRecord (s.setStore (s.store.scanDone cut))
    let s := beginCommit (s.setRecorder s.recorder.settleKept)
    if s.control.active.isSome then enterRun true s else changeMode .config s
  else s

/-- SCAN_END (R165). -/
def execScanEnd (dt : Passage) (cut : MarkReading) (s : State) : Host.Outcome State Fault Refusal :=
  perform dt (scanEndEffect cut) s

/-! ### Resets -/

/-- The line at the assertion of a reset: released without a jam, every frame lost (R114). The attempt count, the framer and the
echo mark take the values that R114 gives for the release here already (DESIGN CHOICE, log entry 5). -/
def LineController.cut (l : LineController) : LineController :=
  { l with queue := TxQueue.empty, onAir := none, attempts := 0, framer := .ignoring, buffer := [], echo := false }

/-- The assertion of a reset input: a store operation in flight is cut off, the line is released, a service transaction is
discarded (R114, R166, R170). Power-on reset among overlapping assertions decides the kind of the release (R182). The service
port's framer is IDLE, its command buffer empty and its bit count 0 from the assertion on, select asserted or not, though R170
gives their values only at the release (DESIGN CHOICE, log entry 5). -/
def resetAssertedEffect (input : ResetInput) (s : State) : State :=
  let s := s.setPins (match input with
    | .powerOn => { s.pins with powerOnReset := true }
    | .hard => { s.pins with hardReset := true })
  let s := s.setControl { s.control with powerOnDue := s.control.powerOnDue || input == .powerOn }
  let s := s.setStore { s.store with op := .none }
  (s.setLine s.line.cut).setPort ServicePort.reset

/-- RESET_ASSERTED (R166). -/
def execResetAsserted (dt : Passage) (input : ResetInput) (s : State) : Host.Outcome State Fault Refusal :=
  .next (resetAssertedEffect input (s.advance dt))

/-- The station number that the strap pins give (R182). -/
def strapStation (pins : BitVec 3) : Nat := pins.toNat + 1

/-- The axle count that the strap pin gives (R182). -/
def strapAxles (sixAxles : Bool) : Nat := if sixAxles then 6 else 4

/-- The service port at a release: IGNORING while select is asserted (R170). -/
def ServicePort.released (select : Bool) : ServicePort :=
  { ServicePort.reset with framer := if select then .ignoring else .idle }

/-- The Recorder at the release of a hard reset: capture state and image are kept (R151, R152). -/
def Recorder.kept (r : Recorder) : Recorder :=
  { Recorder.reset with capture := r.capture, image := r.image.map fun img => { img with kept := true } }

/-- The reset values common to both releases, block by block (R20, R46, R63, R83, R96, R114, R131, R167, R170). -/
def releaseCommon (levels : ReleaseLevels) (s : State) : State :=
  let s := (s.setClock Clock.reset).setDemand DemandUnit.reset
  let s := (s.setBlend BlendUnit.reset).setSpeed SpeedUnit.reset
  let s := (s.setSlide SlideUnit.reset).setOutput OutputStage.reset
  let s := (s.setLine LineController.reset).setRoster Roster.reset
  let s := (s.setStore s.store.released).setPort (ServicePort.released levels.select)
  s.setPins { s.pins with select := levels.select }

/-- The release of a power-on reset: the straps are sampled, and nothing is kept but the store's content (R152, R182, R190). -/
def powerOnRelease (levels : ReleaseLevels) (s : State) : State :=
  let s := releaseCommon levels s
  let s := s.setPins { s.pins with stationStrap := levels.station, sixAxlesStrap := levels.sixAxles }
  (s.setRecorder Recorder.reset).setControl { ModeController.reset with
    station := strapStation levels.station
    axleCount := strapAxles levels.sixAxles
    warning := levels.warning }

/-- The release of a hard reset: straps, active record and capture image are kept (R151, R182, R190). -/
def hardRelease (levels : ReleaseLevels) (s : State) : State :=
  let s := releaseCommon levels s
  (s.setRecorder s.recorder.kept).setControl { ModeController.reset with
    station := s.control.station
    axleCount := s.control.axleCount
    active := s.control.active
    warning := levels.warning }

/-- The release of a reset input. The reset ends when neither input is asserted any more; power-on reset among the overlapping
assertions makes it a power-on reset (R182). -/
def resetReleased (powerOn : Bool) (levels : ReleaseLevels) (s : State) : State :=
  if s.heldInReset then s
  else if powerOn || s.control.powerOnDue then powerOnRelease levels s
  else hardRelease levels s

/-- The release of the power-on reset input (R182). -/
def powerOnReleaseEffect (levels : ReleaseLevels) (s : State) : State :=
  resetReleased true levels (s.setPins { s.pins with powerOnReset := false })

/-- POWER_ON_RESET_RELEASE (R182). -/
def execPowerOnResetRelease (dt : Passage) (levels : ReleaseLevels) (s : State) : Host.Outcome State Fault Refusal :=
  .next (powerOnReleaseEffect levels (s.advance dt))

/-- The release of the hard reset input (R190). -/
def hardReleaseEffect (levels : ReleaseLevels) (s : State) : State :=
  resetReleased false levels (s.setPins { s.pins with hardReset := false })

/-- HARD_RESET_RELEASE (R190). -/
def execHardResetRelease (dt : Passage) (levels : ReleaseLevels) (s : State) : Host.Outcome State Fault Refusal :=
  .next (hardReleaseEffect levels (s.advance dt))

end Sys2Proof.Machine
end

