-- ==== Sys2Proof/WellFormed.lean ====
section
/-!
DEFINITION. Which terms spell a command that a sender can send at all. The meanings are total: an ill-formed term has no
effect beyond the passing of its time, or the effect that its docstring says.
-/

namespace Sys2Proof

/-- The parameter bytes of a service command are counted by a 2-byte length (R168). -/
def paramsWellFormed (params : List Byte) : Bool := params.length < 65536

/-- The codes of the twelve service commands (R194). -/
def isServiceCode (code : Byte) : Bool := 1 ≤ code.toNat && code.toNat ≤ 12

/-- The last dominant bit of a passage ended within it, and traffic brings one: every start bit is dominant (R97). -/
def Passage.wellFormed (dt : Passage) : Bool :=
  match dt.dominant with
  | some since => since ≤ dt.micros
  | none => dt.traffic.isEmpty

/-- The checks on a command's operands: its axle is one of the six tachometer inputs (R47), its station one of the eight (R115),
its parameter bytes can be declared (R168), an unknown code is none of the twelve (R171), and a character discarded as
no start mark is no start mark (R99). -/
def Instr.operandsWellFormed : Instr → Bool
  | .tachometerEdge _ axle => 1 ≤ axle && axle ≤ 6
  | .silenceExpiry _ station => 1 ≤ station && station ≤ 8
  | .unknownCommand _ code params => !isServiceCode code && paramsWellFormed params
  | .getStatus _ params => paramsWellFormed params
  | .getRoster _ params => paramsWellFormed params
  | .loadConfig _ params => paramsWellFormed params
  | .start _ params => paramsWellFormed params
  | .getDirectory _ params => paramsWellFormed params
  | .readIncident _ params => paramsWellFormed params
  | .readEvents _ params => paramsWellFormed params
  | .readHistory _ params => paramsWellFormed params
  | .lockSlot _ params => paramsWellFormed params
  | .unlockSlot _ params _ => paramsWellFormed params
  | .eraseSlot _ params => paramsWellFormed params
  | .mark _ params => paramsWellFormed params
  | .frameDiscarded _ (.wrongStartMark char) => char != 0xA7#8
  | .frameDiscarded _ .dominantStopBit => true
  | .powerOnResetRelease _ _ => true
  | .hardResetRelease _ _ => true
  | .resetAsserted _ _ => true
  | .scanEnd _ _ => true
  | .powerFailWarningAsserted _ => true
  | .powerFailWarningDeasserted _ => true
  | .releaseTimerExpiry _ => true
  | .configurationRecheck _ => true
  | .demandSample _ _ _ _ _ => true
  | .demandFrameTimerExpiry _ => true
  | .speedSweep _ => true
  | .blendComputation _ => true
  | .converterFeedback _ _ => true
  | .stalenessExpiry _ => true
  | .requestMessage _ => true
  | .pressureSample _ _ _ => true
  | .reportTimerExpiry _ => true
  | .firstGoesOnAir _ _ => true
  | .retryAttempt _ _ => true
  | .attemptSuccess _ => true
  | .collision _ => true
  | .jamEnd _ => true
  | .framerIdle _ => true
  | .frameComplete _ _ => true
  | .unheardExpiry _ => true
  | .duplicateExpiry _ => true
  | .snapshot _ => true
  | .writeComplete _ _ => true
  | .eraseComplete _ _ => true
  | .lockComplete _ _ => true
  | .unlockComplete _ _ => true
  | .selectAsserted _ => true
  | .selectReleased _ => true

/-- A command that a sender can send: its passage and its operands. -/
def Instr.wellFormed (c : Instr) : Bool := c.dt.wellFormed && c.operandsWellFormed

end Sys2Proof
end

