-- ==== Sys2Proof/Machine/Service.lean ====
section
/-!
DEFINITION. The Service Port: transactions (R168 to R171), the twelve commands (R172 to R181) and their answers (R194 to
R196).

A command row is the clock that completes a command's last byte, at which the command is taken (R169). The clocks before it
and those that clock out the response pass between the commands (Serial.lean, log entry 6).
-/

namespace Sys2Proof.Machine

open Sys2Proof

/-! ### Transactions -/

/-- Select is asserted: an IDLE framer begins to receive a command (R168). -/
def selectAssertedEffect (s : State) : State :=
  let s := s.setPins { s.pins with select := true }
  if s.port.framer = .idle then s.setPort { ServicePort.reset with framer := .receiving } else s

/-- SELECT_ASSERTED (R168). -/
def execSelectAsserted (dt : Passage) (s : State) : Host.Outcome State Fault Refusal := perform dt selectAssertedEffect s

/-- Select is released: the transaction ends, an incomplete command is discarded, the rest of a response is cut off, and data
out is idle (R168 to R170). The command buffer and the bit count, which the manual empties at the next assertion, are emptied
here already (DESIGN CHOICE, log entry 6). -/
def selectReleasedEffect (s : State) : State :=
  (s.setPins { s.pins with select := false }).setPort ServicePort.reset

/-- SELECT_RELEASED (R170). -/
def execSelectReleased (dt : Passage) (s : State) : Host.Outcome State Fault Refusal := perform dt selectReleasedEffect s

/-- The bytes of a whole command: code, 2-byte parameter length, parameters (R168). -/
def commandBytes (code : Byte) (params : List Byte) : List Byte := code :: natBytes2 params.length ++ params

/-- A response is formed and stands in the response buffer: the result code, and data when it is OK (R168, R169). -/
def respond (code : ResultCode) (data : List Byte) (s : State) : State :=
  s.setPort { s.port with response := some ⟨code.code :: (if code = .ok then data else []), 0⟩ }

/-- A refusal carries the result code alone (R168). -/
def refuse (code : ResultCode) (s : State) : State := respond code [] s

/-- A command is taken at its last byte by a RECEIVING framer that has received its beginning, so that the rest of its bits is
what the row brings; in the other framer states its bytes are not read (R168, R169). -/
def takeCommand (code : Byte) (params : List Byte) (answer : State → State) (s : State) : State :=
  if s.port.framer = .receiving ∧ s.port.begins (commandBytes code params) = true then
    answer (s.setPort { s.port with
      framer := .answering, buffer := commandBytes code params, bitCount := 0, shift := 0 })
  else s

/-- FORMAT when the parameter length is not the command's, before the tests of the command itself (R171). -/
def withLength (want : Nat) (params : List Byte) (answer : State → State) (s : State) : State :=
  if params.length = want then answer s else refuse .format s

/-! ### GET_STATUS and GET_ROSTER -/

/-- Whether the INIT scan runs. -/
def Store.scanning (st : Store) : Bool := st.op == .scan

/-- The bytes of the last operation result (R196, R197). -/
def lastResultBytes : Option OpResult → List Byte
  | none => [0, 0, 0]
  | some r => [r.kind.code, byteOf r.slot, if r.done then 1 else 2]

/-- The status block, 18 bytes; the LOCKED count and the next incident number are 0 during the scan (R172, R196). -/
def State.statusBlock (s : State) : List Byte :=
  [s.control.mode.code, byteOf s.control.station, byteOf s.control.axleCount, s.demand.state.code,
    s.demand.emergency.code, s.blend.mode.code, s.statusFlags, s.recorder.capture.code, s.store.op.code,
    byteOf s.store.op.slot] ++ lastResultBytes s.store.lastResult ++
  [byteOf (if s.store.scanning then 0 else s.store.lockedCount)] ++
  natBytes2 (if s.store.scanning then 0 else s.store.nextNumber) ++ natBytes2 s.recorder.lastOpened

/-- GET_STATUS (R172). -/
def getStatusEffect (params : List Byte) (s : State) : State :=
  takeCommand 0x01 params (withLength 0 params fun s => respond .ok s.statusBlock s) s

/-- GET_STATUS (R172). -/
def execGetStatus (dt : Passage) (params : List Byte) (s : State) : Host.Outcome State Fault Refusal :=
  perform dt (getStatusEffect params) s

/-- The eight roster entries, station 1 first (R173). -/
def Roster.bytes (r : Roster) : List Byte := (r.entries.zipIdx 1).flatMap fun (e, n) => rosterEntryBytes n e

/-- GET_ROSTER (R173). -/
def getRosterEffect (params : List Byte) (s : State) : State :=
  takeCommand 0x02 params (withLength 0 params fun s => respond .ok s.roster.bytes s) s

/-- GET_ROSTER (R173). -/
def execGetRoster (dt : Passage) (params : List Byte) (s : State) : Host.Outcome State Fault Refusal :=
  perform dt (getRosterEffect params) s

/-! ### LOAD_CONFIG and START -/

/-- The record and the check value that LOAD_CONFIG carries (R174, R196). -/
def carriedRecord (params : List Byte) : ConfigRecord := ⟨params.take recordLength, wordAt params recordLength⟩

/-- The result of LOAD_CONFIG's own tests, in R174's order. -/
def loadConfigResult (r : ConfigRecord) (s : State) : ResultCode :=
  if s.control.mode ≠ .config then .state
  else if r.checks = false then .check
  else if r.params.valid s.control.axleCount = false then .range
  else .ok

/-- The record becomes the loaded record, with its axle constants (R48, R174). -/
def loadRecord (r : ConfigRecord) (s : State) : State :=
  s.setControl { s.control with loaded := some ⟨r, r.params.constants s.control.axleCount⟩ }

/-- The answer to a LOAD_CONFIG of the right length (R174). -/
def answerLoadConfig (r : ConfigRecord) (s : State) : State :=
  match loadConfigResult r s with
  | .ok => respond .ok (wordBytes r.check) (loadRecord r s)
  | code => refuse code s

/-- LOAD_CONFIG (R174). -/
def loadConfigEffect (params : List Byte) (s : State) : State :=
  takeCommand 0x03 params (withLength (recordLength + 2) params (answerLoadConfig (carriedRecord params))) s

/-- LOAD_CONFIG (R174). -/
def execLoadConfig (dt : Passage) (params : List Byte) (s : State) : Host.Outcome State Fault Refusal :=
  perform dt (loadConfigEffect params) s

/-- The loaded record becomes the active record, its axle constants the constants in use (R48, R184). -/
def activate (l : LoadedRecord) (s : State) : State :=
  (s.setControl { s.control with active := some l.record, loaded := none }).setSpeed
    { s.speed with constants := some l.constants }

/-- The answer to a START of the right length: OK with mode RUN in CONFIG with a record loaded, STATE otherwise (R175, R185). -/
def answerStart (s : State) : State :=
  match s.control.mode, s.control.loaded with
  | .config, some l => respond .ok [Mode.run.code] (enterRun true (activate l s))
  | _, _ => refuse .state s

/-- START (R175). -/
def startEffect (params : List Byte) (s : State) : State := takeCommand 0x04 params (withLength 0 params answerStart) s

/-- START (R175). -/
def execStart (dt : Passage) (params : List Byte) (s : State) : Host.Outcome State Fault Refusal :=
  perform dt (startEffect params) s

/-! ### The store through the port -/

/-- The two cases in which the six store commands are answered BUSY: the scan, and a POWER incident committing in SAFE
(R176). -/
def State.storeHeld (s : State) : Bool :=
  s.store.scanning ||
  (s.control.mode == .safe && s.recorder.capture == .committing &&
    match s.recorder.image with
    | some img => img.flags.power
    | none => false)

/-- The sixteen directory entries, slot 1 first (R177). -/
def Store.directory (st : Store) : List Byte := st.numbered.flatMap fun (x, n) => directoryEntryBytes n x

/-- The answer to GET_DIRECTORY (R176, R177). -/
def answerDirectory (s : State) : State := if s.storeHeld then refuse .busy s else respond .ok s.store.directory s

/-- GET_DIRECTORY (R177). -/
def getDirectoryEffect (params : List Byte) (s : State) : State :=
  takeCommand 0x05 params (withLength 0 params answerDirectory) s

/-- GET_DIRECTORY (R177). -/
def execGetDirectory (dt : Passage) (params : List Byte) (s : State) : Host.Outcome State Fault Refusal :=
  perform dt (getDirectoryEffect params) s

/-- The header of a slot that can be read: STORED or LOCKED (R153, R178). -/
def Slot.readable (x : Slot) : Option Header :=
  match x.state with
  | .stored => x.header
  | .locked => x.header
  | _ => none

/-- How many items a read returns: the additional count plus 1, cut at the last item (R178, R179). -/
def returned (total first extra : Nat) : Nat := min (extra + 1) (total - first)

/-- The data of a read: first index, number returned, and the items' bytes of `len` each (R178, R179). The first index and the
number returned are one byte each, of which the response tables say nothing (DEDUCED, log entry 31). -/
def readData (items : List Byte) (len total first extra : Nat) : List Byte :=
  [byteOf first, byteOf (returned total first extra)] ++
  (items.drop (len * first)).take (len * returned total first extra)

/-- The answer to a read of a slot's items: the tests of R176 and R178, then header, first index, number returned and items.
`total` and `items` take the slot's items of the kind asked for. -/
def answerRead (len : Nat) (total : Header → Nat) (items : Slot → List Byte) (n first extra : Nat) (s : State) : State :=
  match s.store.slot? n with
  | none => refuse .range s
  | some x =>
    if s.storeHeld then refuse .busy s
    else if 15 < extra then refuse .range s
    else match x.readable with
      | none => refuse .state s
      | some h =>
        if total h ≤ first then refuse .range s
        else respond .ok (h.bytes ++ readData (items x) len (total h) first extra) s

/-- The number of snapshots of an incident: pre-trigger and post-trigger (R178). -/
def Header.snapshotTotal (h : Header) : Nat := h.preCount + h.postCount

/-- READ_INCIDENT (R178). -/
def readIncidentEffect (params : List Byte) (s : State) : State :=
  takeCommand 0x06 params (withLength 3 params
    (answerRead snapshotLength Header.snapshotTotal Slot.snapshots (natAt params 0) (natAt params 1) (natAt params 2))) s

/-- READ_INCIDENT (R178). -/
def execReadIncident (dt : Passage) (params : List Byte) (s : State) : Host.Outcome State Fault Refusal :=
  perform dt (readIncidentEffect params) s

/-- READ_EVENTS (R178). -/
def readEventsEffect (params : List Byte) (s : State) : State :=
  takeCommand 0x07 params (withLength 3 params
    (answerRead eventLength Header.eventCount Slot.events (natAt params 0) (natAt params 1) (natAt params 2))) s

/-- READ_EVENTS (R178). -/
def execReadEvents (dt : Passage) (params : List Byte) (s : State) : Host.Outcome State Fault Refusal :=
  perform dt (readEventsEffect params) s

/-- The answer to READ_HISTORY (R179). -/
def answerHistory (first extra : Nat) (s : State) : State :=
  if 15 < extra then refuse .range s
  else if s.recorder.history.length ≤ first then refuse .range s
  else respond .ok
    (readData (snapshotsBytes s.recorder.history) snapshotLength s.recorder.history.length first extra) s

/-- READ_HISTORY (R179). -/
def readHistoryEffect (params : List Byte) (s : State) : State :=
  takeCommand 0x08 params (withLength 2 params (answerHistory (natAt params 0) (natAt params 1))) s

/-- READ_HISTORY (R179). -/
def execReadHistory (dt : Passage) (params : List Byte) (s : State) : Host.Outcome State Fault Refusal :=
  perform dt (readHistoryEffect params) s

/-- The answer to LOCK_SLOT, UNLOCK_SLOT and ERASE_SLOT: the tests of R176, then the Store Controller's (R156, R180). -/
def answerRequest (kind : OpKind) (n : Nat) (maintenance : Bool) (s : State) : State :=
  match s.store.slot? n with
  | none => refuse .range s
  | some _ =>
    if s.storeHeld then refuse .busy s
    else match s.store.requestResult kind n maintenance with
      | .ok => respond .ok [] (s.setStore (s.store.begin kind n))
      | code => refuse code s

/-- LOCK_SLOT (R180). -/
def lockSlotEffect (params : List Byte) (s : State) : State :=
  takeCommand 0x09 params (withLength 1 params (answerRequest .lock (natAt params 0) s.pins.maintenance)) s

/-- LOCK_SLOT (R180). -/
def execLockSlot (dt : Passage) (params : List Byte) (s : State) : Host.Outcome State Fault Refusal :=
  perform dt (lockSlotEffect params) s

/-- UNLOCK_SLOT with the maintenance input as read (R156, R180). -/
def unlockSlotEffect (params : List Byte) (maintenance : Bool) (s : State) : State :=
  let s := s.setPins { s.pins with maintenance := maintenance }
  takeCommand 0x0A params (withLength 1 params (answerRequest .unlock (natAt params 0) maintenance)) s

/-- UNLOCK_SLOT (R180). -/
def execUnlockSlot (dt : Passage) (params : List Byte) (maintenance : Bool) (s : State) :
    Host.Outcome State Fault Refusal :=
  perform dt (unlockSlotEffect params maintenance) s

/-- ERASE_SLOT (R180). -/
def eraseSlotEffect (params : List Byte) (s : State) : State :=
  takeCommand 0x0B params (withLength 1 params (answerRequest .erase (natAt params 0) s.pins.maintenance)) s

/-- ERASE_SLOT (R180). -/
def execEraseSlot (dt : Passage) (params : List Byte) (s : State) : Host.Outcome State Fault Refusal :=
  perform dt (eraseSlotEffect params) s

/-! ### MARK -/

/-- The answer to MARK: MANUAL is raised with the class, and the capture state and pending flag after it are returned
(R181). -/
def answerMark (b : Byte) (s : State) : State :=
  match classOfByte b with
  | none => refuse .range s
  | some cls =>
    if s.control.mode = .run ∨ s.control.mode = .safe then
      let s := raiseWith .manual cls none s
      respond .ok [s.recorder.capture.code, flagByte s.recorder.pendingTrigger.isSome] s
    else refuse .state s

/-- MARK (R181). -/
def markEffect (params : List Byte) (s : State) : State :=
  takeCommand 0x0C params (withLength 1 params (answerMark (byteAt params 0))) s

/-- MARK (R181). -/
def execMark (dt : Passage) (params : List Byte) (s : State) : Host.Outcome State Fault Refusal :=
  perform dt (markEffect params) s

/-! ### Unknown codes -/

/-- A complete command with the given code: UNKNOWN for a code that is none of the twelve (R171), and the command itself for a
code that is one, so that no term of the syntax is without a meaning. -/
def unknownCommandEffect (code : Byte) (params : List Byte) (s : State) : State :=
  match code.toNat with
  | 1 => getStatusEffect params s
  | 2 => getRosterEffect params s
  | 3 => loadConfigEffect params s
  | 4 => startEffect params s
  | 5 => getDirectoryEffect params s
  | 6 => readIncidentEffect params s
  | 7 => readEventsEffect params s
  | 8 => readHistoryEffect params s
  | 9 => lockSlotEffect params s
  | 10 => unlockSlotEffect params s.pins.maintenance s
  | 11 => eraseSlotEffect params s
  | 12 => markEffect params s
  | _ => takeCommand code params (refuse .unknown) s

/-- UNKNOWN_COMMAND (R171). -/
def execUnknownCommand (dt : Passage) (code : Byte) (params : List Byte) (s : State) : Host.Outcome State Fault Refusal :=
  perform dt (unknownCommandEffect code params) s

end Sys2Proof.Machine
end

