-- ==== Sys2Proof/Machine/Dispatch.lean ====
section
/-!
DEFINITION. The dispatch: one arm per command, in the table's order, each one direct call of its meaning.
-/

namespace Sys2Proof.Machine
open Sys2Proof

def exec (i : Instr) (s : State) : Host.Outcome State Fault Refusal :=
  match i with
  | .powerOnResetRelease dt levels => Sys2Proof.Machine.execPowerOnResetRelease dt levels s
  | .hardResetRelease dt levels => Sys2Proof.Machine.execHardResetRelease dt levels s
  | .resetAsserted dt input => Sys2Proof.Machine.execResetAsserted dt input s
  | .scanEnd dt cutMark => Sys2Proof.Machine.execScanEnd dt cutMark s
  | .powerFailWarningAsserted dt => Sys2Proof.Machine.execPowerFailWarningAsserted dt s
  | .powerFailWarningDeasserted dt => Sys2Proof.Machine.execPowerFailWarningDeasserted dt s
  | .releaseTimerExpiry dt => Sys2Proof.Machine.execReleaseTimerExpiry dt s
  | .configurationRecheck dt => Sys2Proof.Machine.execConfigurationRecheck dt s
  | .demandSample dt handle cab handleEmergency trainLine => Sys2Proof.Machine.execDemandSample dt handle cab handleEmergency trainLine s
  | .demandFrameTimerExpiry dt => Sys2Proof.Machine.execDemandFrameTimerExpiry dt s
  | .speedSweep dt => Sys2Proof.Machine.execSpeedSweep dt s
  | .tachometerEdge dt axle => Sys2Proof.Machine.execTachometerEdge dt axle s
  | .blendComputation dt => Sys2Proof.Machine.execBlendComputation dt s
  | .converterFeedback dt chars => Sys2Proof.Machine.execConverterFeedback dt chars s
  | .stalenessExpiry dt => Sys2Proof.Machine.execStalenessExpiry dt s
  | .requestMessage dt => Sys2Proof.Machine.execRequestMessage dt s
  | .pressureSample dt truck1 truck2 => Sys2Proof.Machine.execPressureSample dt truck1 truck2 s
  | .reportTimerExpiry dt => Sys2Proof.Machine.execReportTimerExpiry dt s
  | .firstGoesOnAir dt idle => Sys2Proof.Machine.execFirstGoesOnAir dt idle s
  | .retryAttempt dt idle => Sys2Proof.Machine.execRetryAttempt dt idle s
  | .attemptSuccess dt => Sys2Proof.Machine.execAttemptSuccess dt s
  | .collision dt => Sys2Proof.Machine.execCollision dt s
  | .jamEnd dt => Sys2Proof.Machine.execJamEnd dt s
  | .framerIdle dt => Sys2Proof.Machine.execFramerIdle dt s
  | .frameComplete dt chars => Sys2Proof.Machine.execFrameComplete dt chars s
  | .silenceExpiry dt station => Sys2Proof.Machine.execSilenceExpiry dt station s
  | .unheardExpiry dt => Sys2Proof.Machine.execUnheardExpiry dt s
  | .duplicateExpiry dt => Sys2Proof.Machine.execDuplicateExpiry dt s
  | .snapshot dt => Sys2Proof.Machine.execSnapshot dt s
  | .writeComplete dt readBack => Sys2Proof.Machine.execWriteComplete dt readBack s
  | .eraseComplete dt clear => Sys2Proof.Machine.execEraseComplete dt clear s
  | .lockComplete dt mark => Sys2Proof.Machine.execLockComplete dt mark s
  | .unlockComplete dt mark => Sys2Proof.Machine.execUnlockComplete dt mark s
  | .selectAsserted dt => Sys2Proof.Machine.execSelectAsserted dt s
  | .selectReleased dt => Sys2Proof.Machine.execSelectReleased dt s
  | .unknownCommand dt code params => Sys2Proof.Machine.execUnknownCommand dt code params s
  | .getStatus dt params => Sys2Proof.Machine.execGetStatus dt params s
  | .getRoster dt params => Sys2Proof.Machine.execGetRoster dt params s
  | .loadConfig dt params => Sys2Proof.Machine.execLoadConfig dt params s
  | .start dt params => Sys2Proof.Machine.execStart dt params s
  | .getDirectory dt params => Sys2Proof.Machine.execGetDirectory dt params s
  | .readIncident dt params => Sys2Proof.Machine.execReadIncident dt params s
  | .readEvents dt params => Sys2Proof.Machine.execReadEvents dt params s
  | .readHistory dt params => Sys2Proof.Machine.execReadHistory dt params s
  | .lockSlot dt params => Sys2Proof.Machine.execLockSlot dt params s
  | .unlockSlot dt params maintenance => Sys2Proof.Machine.execUnlockSlot dt params maintenance s
  | .eraseSlot dt params => Sys2Proof.Machine.execEraseSlot dt params s
  | .mark dt params => Sys2Proof.Machine.execMark dt params s
  | .frameDiscarded dt cause => Sys2Proof.Machine.execFrameDiscarded dt cause s

end Sys2Proof.Machine
end

