-- ==== Sys2Proof/Machine/Step.lean ====
section
/-!
DEFINITION. One step: the command at the front of the queue is taken, or the block's clock ticks.
-/

namespace Sys2Proof.Machine

open Sys2Proof

/-- The tick: with no command waiting, one microsecond passes (DESIGN CHOICE, log entry 1). -/
def tick (s : State) : State := s.advance (.quiet 1)

/-- One step: the command at the front of the queue runs with the queue's rest; on an empty queue the clock ticks. -/
def step (s : State) : Host.Outcome State Fault Refusal :=
  match s.pending with
  | [] => .next (tick s)
  | c :: rest => exec c (s.setPending rest)

/-- `s` with the command that a word spells at the front of its queue; `s` itself where the word spells none. -/
def State.withFetchWord (s : State) (nbits w : Nat) : State :=
  match decodeTableWord nbits w with
  | some c => s.setPending (c :: s.pending)
  | none => s

end Sys2Proof.Machine
end

