-- ==== Sys2Proof/Safety.lean ====
section
/-!
DEFINITION. What a state of the device is, block by block: the ranges and relations that the manual gives its state and that
every command keeps. `Safe` gathers them. A state that no run reaches need not meet them.
-/

namespace Sys2Proof.Machine

open Sys2Proof

/-- RUN and SAFE, the modes in which the device works (R4, R49, R93, R105, R132, R188). -/
def Mode.working : Mode → Bool
  | .run => true
  | .safe => true
  | _ => false

/-- A device that is neither held in reset nor in INIT (R165, R182). -/
def State.started (s : State) : Prop := s.heldInReset = false ∧ s.control.mode ≠ .init

/-- A device whose next command takes place: not held in reset, and not without the record it works by. -/
structure Accepts (s : State) : Prop where
  released : s.heldInReset = false
  record : s.lacksRecord = false

/-- The Mode Controller: straps (R182), records within their ranges (R174, R183, R184), the recheck (R188) and the release
timer (R187). -/
structure ModeSafe (s : State) : Prop where
  station : 1 ≤ s.control.station ∧ s.control.station ≤ 8
  axles : s.control.axleCount = 4 ∨ s.control.axleCount = 6
  active : ∀ r, s.control.active = some r → r.valid s.control.axleCount = true
  loaded : ∀ l, s.control.loaded = some l →
    l.record.valid s.control.axleCount = true ∧ l.constants = l.record.params.constants s.control.axleCount
  works : s.control.mode.working = true → s.control.active.isSome = true
  config : s.control.mode = .config → s.control.active = none
  loadedIn : s.control.loaded.isSome = true → s.control.mode = .config
  failed : s.control.recheckFailed = true → s.control.mode = .safe
  releasing : s.control.releaseTimer.isSome = true → s.control.mode = .safe
  recheck : s.control.recheckTimer.isSome = s.control.mode.working

/-- The Demand Unit: ranges, controlling status (R6, R9), the demand state (R11) and the latch (R17, R18). -/
structure DemandSafe (s : State) : Prop where
  handle : s.demand.handle ≤ 1000
  dEff : s.demand.dEff ≤ 1000
  logged : s.demand.lastLogged ≤ 1000
  timer : s.demand.sampleTimer.isSome = s.control.mode.working
  frame : s.demand.frameTimer.isSome = s.demand.controlling
  enqueued : s.demand.lastEnqueued.isSome = s.demand.controlling
  inRun : s.demand.controlling = true → s.control.mode = .run
  none_ : s.demand.state = .none → s.demand.dEff = 0
  loss : s.demand.lossOpen = true → s.demand.state = .held
  latch : s.demand.latch = true → s.demand.emergency = .emergency

/-- One axle: ranges (R50, R51), NO_EDGE reads 0 (R53), and recovery is a SUSPECT axle's (R55, R56). -/
structure AxleSafe (a : Axle) : Prop where
  edges : a.edgeCount ≤ 100
  newest : a.newestEdge.isSome = decide (0 < a.edgeCount)
  first : a.firstNewEdge.isSome = decide (0 < a.edgeCount)
  speed : a.speed ≤ 16000
  prev : a.prevSpeed ≤ 16000
  noEdge : a.status = .noEdge → a.speed = 0
  last : a.status ≠ .noEdge → a.lastEdge.isSome = true
  recovery : a.recoverySince.isSome = true → a.status = .suspect

/-- The Speed Unit (R47, R49, R57 to R60). -/
structure SpeedSafe (s : State) : Prop where
  axles : s.speed.axles.length = 6
  each : ∀ a ∈ s.speed.axles, AxleSafe a
  vRef : s.speed.vRef ≤ 16000
  timer : s.speed.sweepTimer.isSome = s.control.mode.working

/-- One truck under the lockout limit `limit`: each slide state fixes the factor and the valve command (R72), the release time
stays within the limit (R77), and the quiet run is a WATCH truck's (R73). -/
structure TruckSafe (limit : Nat) (t : Truck) : Prop where
  fixed : match t.state with
    | .normal => t.factor = 50 ∧ t.valve = .apply ∧ t.releaseTime = 0
    | .watch => t.factor = 50 ∧ t.valve = .apply ∧ t.releaseTime = 0
    | .relieve => t.factor = 0 ∧ t.valve = .vent
    | .hold => t.factor = 0 ∧ t.valve = .hold
    | .reapply => t.factor % 2 = 1 ∧ t.factor < 50 ∧ t.valve = .apply
    | .lockout => t.factor = 50 ∧ t.valve = .apply ∧ t.releaseTime = limit
  release : t.releaseTime ≤ limit
  tens : t.releaseTime % 10 = 0
  below : t.state ≠ .lockout → t.releaseTime < limit ∨ t.releaseTime = 0
  quiet : t.quietSince.isSome = true → t.state = .watch

/-- The Slide Unit: both trucks, each valve drive at its truck's command (R91), and NORMAL outside RUN (R82, R83). -/
structure SlideSafe (s : State) : Prop where
  truck1 : TruckSafe s.params.tLockout s.slide.truck1
  truck2 : TruckSafe s.params.tLockout s.slide.truck2
  drive1 : s.output.truck1.drive = s.slide.truck1.valve
  drive2 : s.output.truck2.drive = s.slide.truck2.valve
  outside : s.control.mode ≠ .run → s.slide.truck1 = Truck.reset ∧ s.slide.truck2 = Truck.reset

/-- One truck's pressure feedback (R93). -/
structure TruckOutputSafe (t : TruckOutput) : Prop where
  pMeas : t.pMeas ≤ 700
  episode : t.mismatchOpen = true → t.mismatchSince.isSome = true

/-- The outputs and the blend: the valid line and the requests follow the mode (R21, R88 to R90, R92), the feedback and the own
participation agree (R85, R86). -/
structure OutputSafe (s : State) : Prop where
  valid : s.output.valid = decide (s.control.mode = .run)
  cut : s.output.dReq ≤ s.blend.avail
  pressure : s.output.pReq = 0 ∨ (s.params.pTake ≤ s.output.pReq ∧ s.output.pReq ≤ s.params.pMax) ∨
    s.output.pReq = s.params.pEmer
  outside : s.control.mode ≠ .run → s.output.pReq = 0 ∧ s.blend.avail = 0 ∧ s.blend.target = 0 ∧ s.blend.dyn = 0 ∧
    s.blend.shortfall = 0 ∧ s.blend.dTarget = 0 ∧ s.blend.air = 0 ∧ s.blend.shortfallSince = none
  blendTimer : s.blend.timer.isSome = decide (s.control.mode = .run)
  episode : s.blend.shortfallOpen = true → s.blend.shortfallSince.isSome = true
  pressureTimer : s.output.pressureTimer.isSome = s.control.mode.working
  effort : s.output.eOwn ≤ 800 ∧ s.output.lConv ≤ 800
  stale : s.output.participation ≠ .blend →
    s.output.participation = .air ∧ s.output.eOwn = 0 ∧ s.output.lConv = 0
  fresh : s.output.stalenessTimer.isSome = decide (s.output.participation = .blend)
  truck1 : TruckOutputSafe s.output.truck1
  truck2 : TruckOutputSafe s.output.truck2

/-- The Line Controller: the queue's limits (R104), the attempt count (R109, R110), and what each mode lets it hold (R113). -/
structure LineSafe (s : State) : Prop where
  notices : s.line.queue.notices.length ≤ 2
  attempts : s.line.attempts ≤ 7
  idle : s.line.onAir = none → s.line.attempts = 0
  outsideRun : s.control.mode ≠ .run → s.line.queue.notices = [] ∧ s.line.queue.demand = none
  silent : s.control.mode.working = false → s.line.queue.report = false ∧ s.line.onAir = none
  safeAir : s.control.mode = .safe → ∀ f, s.line.onAir = some f → f.content.kind = .report
  timer : s.line.reportTimer.isSome = s.control.mode.working
  init : s.control.mode = .init → s.line.framer = .ignoring

/-- The fields of a roster entry, present as its state says (R115, R116, R120). -/
structure EntrySafe (e : Entry) : Prop where
  fields : match e.state with
    | .absent => e.lastSeq = none ∧ e.lastHeard = none ∧ e.joinCount = 0 ∧ e.held = none
    | .joining => e.lastSeq.isSome = true ∧ e.lastHeard.isSome = true ∧ (e.joinCount = 1 ∨ e.joinCount = 2) ∧
      e.held.isSome = true
    | .present => e.lastSeq.isSome = true ∧ e.lastHeard.isSome = true ∧ e.joinCount = 3 ∧ e.held.isSome = true
    | .stale => e.lastSeq.isSome = true ∧ e.lastHeard.isSome = true ∧ e.joinCount = 3 ∧ e.held.isSome = true
    | .lost => e.lastSeq.isSome = true ∧ e.lastHeard.isSome = true ∧ e.joinCount = 0 ∧ e.held = none
    | .self => e.lastSeq = none ∧ e.lastHeard = none ∧ e.joinCount = 0 ∧ e.held.isSome = true ∧
      e.latestDemand = none ∧ e.lastNotice = none
  notice : e.lastNotice ≠ some 0

/-- The Peer Roster: eight entries (R115), SELF at the own number in RUN and SAFE and nowhere else (R116), the UNHEARD run in RUN
alone (R125), DUPLICATE with its expiry (R126). -/
structure RosterSafe (s : State) : Prop where
  entries : s.roster.entries.length = 8
  each : ∀ e ∈ s.roster.entries, EntrySafe e
  own : ∀ e, s.roster.entry? s.control.station = some e → e.latestDemand = none ∧ e.lastNotice = none ∧
    e.state = if s.control.mode.working then .self else .absent
  peers : ∀ n e, n ≠ s.control.station → s.roster.entry? n = some e → e.state ≠ .self
  unheard : s.roster.unheardSince.isSome = true → s.control.mode = .run
  duplicate : s.roster.duplicateExpiry.isSome = s.roster.duplicate

/-- A capture image (R138, R139). -/
structure ImageSafe (img : Image) : Prop where
  number : 1 ≤ img.number ∧ img.number ≤ 65535
  pre : img.pre.length ≤ 64
  post : img.post.length ≤ 32
  events : img.events.length ≤ 48
  secondary : img.secondary ≤ 255
  noticed : img.cls = .severe → img.cause ≠ .peerNotice → img.noticeEnqueued = true
  unnoticed : img.cause = .peerNotice → img.noticeEnqueued = false

/-- The Recorder: ring sizes (R132, R134), the image with the capture state (R138, R141, R145), one pending trigger, while
COMMITTING (R146). -/
structure RecorderSafe (s : State) : Prop where
  history : s.recorder.history.length ≤ 64
  events : s.recorder.events.length ≤ 32
  occurrences : s.recorder.lastOccurrence.length = 12
  image : s.recorder.image.isSome = decide (s.recorder.capture ≠ .idle)
  each : ∀ img, s.recorder.image = some img → ImageSafe img
  filling : s.recorder.capture = .filling → ∀ img, s.recorder.image = some img → img.post.length ≤ 31
  pending : s.recorder.pendingTrigger.isSome = true → s.recorder.capture = .committing
  merged : ∀ p, s.recorder.pendingTrigger = some p → p.merged ≤ 255 ∧ (p.power = true → p.cls = .severe)
  timer : s.recorder.snapshotTimer.isSome = s.control.mode.working
  opened : s.recorder.lastOpened ≤ 65535

/-- A slot that a scan may find LOCKED: a valid header, no operation tag, a mark not cleanly unlocked (R165). -/
def Slot.mayLock (x : Slot) : Bool := x.header.isSome && !x.tag && x.mark != some .unlocked

/-- A slot's content, as its state says (R153, R154, R158, R161). -/
structure SlotSafe (x : Slot) : Prop where
  content : match x.state with
    | .free => x.header = none ∧ x.tag = false ∧ x.clear = true
    | .writing => x.header = none ∧ x.tag = true
    | .stored => x.header.isSome = true ∧ x.tag = false ∧ (x.mark = none ∨ x.mark = some .unlocked)
    | .locked => x.header.isSome = true ∧ x.tag = false ∧ x.mark ≠ some .unlocked
    | .damaged => x.header = none
    | .erasing => x.header = none ∧ x.tag = true
  number : ∀ h, x.header = some h → 1 ≤ h.number ∧ h.number ≤ 65535

/-- One LOCKED slot more, to come at the completion of the WRITE in flight (R158). -/
def Operation.toLock : Operation → Nat
  | .write _ true _ => 1
  | _ => 0

/-- The state of the slot that an operation works on (R153). -/
def Operation.slotState : Operation → Option SlotState
  | .none => Option.none
  | .scan => Option.none
  | .write _ _ _ => some .writing
  | .erase _ => some .erasing
  | .lock _ => some .stored
  | .unlock _ => some .locked

/-- The Store Controller: sixteen slots (R153), at most 12 of them LOCKED now or after any reset (R153, R165), one operation at a
time with its slot in the state of that operation (R155), and the number of the next incident (R164). -/
structure StoreSafe (s : State) : Prop where
  slots : s.store.slots.length = 16
  each : ∀ x ∈ s.store.slots, SlotSafe x
  locked : s.store.slots.countP Slot.mayLock + s.store.op.toLock ≤ 12
  scan : s.store.op = .scan → s.control.mode = .init
  scanning : s.heldInReset = false → s.control.mode = .init → s.store.op = .scan
  busy : ∀ st, s.store.op.slotState = some st → ∃ x, s.store.slot? s.store.op.slot = some x ∧ x.state = st
  marking : (s.store.op.slotState = some .stored ∨ s.store.op.slotState = some .locked) →
    ∀ x, s.store.slot? s.store.op.slot = some x → x.mark = none
  marks : s.started → ∀ n x, s.store.slot? n = some x → x.mark = none → n = s.store.op.slot ∧
    (s.store.op.slotState = some .stored ∨ s.store.op.slotState = some .locked)
  working : s.started → ∀ n x, s.store.slot? n = some x → (x.state = .writing ∨ x.state = .erasing) →
    n = s.store.op.slot ∧ s.store.op.slotState = some x.state
  next : s.control.mode ≠ .init → 1 ≤ s.store.nextNumber ∧ s.store.nextNumber ≤ 65535

/-- The commit: a COMMITTING incident is being written or waits for an operation in flight (R145), its expected number is the
number that the write assigns (R138), and an image that stands in INIT is one kept through a hard reset (R151). -/
structure CommitSafe (s : State) : Prop where
  commit : s.started → s.recorder.capture = .committing → s.store.op ≠ .none
  write : ∀ n l r, s.store.op = .write n l r → s.recorder.capture = .committing
  writing : ∀ n l r img x, s.store.op = .write n l r → s.recorder.image = some img → s.store.slot? n = some x →
    x.writing = img.number
  expected : s.started → (∀ n l r, s.store.op ≠ .write n l r) → ∀ img, s.recorder.image = some img →
    img.kept = false ∧ img.number = s.store.nextNumber
  kept : s.control.mode = .init → ∀ img, s.recorder.image = some img → img.kept = true

/-- The Service Port: a response stands while ANSWERING and at no other time, its read position within it (R168); the bits of
the present byte are those counted, and none stands but while RECEIVING, when the command is incomplete; and data
out is idle while no response is clocked out (R170). -/
structure PortSafe (s : State) : Prop where
  response : s.port.response.isSome = decide (s.port.framer = .answering)
  position : ∀ r, s.port.response = some r → r.position ≤ r.bytes.length
  count : s.port.bitCount ≤ 7
  shift : s.port.shift.toNat < 2 ^ s.port.bitCount
  unread : s.port.framer ≠ .receiving → s.port.shift = 0
  receiving : s.port.framer = .receiving → commandComplete s.port.buffer = false
  dataOut : s.port.framer ≠ .answering → s.port.dataOut = true

/-- A state of the device: every block's relations hold. -/
structure Safe (s : State) : Prop where
  mode : ModeSafe s
  demand : DemandSafe s
  speed : SpeedSafe s
  slide : SlideSafe s
  output : OutputSafe s
  line : LineSafe s
  roster : RosterSafe s
  recorder : RecorderSafe s
  store : StoreSafe s
  commit : CommitSafe s
  port : PortSafe s

/-! ### What a command leaves unchanged, and what it answers -/

/-- `t` is `s` but for what logged events and raised sources can change: the Recorder without its history and snapshot timer,
its event ring only by events of this moment, its occurrence times only to this moment; a WRITE begun in an idle store; and
NOTICEs enqueued behind those that are queued (R134, R137 to R148). -/
def RaisedFrom (s t : State) : Prop :=
  ∃ (r : Recorder) (st : Store) (ns : List NoticeContent) (es : List Event),
    t = ((s.setRecorder r).setStore st).setLine
      (s.line.withQueue { s.line.queue with notices := s.line.queue.notices ++ ns }) ∧
    r.history = s.recorder.history ∧ r.snapshotTimer = s.recorder.snapshotTimer ∧
    r.events = es.foldl (fun ring e => pushRing 32 e ring) s.recorder.events ∧ (∀ e ∈ es, e.time = s.now) ∧
    (∀ n, r.lastOccurrenceOf n = s.recorder.lastOccurrenceOf n ∨ r.lastOccurrenceOf n = some s.now) ∧
    (st = s.store ∨ s.store.op = .none ∧ ∃ n img, s.store.chooseSlot = some n ∧ st = s.store.beginWrite n img)

/-- The device hears a service command after the passage `dt`: its framer is RECEIVING, and what it has received by then is
the beginning of the command's code, parameter length and parameters (R168). -/
structure State.hears (dt : Passage) (code : Byte) (params : List Byte) (s : State) : Prop where
  receiving : s.port.framer = .receiving
  begun : (s.advance dt).port.begins (code :: natBytes2 params.length ++ params) = true

/-- `s` after the passage `dt` and after a service command has been taken and answered: the framer ANSWERING, the command in
the command buffer, the response in the response buffer with none of it read, and nothing else changed (R168, R169). -/
def State.answered (dt : Passage) (code : Byte) (params response : List Byte) (s : State) : State :=
  (s.advance dt).setPort { (s.advance dt).port with
    framer := .answering, buffer := code :: natBytes2 params.length ++ params, bitCount := 0, shift := 0
    response := some ⟨response, 0⟩ }

/-- `t` is `s` just after an entry to RUN from INIT or CONFIG: every timer started at this moment, the initialising sweep to come,
the outputs valid with requests of 0, the own roster entry SELF, the unheard condition evaluated, the MODE event logged, and all
else but the Service Port as before (R4, R21, R49, R91, R92, R93, R105, R116, R123, R132, R185, R188). -/
structure EnteredRun (s t : State) : Prop where
  control : t.control = { s.control with mode := .run, recheckTimer := some t.now }
  demand : t.demand = { s.demand with sampleTimer := some t.now }
  blend : t.blend = { s.blend with timer := some t.now }
  speed : t.speed = { s.speed with sweepTimer := some t.now, initialising := true }
  output : t.output = { s.output with
    valid := true, dReq := 0, pReq := 0, pressureTimer := some t.now
    truck1 := { s.output.truck1 with drive := s.slide.truck1.valve }
    truck2 := { s.output.truck2 with drive := s.slide.truck2.valve } }
  line : t.line = { s.line with reportTimer := some t.now }
  own : t.roster.entry? s.control.station = some (Entry.ownSelf (ownFields .out s.params.rOwn 0 0 0 0))
  peers : ∀ n, n ≠ s.control.station → t.roster.entry? n = s.roster.entry? n
  flags : t.roster.unheard = s.roster.unheard ∧ t.roster.duplicate = s.roster.duplicate ∧
    t.roster.duplicateExpiry = s.roster.duplicateExpiry
  heard : t.roster.unheardSince = if t.unheardCondition then some (s.roster.unheardSince.getD t.now) else none
  recorder : t.recorder = { s.recorder.log ⟨t.now, .mode s.control.mode .run⟩ with snapshotTimer := some t.now }
  rest : t.store = s.store ∧ t.slide = s.slide ∧ t.pins = s.pins ∧ t.clock = s.clock

/-- The values that either release gives, block by block (R1, R20, R46, R63, R83, R96, R114, R131, R167, R170, R190): `t` is the
state after the release, `s` the state before. The slots keep their content. -/
structure ReleasedTo (levels : ReleaseLevels) (s t : State) : Prop where
  clock : t.now = 0 ∧ t.micros = 0
  demand : t.demand = DemandUnit.reset
  blend : t.blend = BlendUnit.reset
  speed : t.speed = SpeedUnit.reset
  slide : t.slide = SlideUnit.reset
  output : t.output = OutputStage.reset
  line : t.line = LineController.reset
  roster : t.roster = Roster.reset
  store : t.store.slots = s.store.slots ∧ t.store.op = .scan ∧ t.store.lastResult = none
  port : t.port.response = none ∧ t.port.buffer = [] ∧ t.port.bitCount = 0 ∧
    t.port.shift = 0 ∧ t.port.dataOut = true ∧ t.port.framer = if levels.select then .ignoring else .idle
  mode : t.control.mode = .init ∧ t.control.loaded = none ∧ t.control.recheckTimer = none ∧
    t.control.recheckFailed = false ∧ t.control.releaseTimer = none ∧ t.control.warning = levels.warning
  rings : t.recorder.history = [] ∧ t.recorder.events = [] ∧ t.recorder.lastOccurrence = List.replicate 12 none ∧
    t.recorder.pendingTrigger = none ∧ t.recorder.lastOpened = 0 ∧ t.recorder.snapshotTimer = none

end Sys2Proof.Machine
end

