-- ==== Sys2Proof/Certificates/Slice0/Obligations.lean ====
section
/-!
DEFINITION. The statements about the BX416, in the order of OBLIGATIONS.json: the machine, its invariants, the frame layouts,
resets and modes, then block by block what every command does on the states in which it takes place.

`Accepts s` says that the next command takes place: no reset is asserted, and the record is there that RUN and SAFE need.
`s.advance dt` is `s` after the passage `dt`: the two counters, the line idle time, the line's receive framer and the service
port's transaction have moved, and nothing else (PassageMovesClockLineAndPort, FramerDispatchesNoBadFrameAndNoEcho).
-/

open Sys2Proof Sys2Proof.Machine

/-! ### The machine -/

/-- One step takes the command at the front of the queue with the queue's rest, and the command itself adds nothing to the queue and
takes nothing from it. On an empty queue 1 µs passes, which is the model's choice (log entry 1). -/
def Obligations.StepTakesTheFrontCommand : Prop :=
  (∀ (c : Instr) (rest : List Instr) (s : State), step (s.setPending (c :: rest)) = exec c (s.setPending rest)) ∧
  (∀ (c : Instr) (s t : State), exec c s = .next t → t.pending = s.pending) ∧
  ∀ s : State, step (s.setPending []) = .next ((s.setPending []).advance (.quiet 1))

/-- What passes before a command changes nothing but this. The receive framer hears the line
(FramerDispatchesNoBadFrameAndNoEcho). Both counters run. The line idle time runs while the line is recessive
and counts from the end of the last dominant bit on it, another station's or one that the own transmitter has sent in its frame
or its jam; in such a bit it is 0. A port that is
IDLE or IGNORING counts no clocks. While RECEIVING, eight clocks bring a byte, most significant bit first, into the command buffer;
while ANSWERING, each clock drives the next bit of the response, or a 1 past its end. The command that a transaction's first bits
begin is the one that is heard. Model's choices: log entries 1, 3, 6 and 12. -/
def Obligations.PassageMovesClockLineAndPort : Prop :=
  ∀ (dt : Passage) (s t : State), t = s.advance dt →
    t = ((s.setClock t.clock).setPort t.port).setLine { s.line with
      idleMicros := t.line.idleMicros, framer := t.line.framer, buffer := t.line.buffer, echo := t.line.echo } ∧
    t.micros = s.micros + BitVec.ofNat 32 dt.micros ∧
    t.now = s.now + BitVec.ofNat 32 ((s.clock.phase + dt.micros) / 1000) ∧
    t.clock.phase = (s.clock.phase + dt.micros) % 1000 ∧
    (∀ heard : Nat, (dt.dominant = none ∧ heard = s.line.idleMicros + dt.micros) ∨
        (∃ k, dt.dominant = some k ∧ k ≤ dt.micros ∧ heard = k) →
      ((∀ f since, s.line.onAir = some f → f.phase ≠ .sending since ∧ f.phase ≠ .jamming since) →
        t.line.idleMicros = heard) ∧
      ∀ (f : OnAir) (since : Time) (levels : List Bool) (bit : Nat), s.line.onAir = some f →
        (f.phase = .sending since ∧ levels = (frameBytes s.control.station f.seq f.content).flatMap (fun x =>
            [false, x.getLsbD 0, x.getLsbD 1, x.getLsbD 2, x.getLsbD 3, x.getLsbD 4, x.getLsbD 5, x.getLsbD 6, x.getLsbD 7,
              true]) ∨
          f.phase = .jamming since ∧ levels = List.replicate 16 false) →
        levels[bit]? = some false → bit ≤ elapsed since t.micros / 4 →
        (∀ later, bit < later → later ≤ elapsed since t.micros / 4 → levels[later]? ≠ some false) →
        t.line.idleMicros = min heard (elapsed since t.micros - 4 * (bit + 1))) ∧
    ((s.port.framer = .idle ∨ s.port.framer = .ignoring) ∨ dt.clocks = [] → t.port = s.port) ∧
    (∀ b bits : List Bool, ∀ x : Byte, s.port.framer = .receiving → s.port.bitCount = 0 → s.port.shift = 0 → b ++ bits =
        [x.getLsbD 7, x.getLsbD 6, x.getLsbD 5, x.getLsbD 4, x.getLsbD 3, x.getLsbD 2, x.getLsbD 1, x.getLsbD 0] →
      dt.clocks = b →
      (bits ≠ [] → t.port.bitCount = b.length ∧ t.port.buffer = s.port.buffer ∧ t.port.framer = .receiving) ∧
      (bits = [] → ¬ (3 ≤ s.port.buffer.length + 1 ∧
          s.port.buffer.length + 1 = 3 + natAt2 (s.port.buffer ++ [x]) 1) →
        t.port = { s.port with buffer := s.port.buffer ++ [x] })) ∧
    (∀ r : Response, s.port.framer = .answering → s.port.response = some r → s.port.bitCount = 0 →
      ∀ x : Byte, x = (if h : r.position < r.bytes.length then r.bytes[r.position] else 0xFF) →
        (∀ b : List Bool, b.length < 8 → dt.clocks = b → b ≠ [] →
          t.port = { s.port with bitCount := b.length, dataOut := x.getLsbD (8 - b.length) }) ∧
        (dt.clocks.length = 8 → t.port = { s.port with
          response := some ⟨r.bytes, min (r.position + 1) r.bytes.length⟩, dataOut := x.getLsbD 0 })) ∧
    (∀ (code : Byte) (params : List Byte) (bits : List Bool), params.length < 65536 →
      s.port = ⟨.receiving, [], 0, 0, none, true⟩ →
      bits = (code :: natBytes2 params.length ++ params).flatMap (fun x =>
        [x.getLsbD 7, x.getLsbD 6, x.getLsbD 5, x.getLsbD 4, x.getLsbD 3, x.getLsbD 2, x.getLsbD 1, x.getLsbD 0]) →
      (∀ k, k < bits.length → dt.clocks = bits.take k → s.hears dt code params) ∧
      (dt.clocks.length < 24 → dt.clocks ≠ bits.take dt.clocks.length → ¬ s.hears dt code params))

/-- The state right after a power-on reset meets every invariant and holds the values of the reset tables, block by block: mode
INIT with the scan under way and no record, demand NONE, emergency CLEAR, blend LOCAL, V_ref 0, outputs invalid, every roster entry
ABSENT, capture IDLE, framers and timers at rest. That the store is blank, the station 1 and the axle count 4 is the model's choice
(log entry 4), on which Safe rests too. -/
def Obligations.ResetIsSafe : Prop :=
  Safe State.reset ∧ ∀ s : State, s = State.reset →
    s.pending = [] ∧ s.now = 0 ∧ s.micros = 0 ∧
    s.demand = ⟨0, false, false, false, none, .none, 0, 0, false, false, 0, .clear, 0, false, none, none⟩ ∧
    s.blend = ⟨none, .localBlend, 0, 0, 0, 0, 0, 0, none, false⟩ ∧
    s.speed = ⟨none, List.replicate 6 ⟨0, none, none, none, 0, 0, .noEdge, none⟩, 0, false, false, none⟩ ∧
    s.slide = ⟨⟨.normal, 50, .apply, 0, none⟩, ⟨.normal, 50, .apply, 0, none⟩, false⟩ ∧
    s.output = ⟨0, 0, false, ⟨.apply, 0, false, none, false⟩, ⟨.apply, 0, false, none, false⟩, 0, 0, .air, none, none, none⟩ ∧
    s.line = ⟨⟨[], none, false⟩, none, 0, 0, 0, 0, 0, none, .ignoring, [], false⟩ ∧
    s.roster = ⟨List.replicate 8 ⟨.absent, none, none, 0, none, none, none⟩, false, none, false, none⟩ ∧
    s.recorder = ⟨[], [], List.replicate 12 none, .idle, none, none, 0, none⟩ ∧
    s.store.op = .scan ∧ s.store.lastResult = none ∧ s.store.slots.length = 16 ∧
    (∀ x ∈ s.store.slots, x.header = none ∧ x.tag = false ∧ x.clear = true) ∧
    s.port = ⟨.idle, [], 0, 0, none, true⟩ ∧
    s.control = ⟨.init, 1, 4, none, none, none, false, false, none, false⟩

/-- A device that meets the invariants takes every command, well formed or not, and never stops. Model's choices: log entry 7. -/
def Obligations.SafeDeviceNeverStops : Prop :=
  ∀ s : State, Safe s → (∀ c : Instr, ∃ t, exec c s = .next t) ∧ ∃ t, step s = .next t

/-! ### What every step keeps -/

/-- The Mode Controller keeps its relations through every step: the station is 1 to 8 and the axle count 4 or 6, every active or
loaded record meets R189, RUN and SAFE have an active record and CONFIG none, recheck failed and the release timer are SAFE's,
a service response stands while ANSWERING alone and is read no further than its end, a RECEIVING port holds less than a command,
and data out is idle but while ANSWERING. Model's choices: log entry 6. -/
def Obligations.ModesStayLegal : Prop :=
  ∀ s t : State, Safe s → step s = .next t → ModeSafe t ∧ PortSafe t

/-- The Demand Unit keeps its ranges and relations through every step: controlling is RUN's, NONE has demand 0, a loss episode is
HELD's, a set latch is EMERGENCY's. -/
def Obligations.DemandUnitStaysConsistent : Prop :=
  ∀ s t : State, Safe s → step s = .next t → DemandSafe t

/-- Every step keeps the six axles and V_ref in range, and both trucks with the factor and valve command of their slide state,
the release time within T_lockout, the valve drive at the truck's command, and NORMAL outside RUN. Model's choices: log entry 23
(the quiet-since time after WATCH). -/
def Obligations.AxlesAndTrucksStayConsistent : Prop :=
  ∀ s t : State, Safe s → step s = .next t → SpeedSafe t ∧ SlideSafe t

/-- Every step keeps the outputs with the mode: valid line in RUN alone, d_req at most A_own, p_req one of its three values and 0
outside RUN, zero blend results outside RUN, feedback values 0 while the own participation is AIR. -/
def Obligations.OutputsFollowTheMode : Prop :=
  ∀ s t : State, Safe s → step s = .next t → OutputSafe t

/-- Every step keeps the line within its limits: at most two queued NOTICEs, at most seven failed attempts, nothing but REPORTs
in SAFE, nothing at all in INIT and CONFIG; with no frame on air the attempt count is 0. Model's choices: log entry 27. -/
def Obligations.LineHoldsWhatTheModeAllows : Prop :=
  ∀ s t : State, Safe s → step s = .next t → LineSafe t ∧ t.line.queue.notices.length ≤ 2

/-- Every step keeps each roster entry's fields as its state says, SELF at the own number in RUN and SAFE and nowhere else, and no
UNHEARD run outside RUN. -/
def Obligations.RosterEntriesMatchTheirStates : Prop :=
  ∀ s t : State, Safe s → step s = .next t → RosterSafe t

/-- Every step keeps the Recorder's ring sizes, the image with the capture state, one pending trigger while COMMITTING alone, and
a COMMITTING incident being written under its expected number or waiting for the operation in flight. Model's choices: log entry
19. -/
def Obligations.CaptureStaysWhole : Prop :=
  ∀ s t : State, Safe s → step s = .next t → RecorderSafe t ∧ CommitSafe t

/-- Every step keeps the store: sixteen slots whose content fits their state, one operation at a time on a slot in that
operation's state, and never more than 12 LOCKED slots. Model's choices: log entry 19. -/
def Obligations.AtMostTwelveSlotsAreLocked : Prop :=
  ∀ s t : State, Safe s → step s = .next t → StoreSafe t ∧ t.store.lockedCount ≤ 12

/-! ### Layouts -/

/-- The check value: all ones over no bytes, and with each byte, most significant bit first, the register divided on by
x^16 + x^12 + x^5 + 1 (`r` are its values from bit to bit). A frame that a station sends has every field of the header, of each
payload and of the check at its offset. It passes every test of R99 at a receiver, which reads from it the kind, station, sequence
and payload sent; it is as long as R98 says, and the stored REPORT payload is the 20 bytes received. -/
def Obligations.FramesReadBackAsSent : Prop :=
  (checkValue [] = 0xFFFF ∧ checkValue [0x31, 0x32, 0x33, 0x34, 0x35, 0x36, 0x37, 0x38, 0x39] = 0x29B1 ∧
    (∀ (bs : List Byte) (b : Byte), checkValue (bs ++ [b]) = checkByte (checkValue bs) b) ∧
    ∀ (reg : BitVec 16) (b : Byte), ∃ r : Nat → BitVec 16, r 0 = reg ∧ r 8 = checkByte reg b ∧
      ∀ k i, k < 8 → i < 16 → (r (k + 1)).getLsbD i =
        ((decide (0 < i) && (r k).getLsbD (i - 1)) ^^
          (((r k).getLsbD 15 ^^ b.getLsbD (7 - k)) && decide (i = 0 ∨ i = 5 ∨ i = 12)))) ∧
  (∀ (n : Nat) (seq : Byte) (x : FrameContent) (bs pay : List Byte), 1 ≤ n → n ≤ 8 → bs = frameBytes n seq x →
    pay = (bs.drop 5).take (natAt bs 4) →
    byteAt bs 0 = 0xA7 ∧ byteAt bs 2 = BitVec.ofNat 8 n ∧ byteAt bs 3 = seq ∧
    wordAt bs (5 + natAt bs 4) = checkValue ((bs.drop 1).take (4 + natAt bs 4)) ∧
    match x with
    | .report p => byteAt bs 1 = 1 ∧ byteAt bs 4 = 20 ∧ byteAt pay 0 = p.participation ∧ byteAt pay 1 = p.flags ∧
      wordAt pay 2 = p.vRef ∧ wordAt pay 4 = p.r ∧ wordAt pay 6 = p.a ∧ wordAt pay 8 = p.e ∧ wordAt pay 10 = p.dEcho ∧
      byteAt pay 12 = p.relief ∧ byteAt pay 13 = p.lockout ∧ byteAt pay 14 = p.view ∧ wordAt pay 15 = p.lastIncident ∧
      byteAt pay 17 = p.fill1 ∧ byteAt pay 18 = p.fill2 ∧ byteAt pay 19 = p.fill3
    | .demand c => byteAt bs 1 = 2 ∧ byteAt bs 4 = 4 ∧ wordAt pay 0 = BitVec.ofNat 16 c.d ∧
      byteAt pay 2 = (if c.emergency then 1 else 0) ∧ byteAt pay 3 = 0
    | .notice c => byteAt bs 1 = 3 ∧ byteAt bs 4 = 6 ∧ wordAt pay 0 = BitVec.ofNat 16 c.number ∧
      natAt pay 2 = c.cause.codeNat ∧ byteAt pay 3 = (if c.cls = .severe then 1 else 0) ∧ wordAt pay 4 = 0) ∧
  (∀ (n : Nat) (seq : Byte) (x : FrameContent), 1 ≤ n → n ≤ 8 →
    parseFrame (frameBytes n seq x) = some ⟨x.kind, n, seq, x.payload⟩ ∧
    (frameBytes n seq x).length = 7 + x.kind.payloadLength) ∧
  ∀ p : ReportPayload, p.bytes.length = 20 ∧ ReportPayload.ofBytes p.bytes = p

/-- The items that are stored, returned and sent stand at their offsets: the incident header, the snapshot, the event with its four
field bytes, the roster entry, the directory entry and the request message, each of its length, and every coded item has its code.
Model's choices: log entries 30 (unassigned bits and one-byte flags) and 8 (a value above its 2 bytes, under a corrupted record,
stands modulo 2^16). -/
def Obligations.ItemsStandAtTheirOffsets : Prop :=
  (∀ (h : Header) (bs : List Byte), bs = h.bytes → bs.length = 23 ∧ wordAt bs 0 = BitVec.ofNat 16 h.number ∧
    natAt bs 2 = h.cause.codeNat ∧ byteAt bs 3 = (if h.cls = .severe then 1 else 0) ∧
    wordAt bs 4 ++ wordAt bs 6 = h.triggerTime ∧ wordAt bs 8 ++ wordAt bs 10 = h.openingTime ∧
    byteAt bs 12 = BitVec.ofNat 8 h.station ∧ wordAt bs 13 = h.configCheck ∧
    (h.originator = none → byteAt bs 15 = 0 ∧ wordAt bs 16 = 0) ∧
    (∀ o, h.originator = some o → byteAt bs 15 = BitVec.ofNat 8 o.station ∧ wordAt bs 16 = BitVec.ofNat 16 o.number) ∧
    byteAt bs 18 = BitVec.ofNat 8 h.secondary ∧ (byteAt bs 19).getLsbD 0 = h.flags.truncated ∧
    (byteAt bs 19).getLsbD 1 = h.flags.eventsTruncated ∧ (byteAt bs 19).getLsbD 2 = h.flags.noticeNotSent ∧
    (byteAt bs 19).getLsbD 3 = h.flags.power ∧ (byteAt bs 19).getLsbD 4 = h.flags.lockRefused ∧
    (byteAt bs 19).getLsbD 5 = h.flags.storeError ∧ (byteAt bs 19).toNat < 64 ∧
    byteAt bs 20 = BitVec.ofNat 8 h.preCount ∧ byteAt bs 21 = BitVec.ofNat 8 h.postCount ∧
    byteAt bs 22 = BitVec.ofNat 8 h.eventCount) ∧
  (∀ (x : Snapshot) (bs : List Byte), bs = x.bytes → bs.length = 34 ∧ wordAt bs 0 ++ wordAt bs 2 = x.time ∧
    byteAt bs 4 = x.mode.code ∧ wordAt bs 5 = BitVec.ofNat 16 x.dEff ∧ byteAt bs 7 = x.demandState.code ∧
    byteAt bs 8 = x.emergency.code ∧ wordAt bs 9 = BitVec.ofNat 16 x.target ∧ wordAt bs 11 = BitVec.ofNat 16 x.dTarget ∧
    wordAt bs 13 = BitVec.ofNat 16 x.air ∧ byteAt bs 15 = x.blendMode.code ∧ wordAt bs 16 = BitVec.ofNat 16 x.dReq ∧
    wordAt bs 18 = BitVec.ofNat 16 x.pReq ∧ wordAt bs 20 = BitVec.ofNat 16 x.eOwn ∧
    wordAt bs 22 = BitVec.ofNat 16 x.vRef ∧ wordAt bs 24 = BitVec.ofNat 16 x.pMeas1 ∧
    wordAt bs 26 = BitVec.ofNat 16 x.pMeas2 ∧ byteAt bs 28 = x.slide1.code ∧ byteAt bs 29 = BitVec.ofNat 8 x.factor1 ∧
    byteAt bs 30 = x.slide2.code ∧ byteAt bs 31 = BitVec.ofNat 8 x.factor2 ∧ byteAt bs 32 = x.presentMask ∧
    byteAt bs 33 = x.staleMask) ∧
  (∀ (e : Event) (bs : List Byte), bs = e.bytes → bs.length = 9 ∧ wordAt bs 0 ++ wordAt bs 2 = e.time ∧
    match e.kind with
    | .peerState n old new => bs.drop 4 = [1, BitVec.ofNat 8 n, old.code, new.code, 0]
    | .demand d flag n => natAt bs 4 = 2 ∧ wordAt bs 5 = BitVec.ofNat 16 d ∧ byteAt bs 7 = (if flag then 1 else 0) ∧
      byteAt bs 8 = BitVec.ofNat 8 n
    | .emergencyEnter => bs.drop 4 = [3, 0, 0, 0, 0]
    | .emergencyExit => bs.drop 4 = [4, 0, 0, 0, 0]
    | .slide n new => bs.drop 4 = [5, BitVec.ofNat 8 n, new.code, 0, 0]
    | .secondaryTrigger c g => bs.drop 4 = [6, BitVec.ofNat 8 c.codeNat, if g = .severe then 1 else 0, 0, 0]
    | .noticeHeard n k => natAt bs 4 = 7 ∧ byteAt bs 5 = BitVec.ofNat 8 n ∧ wordAt bs 6 = BitVec.ofNat 16 k ∧ byteAt bs 8 = 0
    | .lineDiscard k => bs.drop 4 = [8, k.code, 0, 0, 0]
    | .mode old new => bs.drop 4 = [9, old.code, new.code, 0, 0]) ∧
  (∀ (n : Nat) (e : Entry) (bs : List Byte), bs = rosterEntryBytes n e → bs.length = 38 ∧ byteAt bs 0 = BitVec.ofNat 8 n ∧
    byteAt bs 1 = e.state.code ∧ (byteAt bs 2).getLsbD 0 = e.lastSeq.isSome ∧ (byteAt bs 2).getLsbD 1 = e.held.isSome ∧
    (byteAt bs 2).getLsbD 2 = e.latestDemand.isSome ∧ (byteAt bs 2).getLsbD 3 = e.lastNotice.isSome ∧
    (byteAt bs 2).toNat < 16 ∧ byteAt bs 3 = e.lastSeq.getD 0 ∧ wordAt bs 4 ++ wordAt bs 6 = e.lastHeard.getD 0 ∧
    byteAt bs 8 = BitVec.ofNat 8 e.joinCount ∧ (e.held = none → (bs.drop 9).take 20 = List.replicate 20 0) ∧
    (∀ p, e.held = some p → ReportPayload.ofBytes ((bs.drop 9).take 20) = p) ∧
    (e.latestDemand = none → (bs.drop 29).take 7 = List.replicate 7 0) ∧
    (∀ x, e.latestDemand = some x → wordAt bs 29 = x.d ∧ byteAt bs 31 = (if x.emergency then 1 else 0) ∧
      wordAt bs 32 ++ wordAt bs 34 = x.arrival) ∧ wordAt bs 36 = e.lastNotice.getD 0) ∧
  (∀ (n : Nat) (x : Slot) (bs : List Byte), bs = directoryEntryBytes n x → bs.length = 16 ∧
    byteAt bs 0 = BitVec.ofNat 8 n ∧ byteAt bs 1 = x.state.code ∧
    (x.state = .writing → byteAt bs 2 = 1 ∧ wordAt bs 3 = BitVec.ofNat 16 x.writing ∧ bs.drop 5 = List.replicate 11 0) ∧
    (x.state = .free ∨ x.state = .damaged ∨ x.state = .erasing → bs.drop 2 = List.replicate 14 0) ∧
    ∀ h, x.header = some h → x.state = .stored ∨ x.state = .locked → byteAt bs 2 = 3 ∧
      wordAt bs 3 = BitVec.ofNat 16 h.number ∧ natAt bs 5 = h.cause.codeNat ∧
      byteAt bs 6 = (if h.cls = .severe then 1 else 0) ∧ wordAt bs 7 ++ wordAt bs 9 = h.triggerTime ∧
      byteAt bs 11 = byteAt h.bytes 19 ∧ byteAt bs 12 = BitVec.ofNat 8 h.preCount ∧
      byteAt bs 13 = BitVec.ofNat 8 h.postCount ∧ byteAt bs 14 = BitVec.ofNat 8 h.eventCount ∧
      byteAt bs 15 = BitVec.ofNat 8 h.secondary) ∧
  (∀ (m : RequestMessage) (bs : List Byte), bs = m.bytes → bs.length = 6 ∧ byteAt bs 0 = 0x5A ∧
    wordAt bs 1 = BitVec.ofNat 16 m.effort ∧ byteAt bs 3 = (if m.valid then 1 else 0) ∧
    wordAt bs 4 = checkValue ((bs.drop 1).take 3)) ∧
  [Mode.init, .config, .run, .safe].map Mode.code = [0, 1, 2, 3] ∧
  [DemandState.none, .fresh, .held].map DemandState.code = [0, 1, 2] ∧
  [EmergencyState.clear, .emergency].map EmergencyState.code = [0, 1] ∧
  [BlendMode.localBlend, .sharedBlend].map BlendMode.code = [0, 1] ∧
  [EntryState.absent, .joining, .present, .stale, .lost, .self].map EntryState.code = [0, 1, 2, 3, 4, 5] ∧
  [CaptureState.idle, .filling, .committing].map CaptureState.code = [0, 1, 2] ∧
  [SlotState.free, .writing, .stored, .locked, .damaged, .erasing].map SlotState.code = [0, 1, 2, 3, 4, 5] ∧
  (∀ n l r, [Operation.none, .scan, .write n l r, .erase n, .lock n, .unlock n].map Operation.code = [0, 1, 2, 3, 4, 5]) ∧
  [OpKind.write, .erase, .lock, .unlock].map OpKind.code = [2, 3, 4, 5] ∧
  [SlideState.normal, .watch, .relieve, .hold, .reapply, .lockout].map SlideState.code = [0, 1, 2, 3, 4, 5] ∧
  [Source.emergency, .slideLockout, .peerLost, .demandLost, .demandConflict, .shortfall, .airMismatch, .duplicateStation,
    .peerNotice, .unheard, .manual, .power].map Source.codeNat = [1, 2, 3, 4, 5, 6, 7, 8, 9, 10, 11, 12] ∧
  [FrameKind.report, .demand, .notice].map FrameKind.code = [1, 2, 3] ∧
  [Participation.blend, .air, .out].map Participation.code = [1, 2, 3]

/-- The configuration record: every parameter stands at its offset in the 110 bytes; a record is within its ranges exactly when each
range and condition holds, on the curve points up to the point count, the wheels of the served axles, and every trigger entry;
and the axle constant is the exact quotient rounded half up. -/
def Obligations.RecordIsReadAndTestedByItsTable : Prop :=
  (∀ (bs : List Byte) (p : Params), p = Params.ofBytes bs →
    p.rOwn = natAt2 bs 0 ∧ p.rAir = natAt2 bs 2 ∧ p.pointCount = natAt bs 4 ∧ p.points.length = 8 ∧
    (∀ i, i < 8 → p.points[i]? = some (natAt2 bs (5 + 4 * i), natAt2 bs (7 + 4 * i))) ∧
    p.j = natAt bs 37 ∧ p.pTake = natAt2 bs 38 ∧ p.pMax = natAt2 bs 40 ∧ p.pEmer = natAt2 bs 42 ∧ p.wheels.length = 6 ∧
    (∀ i, i < 6 → p.wheels[i]? = some (natAt2 bs (44 + 2 * i))) ∧ p.teeth = natAt bs 56 ∧ p.vRise = natAt bs 57 ∧
    p.vFall = natAt bs 58 ∧ p.sWatch = natAt2 bs 59 ∧ p.sRelieve = natAt2 bs 61 ∧ p.decelWatch = natAt bs 63 ∧
    p.tLockout = natAt2 bs 64 ∧ p.tHold = 65536 * natAt2 bs 66 + natAt2 bs 68 ∧ p.triggers.length = 10 ∧
    ∀ i, i < 10 → p.triggers[i]? =
      some ⟨natAt bs (70 + 4 * i), natAt bs (71 + 4 * i), natAt bs (72 + 4 * i), natAt bs (73 + 4 * i)⟩) ∧
  (∀ (axles : Nat) (p : Params), p.valid axles = true ↔
    1 ≤ p.rOwn ∧ p.rOwn ≤ 800 ∧ 50 ≤ p.rAir ∧ p.rAir ≤ 600 ∧ 2 ≤ p.pointCount ∧ p.pointCount ≤ 8 ∧
    (∀ i q, i < p.pointCount → p.points[i]? = some q → q.1 ≤ 16000 ∧ q.2 ≤ 800) ∧
    (∀ i q r, i + 1 < p.pointCount → p.points[i]? = some q → p.points[i + 1]? = some r → q.1 < r.1) ∧
    1 ≤ p.j ∧ p.j ≤ 50 ∧ 20 ≤ p.pTake ∧ p.pTake ≤ 150 ∧ 200 ≤ p.pMax ∧ p.pMax ≤ 500 ∧
    200 ≤ p.pEmer ∧ p.pEmer ≤ 600 ∧ p.pMax ≤ p.pEmer ∧
    (∀ i d, i < axles → p.wheels[i]? = some d → 800 ≤ d ∧ d ≤ 1300) ∧ 40 ≤ p.teeth ∧ p.teeth ≤ 200 ∧
    1 ≤ p.vRise ∧ p.vRise ≤ 10 ∧ 1 ≤ p.vFall ∧ p.vFall ≤ 20 ∧ 10 ≤ p.sWatch ∧ p.sWatch ≤ 200 ∧
    20 ≤ p.sRelieve ∧ p.sRelieve ≤ 400 ∧ p.sWatch + 10 ≤ p.sRelieve ∧ 2 ≤ p.decelWatch ∧ p.decelWatch ≤ 30 ∧
    1000 ≤ p.tLockout ∧ p.tLockout ≤ 10000 ∧ p.tLockout % 10 = 0 ∧
    10000 ≤ p.tHold ∧ p.tHold ≤ 120000 ∧ p.tHold % 1000 = 0 ∧
    ∀ i x, p.triggers[i]? = some x → x.enabled ≤ 1 ∧ x.cls ≤ 1 ∧ x.qualifier ≤ 12 ∧ x.qualifier ≠ i + 1 ∧
      (x.qualifier = 0 → x.window = 0) ∧ (x.qualifier ≠ 0 → 1 ≤ x.window ∧ x.window ≤ 30)) ∧
  ∀ (axles : Nat) (p : Params), (∀ d, 0 < p.teeth →
      axleConstant d p.teeth = (2 * (355 * d * 1000) + 113 * p.teeth) / (2 * (113 * p.teeth))) ∧
    (∀ i d, i < axles → p.wheels[i]? = some d → (p.constants axles)[i]? = some (axleConstant d p.teeth)) ∧
    ∀ d, p.valid axles = true → 800 ≤ d → d ≤ 1300 → 12566 ≤ axleConstant d p.teeth ∧ axleConstant d p.teeth ≤ 102102

/-! ### Resets and modes -/

/-- The assertion of a reset input cuts off the operation in flight, releases the line with every frame lost and nothing returned,
discards a service transaction, and changes nothing else but the record of the two inputs. While either input is asserted, every
command but the three of the reset inputs lets its passage take place and does nothing else. Model's choices: log entry 5. -/
def Obligations.ResetAssertionCutsOffAndHolds : Prop :=
  (∀ (dt : Passage) (input : ResetInput) (s : State), ∃ t, exec (.resetAsserted dt input) s = .next t ∧
    t.store = { s.store with op := .none } ∧
    t.line = { (s.advance dt).line with
      queue := ⟨[], none, false⟩, onAir := none, attempts := 0, framer := .ignoring, buffer := [], echo := false } ∧
    t.port = ⟨.idle, [], 0, 0, none, true⟩ ∧ t.heldInReset = true ∧
    t.pins = (match input with
      | .powerOn => { s.pins with powerOnReset := true }
      | .hard => { s.pins with hardReset := true }) ∧
    t.control = { s.control with powerOnDue := s.control.powerOnDue || input == .powerOn } ∧
    t.recorder = s.recorder ∧ t.demand = s.demand ∧ t.blend = s.blend ∧ t.speed = s.speed ∧ t.slide = s.slide ∧
    t.output = s.output ∧ t.roster = s.roster ∧ t.clock = (s.advance dt).clock) ∧
  ∀ (c : Instr) (s : State), s.heldInReset = true →
    (∀ dt levels, c ≠ .powerOnResetRelease dt levels) → (∀ dt levels, c ≠ .hardResetRelease dt levels) →
    (∀ dt input, c ≠ .resetAsserted dt input) →
    exec c s = .next (s.advance c.dt)

/-- A reset ends at the release that leaves neither input asserted. A power-on reset among the overlapping assertions samples the
straps and keeps nothing but the store's slots; a hard reset keeps station, axle count, active record, capture state and image.
Both give every block the values of its reset table. A release that leaves the other input asserted ends nothing. Model's choices:
log entries 4 and 5. -/
def Obligations.ReleaseEndsTheReset : Prop :=
  ∀ (dt : Passage) (levels : ReleaseLevels) (s : State),
    (∀ c : Instr, (c = .powerOnResetRelease dt levels ∧ s.pins.hardReset = false) ∨
        (c = .hardResetRelease dt levels ∧ s.pins.powerOnReset = false ∧ s.control.powerOnDue = true) →
      ∃ t, exec c s = .next t ∧ t.heldInReset = false ∧ ReleasedTo levels s t ∧
        t.control.station = levels.station.toNat + 1 ∧ t.control.axleCount = (if levels.sixAxles then 6 else 4) ∧
        t.control.active = none ∧ t.recorder.capture = .idle ∧ t.recorder.image = none) ∧
    (s.pins.powerOnReset = false → s.control.powerOnDue = false →
      ∃ t, exec (.hardResetRelease dt levels) s = .next t ∧ t.heldInReset = false ∧ ReleasedTo levels s t ∧
        t.control.station = s.control.station ∧ t.control.axleCount = s.control.axleCount ∧
        t.control.active = s.control.active ∧ t.recorder.capture = s.recorder.capture ∧
        t.recorder.image = s.recorder.image.map fun img => { img with kept := true }) ∧
    (s.pins.hardReset = true → exec (.powerOnResetRelease dt levels) s =
      .next ((s.advance dt).setPins { s.pins with powerOnReset := false })) ∧
    (s.pins.powerOnReset = true → exec (.hardResetRelease dt levels) s =
      .next ((s.advance dt).setPins { s.pins with hardReset := false }))

/-- The end of the scan classifies every slot by R165's table, whatever the slot's state was, and keeps its content; the operation
ends, there is no last result, and the next incident number is recovered from the classified slots. Without a valid kept record
and without a kept image the device then enters CONFIG with the MODE event (INIT, CONFIG), and nothing else changes. Model's
choices: log entries 13, 14 and 15. -/
def Obligations.ScanClassifiesEverySlot : Prop :=
  ∀ (dt : Passage) (cut : MarkReading) (s : State), Accepts s → s.control.mode = .init → s.store.op = .scan →
    s.recorder.capture = .idle → (∀ r, s.control.active = some r → r.valid s.control.axleCount = false) →
    ∃ t, exec (.scanEnd dt cut) s = .next t ∧
      t.store.op = .none ∧ t.store.lastResult = none ∧ t.store.nextNumber = t.store.recoveredNext ∧
      t.store.slots.length = s.store.slots.length ∧
      (∀ n x, s.store.slot? n = some x → ∃ y, t.store.slot? n = some y ∧
        y.header = x.header ∧ y.snapshots = x.snapshots ∧ y.events = x.events ∧ y.tag = x.tag ∧ y.clear = x.clear ∧
        y.state = if x.tag then .damaged
          else if x.header.isSome then (if x.mark.getD cut = .unlocked then .stored else .locked)
          else if x.clear then .free else .damaged) ∧
      t = ((((s.advance dt).setStore t.store).setControl { s.control with mode := .config, active := none }).setRecorder
        { s.recorder with events := pushRing 32 ⟨t.now, .mode .init .config⟩ s.recorder.events })

/-- The next incident number recovered by a scan: 1 without any stored number; one past the found number that no other is ahead
of; and where there is none such, one past the largest of those that the fewest others are ahead of. 65535 is followed by 1.
Model's choices: log entry 15. -/
def Obligations.RecoveryTakesTheHighestNumber : Prop :=
  ∀ st : Store, (∀ a ∈ st.numbersFound, 1 ≤ a ∧ a ≤ 65535) →
    (∀ n, n ∈ st.numbersFound ↔
      ∃ x ∈ st.slots, (x.state = .stored ∨ x.state = .locked) ∧ x.header.map Header.number = some n) ∧
    (st.numbersFound = [] → st.recoveredNext = 1) ∧
    (∀ a ∈ st.numbersFound, (∀ b ∈ st.numbersFound, ¬ (1 ≤ (b + 65535 - a) % 65535 ∧ (b + 65535 - a) % 65535 ≤ 32767)) →
      st.recoveredNext = if a = 65535 then 1 else a + 1) ∧
    (st.numbersFound ≠ [] → ∃ a ∈ st.numbersFound, st.recoveredNext = (if a = 65535 then 1 else a + 1) ∧
      ∀ b ∈ st.numbersFound, aheadCount st.numbersFound a < aheadCount st.numbersFound b ∨
        (aheadCount st.numbersFound a = aheadCount st.numbersFound b ∧ b ≤ a))

/-- INIT with a valid kept record ends in RUN: the scan is over, the axle constants are computed from the record, and the entry to
RUN starts all work and logs the MODE event (INIT, RUN). With the power-fail warning standing the device goes at once to SAFE, with
the second MODE event, and POWER is raised, whose incident is opened straight into COMMITTING. -/
def Obligations.InitWithARecordEndsInRun : Prop :=
  ∀ (dt : Passage) (cut : MarkReading) (s : State) (r : ConfigRecord), Accepts s → s.roster.entries.length = 8 →
    1 ≤ s.control.station → s.control.station ≤ 8 → s.control.mode = .init → s.store.op = .scan →
    s.recorder.capture = .idle → s.control.active = some r → r.valid s.control.axleCount = true →
    ∃ t, exec (.scanEnd dt cut) s = .next t ∧ t.port = (s.advance dt).port ∧
      t.speed.constants = some (r.params.constants s.control.axleCount) ∧
      (s.control.warning = false → EnteredRun (((s.advance dt).setStore (s.store.scanDone cut)).setSpeed
        { s.speed with constants := some (r.params.constants s.control.axleCount) }) t) ∧
      (s.control.warning = true → s.recorder.lastOccurrence.length = 12 →
        t.control.mode = .safe ∧ t.control.active = some r ∧ t.control.recheckTimer = some t.now ∧
        t.control.releaseTimer = none ∧ t.output.valid = false ∧ t.output.dReq = 0 ∧ t.output.pReq = 0 ∧
        t.blend.timer = none ∧ t.demand.sampleTimer = some t.now ∧ t.recorder.snapshotTimer = some t.now ∧
        t.recorder.events =
          pushRing 32 ⟨t.now, .mode .run .safe⟩ (pushRing 32 ⟨t.now, .mode .init .run⟩ s.recorder.events) ∧
        t.recorder.lastOccurrenceOf 12 = some t.now ∧ t.recorder.capture = .committing ∧
        ∃ img, t.recorder.image = some img ∧ img.cause = .power ∧ img.cls = .severe ∧ img.flags.power = true ∧
          img.number = (s.store.scanDone cut).recoveredNext)

/-- An image kept through a hard reset is written again at the end of the scan, under its own number, into the slot that R159
chooses after the scan; one that was still FILLING is marked truncated. Whatever mode INIT ends in, the WRITE is in flight. -/
def Obligations.KeptImageIsWrittenAgain : Prop :=
  ∀ (dt : Passage) (cut : MarkReading) (s : State) (img : Image), Safe s → s.heldInReset = false →
    s.control.mode = .init → s.recorder.image = some img →
    ∃ t n, exec (.scanEnd dt cut) s = .next t ∧ (s.store.scanDone cut).chooseSlot = some n ∧
      t.recorder.capture = .committing ∧
      (∃ img', t.recorder.image = some img' ∧ img'.number = img.number ∧ img'.post = img.post ∧
        img'.flags.truncated = (img.flags.truncated || s.recorder.capture == .filling)) ∧
      (∃ l r, t.store.op = .write n l r) ∧
      (∃ x, t.store.slot? n = some x ∧ x.state = .writing ∧ x.writing = img.number) ∧
      t.store.nextNumber = (if img.number = 65535 then 1 else img.number + 1)

/-- LOAD_CONFIG of the right length: STATE outside CONFIG, else CHECK when the check value carried is not the record's, else RANGE
when a parameter breaks R189, else OK with the check value; then the record is the loaded record with its axle constants, and is
not active. A refusal changes nothing but the port. Model's choices: log entry 6. -/
def Obligations.LoadConfigTestsInOrder : Prop :=
  ∀ (dt : Passage) (params : List Byte) (s : State), Accepts s → s.hears dt 0x03 params → params.length = 112 →
    ∀ r : ConfigRecord, r = ⟨params.take 110, wordAt params 110⟩ →
    exec (.loadConfig dt params) s = .next
      (if s.control.mode ≠ .config then s.answered dt 0x03 params [5]
      else if checkValue r.bytes ≠ r.check then s.answered dt 0x03 params [9]
      else if r.params.valid s.control.axleCount = false then s.answered dt 0x03 params [4]
      else (s.answered dt 0x03 params (0 :: wordBytes r.check)).setControl
        { s.control with loaded := some ⟨r, r.params.constants s.control.axleCount⟩ })

/-- START in CONFIG with a record loaded is answered OK with mode RUN; the loaded record becomes the active record with its axle
constants in use, and the device enters RUN. With the power-fail warning standing it goes at once to SAFE, raising POWER. In every
other case START is answered STATE and changes nothing but the port. Model's choices: log entry 6. -/
def Obligations.StartEntersRun : Prop :=
  ∀ (dt : Passage) (s : State), Accepts s → s.hears dt 0x04 [] →
    ((s.control.mode ≠ .config ∨ s.control.loaded = none) →
      exec (.start dt []) s = .next (s.answered dt 0x04 [] [5])) ∧
    (∀ l, s.control.mode = .config → s.control.loaded = some l → s.roster.entries.length = 8 →
      1 ≤ s.control.station → s.control.station ≤ 8 → s.recorder.lastOccurrence.length = 12 →
      ∃ t, exec (.start dt []) s = .next t ∧
        t.port = (s.answered dt 0x04 [] [0, 2]).port ∧ t.control.active = some l.record ∧
        t.control.loaded = none ∧ t.speed.constants = some l.constants ∧
        (s.control.warning = false → EnteredRun
          (((s.advance dt).setControl { s.control with active := some l.record, loaded := none }).setSpeed
            { s.speed with constants := some l.constants }) t) ∧
        (s.control.warning = true → t.control.mode = .safe ∧ t.output.valid = false ∧ t.blend.timer = none ∧
          t.control.recheckTimer = some t.now ∧ t.recorder.lastOccurrenceOf 12 = some t.now))

/-- An assertion of the power-fail warning in RUN enters SAFE at that moment: every block takes its SAFE state, DEMAND and NOTICE
frames are removed or abandoned, a NOTICE among them is returned to the image that holds its number as not sent, the MODE event
(RUN, SAFE) is logged, and the POWER firing ends the FILLING window, opens a POWER incident straight into COMMITTING, or becomes or
merges into the pending trigger. Model's choices: log entry 27. -/
def Obligations.PowerFailInRunEntersSafe : Prop :=
  ∀ (dt : Passage) (s : State), Safe s → s.heldInReset = false → s.control.mode = .run →
    ∃ t, exec (.powerFailWarningAsserted dt) s = .next t ∧
      t.control = { s.control with mode := .safe, warning := true, releaseTimer := none } ∧
      t.demand = { s.demand with controlling := false, lastEnqueued := none, frameTimer := none } ∧
      t.blend = ⟨none, s.blend.mode, 0, 0, 0, 0, 0, 0, none, false⟩ ∧
      t.slide = ⟨⟨.normal, 50, .apply, 0, none⟩, ⟨.normal, 50, .apply, 0, none⟩, s.slide.lockoutSeen⟩ ∧
      t.output = { s.output with
        valid := false, dReq := 0, pReq := 0
        truck1 := { s.output.truck1 with drive := .apply, mismatchSince := none, mismatchOpen := false }
        truck2 := { s.output.truck2 with drive := .apply, mismatchSince := none, mismatchOpen := false } } ∧
      t.line = { (s.advance dt).line with
        queue := ⟨[], none, s.line.queue.report⟩, onAir := s.line.onAir.filter (fun f => f.content.kind == .report)
        attempts := if s.line.onAir.all (fun f => f.content.kind == .report) then s.line.attempts else 0 } ∧
      t.roster.unheardSince = none ∧ t.roster.unheard = s.roster.unheard ∧ t.roster.duplicate = s.roster.duplicate ∧
      t.roster.duplicateExpiry = s.roster.duplicateExpiry ∧
      (∀ n, n ≠ s.control.station → t.roster.entry? n = s.roster.entry? n) ∧
      (∀ e p, s.roster.entry? s.control.station = some e → e.held = some p →
        t.roster.entry? s.control.station = some { e with held := some { p with participation := 3, a := 0 } }) ∧
      ⟨t.now, .mode .run .safe⟩ ∈ t.recorder.events ∧ t.recorder.lastOccurrenceOf 12 = some t.now ∧
      t.recorder.capture = .committing ∧
      (s.recorder.capture ≠ .committing →
        ∃ img, t.recorder.image = some img ∧ img.cls = .severe ∧ img.flags.power = true) ∧
      (s.recorder.capture = .committing →
        ∃ p, t.recorder.pendingTrigger = some p ∧ p.cls = .severe ∧ p.power = true) ∧
      (∀ img, s.recorder.image = some img → ∀ returned refused : Prop,
        (returned ↔ (∃ c ∈ s.line.queue.notices, c.number = img.number) ∨
          ∃ c seq phase, s.line.onAir = some ⟨.notice c, seq, phase⟩ ∧ c.number = img.number) →
        (refused ↔ s.recorder.capture = .filling ∧ img.cause ≠ .peerNotice ∧ img.noticeEnqueued = false) →
        ∃ img', t.recorder.image = some img' ∧ img'.number = img.number ∧ img'.cause = img.cause ∧ img'.pre = img.pre ∧
          img'.post = img.post ∧
          (img'.flags.noticeNotSent = true ↔ img.flags.noticeNotSent = true ∨ returned ∨ refused)) ∧
      t.recorder.history = s.recorder.history ∧ t.speed = s.speed ∧ t.port = (s.advance dt).port ∧ t.pins = s.pins ∧
      t.clock = (s.advance dt).clock

/-- Outside RUN an assertion of the warning changes the recorded level and stops the release timer, and nothing else; a deassertion
changes the recorded level, and in SAFE starts the release timer. 500 ms later in SAFE it expires and stops. With recheck failed set
nothing else happens; with a record that fails its check, recheck failed becomes set; otherwise the device returns to RUN: blend
timer and outputs start anew, the MODE event (SAFE, RUN) is logged, and the other timers run on. Before that, nothing happens.
Model's choices: log entry 9. -/
def Obligations.WarningAndReleaseTimerGovernSafe : Prop :=
  ∀ (dt : Passage) (s : State), Accepts s →
    (s.control.mode ≠ .run → exec (.powerFailWarningAsserted dt) s =
      .next ((s.advance dt).setControl { s.control with warning := true, releaseTimer := none })) ∧
    (s.control.mode = .safe → exec (.powerFailWarningDeasserted dt) s =
      .next ((s.advance dt).setControl { s.control with warning := false, releaseTimer := some (s.advance dt).now })) ∧
    (s.control.mode ≠ .safe → exec (.powerFailWarningDeasserted dt) s =
      .next ((s.advance dt).setControl { s.control with warning := false })) ∧
    (s.control.mode ≠ .safe ∨ timerDue s.control.releaseTimer 500 (s.advance dt).now = false →
      exec (.releaseTimerExpiry dt) s = .next (s.advance dt)) ∧
    (s.control.mode = .safe → timerDue s.control.releaseTimer 500 (s.advance dt).now = true →
      ∀ r, s.control.active = some r →
      (s.control.recheckFailed = true → exec (.releaseTimerExpiry dt) s =
        .next ((s.advance dt).setControl { s.control with releaseTimer := none })) ∧
      (s.control.recheckFailed = false → checkValue r.bytes ≠ r.check → exec (.releaseTimerExpiry dt) s =
        .next ((s.advance dt).setControl { s.control with releaseTimer := none, recheckFailed := true })) ∧
      (s.control.recheckFailed = false → checkValue r.bytes = r.check → s.control.warning = false →
        ∃ t, exec (.releaseTimerExpiry dt) s = .next t ∧
          t.control = { s.control with mode := .run, releaseTimer := none } ∧
          t.blend = { s.blend with timer := some t.now } ∧
          t.output = { s.output with
            valid := true, dReq := 0, pReq := 0
            truck1 := { s.output.truck1 with drive := s.slide.truck1.valve }
            truck2 := { s.output.truck2 with drive := s.slide.truck2.valve } } ∧
          t.recorder = s.recorder.log ⟨t.now, .mode .safe .run⟩ ∧
          t.roster = { s.roster with
            unheardSince := if t.unheardCondition then some (s.roster.unheardSince.getD t.now) else none } ∧
          t.demand = s.demand ∧ t.speed = s.speed ∧ t.slide = s.slide ∧ t.line = (s.advance dt).line ∧
          t.store = s.store ∧ t.port = (s.advance dt).port ∧ t.pins = s.pins ∧ t.clock = (s.advance dt).clock))

/-- Every 1000 ms in RUN and SAFE the record is checked. A match changes nothing but the timer's next expiry. A mismatch sets
recheck failed and leaves or makes the mode SAFE, with every block effect of R186 (the own roster entry, the trucks' mismatch
episodes and the returned NOTICEs among them) but without raising any source. Model's choices: log entries 9, 16 and 27. -/
def Obligations.RecheckGuardsTheRecord : Prop :=
  ∀ (dt : Passage) (s : State) (r : ConfigRecord), Accepts s → s.control.active = some r →
    timerDue s.control.recheckTimer 1000 (s.advance dt).now = true →
    ∀ next, next = timerNext s.control.recheckTimer 1000 →
    (checkValue r.bytes = r.check → exec (.configurationRecheck dt) s =
      .next ((s.advance dt).setControl { s.control with recheckTimer := next })) ∧
    (checkValue r.bytes ≠ r.check → s.control.mode ≠ .run → exec (.configurationRecheck dt) s =
      .next ((s.advance dt).setControl { s.control with recheckTimer := next, recheckFailed := true })) ∧
    (checkValue r.bytes ≠ r.check → s.control.mode = .run → s.roster.entries.length = 8 →
      1 ≤ s.control.station → s.control.station ≤ 8 →
      ∃ t, exec (.configurationRecheck dt) s = .next t ∧
        t.control = { s.control with mode := .safe, recheckTimer := next, recheckFailed := true } ∧
        t.demand = { s.demand with controlling := false, lastEnqueued := none, frameTimer := none } ∧
        t.blend = ⟨none, s.blend.mode, 0, 0, 0, 0, 0, 0, none, false⟩ ∧
        t.slide = ⟨⟨.normal, 50, .apply, 0, none⟩, ⟨.normal, 50, .apply, 0, none⟩, s.slide.lockoutSeen⟩ ∧
        t.output = { s.output with
          valid := false, dReq := 0, pReq := 0
          truck1 := { s.output.truck1 with drive := .apply, mismatchSince := none, mismatchOpen := false }
          truck2 := { s.output.truck2 with drive := .apply, mismatchSince := none, mismatchOpen := false } } ∧
        t.line = { (s.advance dt).line with
          queue := ⟨[], none, s.line.queue.report⟩, onAir := s.line.onAir.filter (fun f => f.content.kind == .report)
          attempts := if s.line.onAir.all (fun f => f.content.kind == .report) then s.line.attempts else 0 } ∧
        t.roster = { s.roster with unheardSince := none, entries := t.roster.entries } ∧
        (∀ n, n ≠ s.control.station → t.roster.entry? n = s.roster.entry? n) ∧
        (∀ e, s.roster.entry? s.control.station = some e → t.roster.entry? s.control.station =
          some { e with held := e.held.map fun p => { p with participation := 3, a := 0 } }) ∧
        t.recorder = { s.recorder with
          events := pushRing 32 ⟨t.now, .mode .run .safe⟩ s.recorder.events, image := t.recorder.image } ∧
        (s.recorder.image = none → t.recorder.image = none) ∧
        (∀ img, s.recorder.image = some img → ∀ returned filling full : Bool,
          (returned = true ↔ (∃ c ∈ s.line.queue.notices, c.number = img.number) ∨
            ∃ c seq phase, s.line.onAir = some ⟨.notice c, seq, phase⟩ ∧ c.number = img.number) →
          filling = decide (s.recorder.capture = .filling) → full = decide (48 ≤ img.events.length) →
          t.recorder.image = some { img with
            events := if filling && !full then img.events ++ [⟨t.now, .mode .run .safe⟩] else img.events
            flags := { img.flags with
              noticeNotSent := img.flags.noticeNotSent || returned
              eventsTruncated := img.flags.eventsTruncated || (filling && full) } }) ∧
        t.store = s.store ∧ t.speed = s.speed ∧ t.port = (s.advance dt).port ∧ t.pins = s.pins ∧
        t.clock = (s.advance dt).clock)

/-! ### Demand Unit -/

/-- The fresh demand sources: the own handle while controlling, and each peer's latest demand that arrived no more than 300 ms ago,
its value taken as at most 1000, whatever the peer's state. They stand in rising station number. -/
def Obligations.FreshSourcesAreRecentDemands : Prop :=
  ∀ s : State, s.roster.entries.length = 8 → 1 ≤ s.control.station → s.control.station ≤ 8 →
    (∀ x : DemandSource, x ∈ s.freshSources ↔
      (s.demand.controlling = true ∧ x = ⟨s.control.station, s.demand.handle, s.demand.handleEmergency⟩) ∨
      (x.station ≠ s.control.station ∧ ∃ e l, s.roster.entry? x.station = some e ∧ e.latestDemand = some l ∧
        elapsed l.arrival s.now ≤ 300 ∧ x.value = min l.d.toNat 1000 ∧ x.emergency = l.emergency)) ∧
    s.freshSources.Pairwise fun x y => x.station < y.station

/-- A demand sample reads its four inputs, settles the controlling status, and enqueues a DEMAND frame at once exactly when R8
asks for one. Besides the Demand Unit, the pins, the queued DEMAND and what events and raisings change, nothing changes. The demand
frame timer's expiry, 50 ms after its start or last expiry, enqueues a DEMAND frame with the present samples, which replaces a queued
one and becomes the last enqueued demand; before that nothing happens. Model's choices: log entries 2 and 9. -/
def Obligations.DemandFramesAreOriginated : Prop :=
  (∀ (dt : Passage) (raw : BitVec 10) (cab he tl : Bool) (s : State), Accepts s → DemandSafe s →
      timerDue s.demand.sampleTimer 10 (s.advance dt).now = true →
      ∃ t, exec (.demandSample dt raw cab he tl) s = .next t ∧
        t.pins = { s.pins with handlePort := raw, cabActive := cab, handleEmergency := he, trainLine := tl } ∧
        t.demand.handle = (if raw.toNat ≤ 19 then 0 else if raw.toNat ≤ 1000 then raw.toNat else 1000) ∧
        t.demand.handleEmergency = he ∧ t.demand.lineEmergency = tl ∧
        t.demand.sampleTimer = timerNext s.demand.sampleTimer 10 ∧
        t.demand.controlling = (decide (s.control.mode = .run) && cab) ∧
        t.demand.frameTimer = (if t.demand.controlling then
          (if s.demand.controlling then s.demand.frameTimer else some t.now) else none) ∧
        (t.demand.controlling = true ∧ (∀ c, s.demand.lastEnqueued = some c →
            10 ≤ absDiff t.demand.handle c.d ∨ he ≠ c.emergency) →
          t.demand.lastEnqueued = some ⟨t.demand.handle, he⟩ ∧ t.line.queue.demand = some ⟨t.demand.handle, he⟩) ∧
        (¬ (t.demand.controlling = true ∧ ∀ c, s.demand.lastEnqueued = some c →
            10 ≤ absDiff t.demand.handle c.d ∨ he ≠ c.emergency) →
          t.demand.lastEnqueued = (if t.demand.controlling then s.demand.lastEnqueued else none) ∧
          t.line.queue.demand = s.line.queue.demand) ∧
        RaisedFrom ((((s.advance dt).setPins t.pins).setDemand t.demand).setLine
          ((s.advance dt).line.withQueue { s.line.queue with demand := t.line.queue.demand })) t) ∧
  ∀ (dt : Passage) (s : State), Accepts s →
    (timerDue s.demand.frameTimer 50 (s.advance dt).now = false →
      exec (.demandFrameTimerExpiry dt) s = .next (s.advance dt)) ∧
    (timerDue s.demand.frameTimer 50 (s.advance dt).now = true → s.control.mode = .run →
      exec (.demandFrameTimerExpiry dt) s = .next
        (((s.advance dt).setDemand { s.demand with
          frameTimer := timerNext s.demand.frameTimer 50
          lastEnqueued := some ⟨s.demand.handle, s.demand.handleEmergency⟩ }).setLine
        ((s.advance dt).line.withQueue
          { s.line.queue with demand := some ⟨s.demand.handle, s.demand.handleEmergency⟩ })))

/-- The demand state and D_eff after a sample, by R11's table over the fresh sources that the sample finds. -/
def Obligations.DemandFollowsTheFreshSources : Prop :=
  ∀ (dt : Passage) (raw : BitVec 10) (cab he tl : Bool) (s : State), Accepts s →
    timerDue s.demand.sampleTimer 10 (s.advance dt).now = true →
    ∃ t, exec (.demandSample dt raw cab he tl) s = .next t ∧
      (t.freshSources = [] →
        (s.demand.state = .none → t.demand.state = .none ∧ t.demand.dEff = 0) ∧
        (s.demand.state = .fresh →
          t.demand.state = .held ∧ t.demand.dEff = s.demand.dEff ∧ t.demand.heldSince = t.now) ∧
        (s.demand.state = .held →
          t.demand.state = .held ∧ t.demand.dEff = s.demand.dEff ∧ t.demand.heldSince = s.demand.heldSince)) ∧
      (t.freshSources ≠ [] → t.demand.state = .fresh ∧ (∃ x ∈ t.freshSources, x.value = t.demand.dEff) ∧
        ∀ x ∈ t.freshSources, x.value ≤ t.demand.dEff)

/-- The emergency latch and the emergency state after a sample: the latch by R17; in CLEAR, entry on any entry source with the entry
time, the event and the raising; in EMERGENCY, exit with its event when every condition of R18 holds, and otherwise no change. A
sample logs EMERGENCY_ENTER once at an entry and EMERGENCY_EXIT once at an exit, and neither otherwise; EMERGENCY is raised at an
entry alone. -/
def Obligations.EmergencyEntersHoldsAndEnds : Prop :=
  ∀ (dt : Passage) (raw : BitVec 10) (cab he tl : Bool) (s : State), Accepts s → s.recorder.lastOccurrence.length = 12 →
    timerDue s.demand.sampleTimer 10 (s.advance dt).now = true →
    ∃ (t : State) (es : List Event), exec (.demandSample dt raw cab he tl) s = .next t ∧
      t.recorder.events = es.foldl (fun ring e => pushRing 32 e ring) s.recorder.events ∧ (∀ e ∈ es, e.time = t.now) ∧
      ∀ expired peerFlag anyFlag : Prop, (expired ↔ s.params.tHold ≤ elapsed s.demand.entryTime t.now) →
        (peerFlag ↔ ∃ x ∈ t.freshSources, x.station ≠ s.control.station ∧ x.emergency = true) →
        (anyFlag ↔ ∃ x ∈ t.freshSources, x.emergency = true) →
        (peerFlag → t.demand.latch = true) ∧
        (¬ peerFlag → expired → t.freshSources ≠ [] → ¬ anyFlag → t.demand.latch = false) ∧
        (¬ peerFlag → (¬ expired ∨ t.freshSources = [] ∨ anyFlag) → t.demand.latch = s.demand.latch) ∧
        (s.demand.emergency = .clear → (tl = true ∨ (t.demand.controlling = true ∧ he = true) ∨ peerFlag) →
          t.demand.emergency = .emergency ∧ t.demand.entryTime = t.now ∧
          ⟨t.now, .emergencyEnter⟩ ∈ t.recorder.events ∧ t.recorder.lastOccurrenceOf 1 = some t.now) ∧
        (s.demand.emergency = .clear → ¬ (tl = true ∨ (t.demand.controlling = true ∧ he = true) ∨ peerFlag) →
          t.demand.emergency = .clear ∧ t.demand.entryTime = s.demand.entryTime) ∧
        (∀ entry : Prop, (entry ↔ s.demand.emergency = .clear ∧
            (tl = true ∨ (t.demand.controlling = true ∧ he = true) ∨ peerFlag)) →
          (entry → es.countP (fun e => e.kind == .emergencyEnter) = 1) ∧
          (¬ entry → es.countP (fun e => e.kind == .emergencyEnter) = 0 ∧
            t.recorder.lastOccurrenceOf 1 = s.recorder.lastOccurrenceOf 1)) ∧
        (∀ exit : Prop, (exit ↔ s.demand.emergency = .emergency ∧
            expired ∧ tl = false ∧ ¬ anyFlag ∧ t.demand.latch = false ∧ t.demand.dEff = 0) →
          (exit → es.countP (fun e => e.kind == .emergencyExit) = 1) ∧
          (¬ exit → es.countP (fun e => e.kind == .emergencyExit) = 0)) ∧
        (s.demand.emergency = .emergency →
          expired ∧ tl = false ∧ ¬ anyFlag ∧ t.demand.latch = false ∧ t.demand.dEff = 0 →
          t.demand.emergency = .clear ∧ ⟨t.now, .emergencyExit⟩ ∈ t.recorder.events) ∧
        (s.demand.emergency = .emergency →
          ¬ (expired ∧ tl = false ∧ ¬ anyFlag ∧ t.demand.latch = false ∧ t.demand.dEff = 0) →
          t.demand.emergency = .emergency ∧ t.demand.entryTime = s.demand.entryTime)

/-- A sample opens and closes the conflict and the loss episode, raises each source once per episode, and logs one DEMAND event, as
its last, when D_eff lies 50 or more from the last logged demand, and none otherwise. -/
def Obligations.DemandEpisodesAndEvent : Prop :=
  ∀ (dt : Passage) (raw : BitVec 10) (cab he tl : Bool) (s : State), Accepts s → s.recorder.lastOccurrence.length = 12 →
    timerDue s.demand.sampleTimer 10 (s.advance dt).now = true →
    ∃ t, exec (.demandSample dt raw cab he tl) s = .next t ∧
      t.demand.conflictOpen = decide (2 ≤ t.freshSources.length) ∧
      t.recorder.lastOccurrenceOf 5 = (if 2 ≤ t.freshSources.length ∧ s.demand.conflictOpen = false then some t.now
        else s.recorder.lastOccurrenceOf 5) ∧
      (∀ lost : Prop, (lost ↔ t.demand.state = .held ∧ 3000 ≤ elapsed t.demand.heldSince t.now ∧
          s.demand.lossOpen = false) →
        (t.demand.lossOpen = true ↔ lost ∨ (t.demand.state ≠ .fresh ∧ s.demand.lossOpen = true)) ∧
        (lost → t.recorder.lastOccurrenceOf 4 = some t.now) ∧
        (¬ lost → t.recorder.lastOccurrenceOf 4 = s.recorder.lastOccurrenceOf 4)) ∧
      ∃ es : List Event, (∀ e ∈ es, e.time = t.now ∧ ∀ v f n, e.kind ≠ .demand v f n) ∧
      (absDiff t.demand.dEff s.demand.lastLogged < 50 → t.demand.lastLogged = s.demand.lastLogged ∧
        t.recorder.events = es.foldl (fun ring e => pushRing 32 e ring) s.recorder.events) ∧
      (50 ≤ absDiff t.demand.dEff s.demand.lastLogged → t.demand.lastLogged = t.demand.dEff ∧
        ∃ n, t.recorder.events = pushRing 32
            ⟨t.now, .demand t.demand.dEff (decide (t.demand.emergency = .emergency)) n⟩
            (es.foldl (fun ring e => pushRing 32 e ring) s.recorder.events) ∧
          (t.demand.state = .held → n = 0) ∧
          (t.demand.state = .fresh → (∃ x ∈ t.freshSources, x.value = t.demand.dEff ∧ x.station = n) ∧
            ∀ x ∈ t.freshSources, x.value = t.demand.dEff → n ≤ x.station))

/-! ### Speed Unit and Slide Unit -/

/-- A rising edge on a served axle while the sweep timer runs: newest edge time, first new edge time and edge count. On an input
that is not served, and while the timer is stopped, an edge leaves no trace. Model's choices: log entry 18. -/
def Obligations.EdgesAreCapturedOnServedAxles : Prop :=
  ∀ (dt : Passage) (axle : Nat) (s : State), Accepts s →
    ((s.speed.sweepTimer = none ∨ axle = 0 ∨ s.control.axleCount < axle) →
      exec (.tachometerEdge dt axle) s = .next (s.advance dt)) ∧
    (∀ a, s.speed.sweepTimer ≠ none → 1 ≤ axle → axle ≤ s.control.axleCount → s.speed.axles[axle - 1]? = some a →
      a.edgeCount ≤ 100 →
      exec (.tachometerEdge dt axle) s = .next ((s.advance dt).setSpeed { s.speed with
        axles := s.speed.axles.set (axle - 1) { a with
          newestEdge := some (s.advance dt).micros
          firstNewEdge := if a.edgeCount = 0 then some (s.advance dt).micros else a.firstNewEdge
          edgeCount := min 100 (a.edgeCount + 1) } }))

/-- Step 1 of a sweep, on every served axle: the speed from the last edge used, or from the first new edge where there is none; a
single first edge as the starting point; 0 when 250 ms have passed without an edge; and the captured edges used up. Axles that are
not served, and the constants, do not change. Model's choices: log entry 9. -/
def Obligations.SweepMeasuresEveryServedAxle : Prop :=
  ∀ (dt : Passage) (s : State) (ks : List Nat), Accepts s → s.speed.constants = some ks →
    timerDue s.speed.sweepTimer 10 (s.advance dt).now = true →
    ∃ t, exec (.speedSweep dt) s = .next t ∧ t.speed.sweepTimer = timerNext s.speed.sweepTimer 10 ∧
      t.speed.constants = some ks ∧ t.speed.axles.length = s.speed.axles.length ∧
      (∀ n, s.control.axleCount ≤ n → t.speed.axles[n]? = s.speed.axles[n]?) ∧
      ∀ n a, n < s.control.axleCount → s.speed.axles[n]? = some a → AxleSafe a →
        ∃ b, t.speed.axles[n]? = some b ∧ b.edgeCount = 0 ∧ b.newestEdge = none ∧ b.firstNewEdge = none ∧
          b.prevSpeed = a.speed ∧
          (∀ last new m, a.newestEdge = some new → a.lastEdge = some last → m = elapsed last new →
            b.lastEdge = some new ∧
            b.speed = if m = 0 then 16000 else min 16000 (a.edgeCount * ks.getD n 0 * 360 / m)) ∧
          (∀ first new m, a.newestEdge = some new → a.lastEdge = none → a.firstNewEdge = some first → 2 ≤ a.edgeCount →
            m = elapsed first new → b.lastEdge = some new ∧
            b.speed = if m = 0 then 16000 else min 16000 ((a.edgeCount - 1) * ks.getD n 0 * 360 / m)) ∧
          (∀ new, a.newestEdge = some new → a.lastEdge = none → a.edgeCount = 1 →
            b.lastEdge = some new ∧ b.speed = a.speed) ∧
          (∀ last, a.newestEdge = none → a.lastEdge = some last → 250000 ≤ elapsed last t.micros →
            b.lastEdge = none ∧ b.speed = 0 ∧ b.status = .noEdge ∧ b.recoverySince = none) ∧
          (a.newestEdge = none → (∀ last, a.lastEdge = some last → elapsed last t.micros < 250000) →
            b.lastEdge = a.lastEdge ∧ b.speed = a.speed)

/-- Steps 2 and 4 of a sweep, on a served axle that step 1 does not make NO_EDGE: the status and the SUSPECT recovery against the
V_ref that the same sweep forms. -/
def Obligations.SweepSettlesEveryStatus : Prop :=
  ∀ (dt : Passage) (s : State) (ks : List Nat), Accepts s → s.speed.constants = some ks →
    timerDue s.speed.sweepTimer 10 (s.advance dt).now = true →
    ∃ t, exec (.speedSweep dt) s = .next t ∧
      ∀ n a, n < s.control.axleCount → s.speed.axles[n]? = some a → AxleSafe a →
        (a.edgeCount = 0 → ∀ last, a.lastEdge = some last → elapsed last t.micros < 250000) →
        ∃ b, t.speed.axles[n]? = some b ∧
          ∀ measured inBand : Prop, (measured ↔ 2 ≤ a.edgeCount ∨ (a.edgeCount = 1 ∧ a.lastEdge ≠ none)) →
            (inBand ↔ 20 * absDiff b.speed t.speed.vRef ≤ t.speed.vRef) →
            (a.status = .noEdge → measured → b.status = .ok) ∧
            (a.status = .noEdge → ¬ measured → b.status = .noEdge) ∧
            (a.status = .ok → ¬ (measured ∧ b.speed + 60 < a.speed) → b.status = .ok) ∧
            (a.status = .ok → measured → b.speed + 60 < a.speed →
              b.status = .suspect ∧ (inBand → b.recoverySince = some t.now) ∧ (¬ inBand → b.recoverySince = none)) ∧
            (a.status = .suspect → ¬ inBand → b.status = .suspect ∧ b.recoverySince = none) ∧
            (a.status = .suspect → inBand → a.recoverySince = none → b.status = .suspect ∧ b.recoverySince = some t.now) ∧
            (a.status = .suspect → inBand → ∀ since, a.recoverySince = some since →
              (elapsed since t.now < 1000 → b.status = .suspect ∧ b.recoverySince = some since) ∧
              (1000 ≤ elapsed since t.now → b.status = .ok ∧ b.recoverySince = none))

/-- Step 3 of a sweep. `oks` are the speeds of the served axles that are OK after step 2, and `peers` the values reported by the
PRESENT peers, as at most 16000. At the sweep of an entry to RUN, V_ref is the maximum of `oks` without limits, or 0; at every other
sweep V_ref follows the maximum over both within the rise and fall limits, and is held under REF_HOLD when there is none. -/
def Obligations.SweepFormsTheReferenceSpeed : Prop :=
  ∀ (dt : Passage) (s : State), Accepts s → timerDue s.speed.sweepTimer 10 (s.advance dt).now = true →
    (∀ e ∈ s.roster.entries, e.state = .present → e.held ≠ none) →
    ∃ t, exec (.speedSweep dt) s = .next t ∧ t.speed.initialising = false ∧
      ∀ oks peers, oks = (s.speed.measureAll s.control.axleCount t.micros).okSpeeds s.control.axleCount →
        peers = s.roster.presentSpeeds →
        (∀ v, v ∈ oks ↔ ∃ n a, n < s.control.axleCount ∧
            (s.speed.measureAll s.control.axleCount t.micros).axles[n]? = some a ∧ a.status = .ok ∧ a.speed = v) ∧
        (∀ v, v ∈ peers ↔ ∃ n e p, s.roster.entry? n = some e ∧ e.state = .present ∧ e.held = some p ∧
            v = min p.vRef.toNat 16000) ∧
        (s.speed.initialising = true →
          (oks = [] → t.speed.vRef = 0) ∧ (∀ c ∈ oks, (∀ x ∈ oks, x ≤ c) → t.speed.vRef = c) ∧
          (t.speed.refHold = true ↔ oks = [] ∧ peers = [])) ∧
        (s.speed.initialising = false →
          (oks ++ peers = [] → t.speed.vRef = s.speed.vRef ∧ t.speed.refHold = true) ∧
          (∀ c ∈ oks ++ peers, (∀ x ∈ oks ++ peers, x ≤ c) → t.speed.refHold = false ∧
            t.speed.vRef = max (s.speed.vRef - s.params.vFall) (min (s.speed.vRef + s.params.vRise) c)))

/-- The truck quantities of an evaluation: from the OK axles alone, the largest slip with the acceleration of the lowest-numbered
axle that has it, and the largest deceleration; none without an OK axle. -/
def Obligations.TruckQuantitiesAreTheWorst : Prop :=
  ∀ (vRef : Nat) (axles : List Axle), 0 < vRef →
    ∀ slip : Axle → Nat, (∀ a, slip a = if vRef ≤ a.speed then 0 else (vRef - a.speed) * 1000 / vRef) →
    (truckQuantities vRef axles = none ↔ ∀ a ∈ axles, a.status ≠ .ok) ∧
    ∀ q, truckQuantities vRef axles = some q →
      (∃ (i : Nat) (a : Axle), axles[i]? = some a ∧ a.status = .ok ∧ slip a = q.slip ∧ q.accel = (a.speed : Int) - a.prevSpeed ∧
        ∀ (j : Nat) (b : Axle), axles[j]? = some b → b.status = .ok → slip b ≤ q.slip ∧ (slip b = q.slip → i ≤ j)) ∧
      (∃ a ∈ axles, a.status = .ok ∧ q.decel = (a.prevSpeed : Int) - a.speed) ∧
      ∀ b ∈ axles, b.status = .ok → (b.prevSpeed : Int) - b.speed ≤ q.decel

/-- The slide evaluation of each truck at the completion of a sweep in RUN, on the axles and V_ref that the sweep leaves: the
LOCKOUT exit, the suspension, at most one transition, the release time, and the entry to LOCKOUT. Model's choices: log entries 8
(under a corrupted record, HOLD with s_relieve not above s_watch and a T_lockout that the release time never equals), 9 and 23. -/
def Obligations.SlideEvaluationMovesEachTruck : Prop :=
  ∀ (dt : Passage) (s : State), Accepts s → s.control.mode = .run →
    timerDue s.speed.sweepTimer 10 (s.advance dt).now = true →
    ∃ t, exec (.speedSweep dt) s = .next t ∧
      ∀ n old new, (n = 1 ∧ old = s.slide.truck1 ∧ new = t.slide.truck1) ∨
          (n = 2 ∧ old = s.slide.truck2 ∧ new = t.slide.truck2) →
        ∀ braking suspended : Prop, (braking ↔ 0 < s.output.dReq ∨ 0 < s.output.pReq) →
          (suspended ↔ ¬ braking ∨ t.speed.vRef < 500 ∨ t.speed.refHold = true) →
          (old.state = .lockout → (¬ braking ∨ t.speed.vRef < 300) → new = ⟨.normal, 50, .apply, 0, none⟩) ∧
          (old.state = .lockout → ¬ (¬ braking ∨ t.speed.vRef < 300) → new = old) ∧
          (old.state ≠ .lockout → old.state ≠ .normal → suspended → new = ⟨.normal, 50, .apply, 0, none⟩) ∧
          (old.state = .normal → suspended → new = old) ∧
          (old.state ≠ .lockout → ¬ suspended → ∃ moved : Truck,
            (truckQuantities t.speed.vRef (t.truckAxles n) = none →
              moved = if old.state = .watch then { old with quietSince := none } else old) ∧
            (∀ q, truckQuantities t.speed.vRef (t.truckAxles n) = some q →
              (old.state = .normal → moved =
                if s.params.sWatch ≤ q.slip ∨ (s.params.decelWatch : Int) ≤ q.decel then
                  { old with state := .watch, factor := 50, valve := .apply, quietSince := none }
                else old) ∧
              (old.state = .watch → moved =
                if s.params.sRelieve ≤ q.slip then
                  { old with state := .relieve, factor := 0, valve := .vent, quietSince := none }
                else if q.slip < s.params.sWatch ∧ q.decel < s.params.decelWatch then
                  (match old.quietSince with
                  | none => { old with quietSince := some t.now }
                  | some since =>
                    if 100 ≤ elapsed since t.now then
                      { old with state := .normal, factor := 50, valve := .apply, quietSince := none }
                    else old)
                else { old with quietSince := none }) ∧
              (old.state = .relieve → moved =
                if 2 ≤ q.accel then { old with state := .hold, factor := 0, valve := .hold } else old) ∧
              (old.state = .hold → moved =
                if s.params.sRelieve ≤ q.slip then
                  { old with state := .relieve, factor := 0, valve := .vent, quietSince := none }
                else if q.slip < s.params.sWatch then { old with state := .reapply, factor := 1, valve := .apply }
                else old) ∧
              (old.state = .reapply → moved =
                if s.params.sRelieve ≤ q.slip then
                  { old with state := .relieve, factor := 0, valve := .vent, quietSince := none }
                else if 50 ≤ old.factor + 2 then
                  { old with state := .normal, factor := 50, valve := .apply, quietSince := none }
                else { old with factor := old.factor + 2 })) ∧
            (moved.state = .normal → new = { moved with releaseTime := 0 }) ∧
            (moved.state = .watch → new = moved) ∧
            (moved.state ≠ .normal → moved.state ≠ .watch → new =
              if moved.releaseTime + 10 = s.params.tLockout then
                { moved with
                  state := .lockout, factor := 50, valve := .apply, releaseTime := s.params.tLockout, quietSince := none }
              else { moved with releaseTime := moved.releaseTime + 10 }) ∧
            (moved.state = .relieve → old.state ≠ .relieve → ⟨t.now, .slide n .relieve⟩ ∈ t.recorder.events))

/-- What else a sweep changes: in RUN the valve drives take the trucks' commands, and each truck's entry to LOCKOUT logs its
event, raises SLIDE_LOCKOUT and sets lockout seen; in SAFE nothing but the Speed Unit changes. Before 10 ms nothing happens. A
drive of APPLY asserts neither valve line, HOLD the supply-cut line alone, VENT both. Model's choices: log entries 9 and 24. -/
def Obligations.SweepDrivesValvesAndReportsLockout : Prop :=
  (∀ drive : Valve, (drive.supplyCut = true ↔ drive = .hold ∨ drive = .vent) ∧ (drive.exhaust = true ↔ drive = .vent)) ∧
  ∀ (dt : Passage) (s : State), Accepts s →
    (timerDue s.speed.sweepTimer 10 (s.advance dt).now = false →
      exec (.speedSweep dt) s = .next (s.advance dt)) ∧
    (timerDue s.speed.sweepTimer 10 (s.advance dt).now = true →
      ∃ t, exec (.speedSweep dt) s = .next t ∧
      (s.control.mode ≠ .run → t = (s.advance dt).setSpeed t.speed) ∧
      (s.control.mode = .run → s.recorder.lastOccurrence.length = 12 →
        RaisedFrom ((((s.advance dt).setSpeed t.speed).setSlide t.slide).setOutput { s.output with
          truck1 := { s.output.truck1 with drive := t.slide.truck1.valve }
          truck2 := { s.output.truck2 with drive := t.slide.truck2.valve } }) t ∧
        (s.slide.truck1.state ≠ .lockout → t.slide.truck1.state = .lockout →
          ⟨t.now, .slide 1 .lockout⟩ ∈ t.recorder.events ∧ t.slide.lockoutSeen = true ∧
          t.recorder.lastOccurrenceOf 2 = some t.now) ∧
        (s.slide.truck2.state ≠ .lockout → t.slide.truck2.state = .lockout →
          ⟨t.now, .slide 2 .lockout⟩ ∈ t.recorder.events ∧ t.slide.lockoutSeen = true ∧
          t.recorder.lastOccurrenceOf 2 = some t.now) ∧
        ((s.slide.truck1.state = .lockout ∨ t.slide.truck1.state ≠ .lockout) →
          (s.slide.truck2.state = .lockout ∨ t.slide.truck2.state ≠ .lockout) →
          t.slide.lockoutSeen = s.slide.lockoutSeen ∧
          t.recorder.lastOccurrenceOf 2 = s.recorder.lastOccurrenceOf 2)))

/-! ### Blend Unit -/

/-- The capability curve over points of rising speed: the end efforts outside the points' speeds, and inside, in the one interval
that holds the speed, the exact value on its segment rounded down, which lies between the segment's ends. -/
def Obligations.CurveFollowsItsSegments : Prop :=
  ∀ (points : List (Nat × Nat)) (v : Nat), points.Pairwise (fun p q => p.1 < q.1) →
    (∀ p, points.head? = some p → v ≤ p.1 → curveAt points v = p.2) ∧
    (∀ p, points.getLast? = some p → p.1 ≤ v → curveAt points v = p.2) ∧
    ∀ (i : Nat) (p q : Nat × Nat), points[i]? = some p → points[i + 1]? = some q → p.1 ≤ v → v < q.1 →
      (curveAt points v : Int) = p.2 + ((q.2 : Int) - p.2) * ((v : Int) - p.1) / ((q.1 : Int) - p.1) ∧
      min p.2 q.2 ≤ curveAt points v ∧ curveAt points v ≤ max p.2 q.2

/-- The set K in rising station number: the own station with its rating, A_own and E_own, and every other station whose entry is
PRESENT or STALE, whose participation is BLEND or AIR, and whose rating is not 0; reported values count as at most 800, and an
AIR peer's available effort as 0. -/
def Obligations.BlendSetHoldsTheRightStations : Prop :=
  ∀ s : State, s.roster.entries.length = 8 → 1 ≤ s.control.station → s.control.station ≤ 8 →
    s.ownMember = ⟨s.control.station, s.params.rOwn,
      if s.output.participation = .blend then
        min (curveAt s.params.curve s.speed.vRef) s.output.lConv * (s.slide.truck1.factor + s.slide.truck2.factor) / 100
      else 0, s.output.eOwn⟩ ∧
    (∀ m : Member, m ∈ setK s.ownMember s.roster.entries ↔ m = s.ownMember ∨
      (m.station ≠ s.control.station ∧ ∃ e p, s.roster.entry? m.station = some e ∧
        (e.state = .present ∨ e.state = .stale) ∧ e.held = some p ∧ (p.participation = 1 ∨ p.participation = 2) ∧
        m.r = min p.r.toNat 800 ∧ 0 < m.r ∧ m.e = min p.e.toNat 800 ∧
        m.a = if p.participation = 1 then min p.a.toNat 800 else 0)) ∧
    (setK s.ownMember s.roster.entries).Pairwise fun x y => x.station < y.station

/-- A blend computation 20 ms after the last stores its mode and results. Under UNHEARD, under DUPLICATE and alone in K the mode
is LOCAL and the results are the own station's; otherwise it is SHARED and they are formed over K. Model's choices: log entry 9.
-/
def Obligations.BlendResultsFollowTheMode : Prop :=
  ∀ (dt : Passage) (s : State), Accepts s → timerDue s.blend.timer 20 (s.advance dt).now = true → 0 < s.params.rOwn →
    s.roster.entries.length = 8 → 1 ≤ s.control.station → s.control.station ≤ 8 →
    ∃ t, exec (.blendComputation dt) s = .next t ∧ t.blend.timer = timerNext s.blend.timer 20 ∧
      t.blend.avail = s.ownMember.a ∧
      ∀ k, k = setK s.ownMember s.roster.entries →
        ((s.roster.unheard = true ∨ s.roster.duplicate = true ∨ k = [s.ownMember]) →
          t.blend.mode = .localBlend ∧ t.blend.target = s.demand.dEff * s.params.rOwn / 1000 ∧
          t.blend.dTarget = min t.blend.target t.blend.avail ∧ t.blend.dyn = t.blend.dTarget ∧
          t.blend.shortfall = t.blend.target - s.output.eOwn ∧ t.blend.air = t.blend.shortfall) ∧
        (s.roster.unheard = false → s.roster.duplicate = false → k ≠ [s.ownMember] →
          t.blend.mode = .sharedBlend ∧ t.blend.target = s.demand.dEff * sumR k / 1000 ∧
          t.blend.dyn = min t.blend.target (sumA k) ∧
          (s.control.station, t.blend.dTarget) ∈ shares t.blend.dyn k ∧
          t.blend.shortfall = t.blend.target - sumE k ∧
          t.blend.air = (t.blend.shortfall * s.params.rOwn + (sumR k - 1)) / sumR k)

/-- The division of the dynamic total among members in rising station number: each member's share is the whole part of its exact
share, and 1 kN more for the first r members whose exact share has a fraction, r being what the whole parts leave of the total.
The shares add up to the total, no share exceeds its member's available effort, and the rounded-up air efforts of all members add
up to at least S and to less than S plus their number. -/
def Obligations.SharesAddUpAndAirCoversTheGap : Prop :=
  ∀ (k : List Member) (dyn : Nat), dyn ≤ sumA k →
    ((shares dyn k).map Prod.snd).sum = dyn ∧ (shares dyn k).map Prod.fst = k.map Member.station ∧
    (∀ (i : Nat) (m : Member), k[i]? = some m → ∃ x, (shares dyn k)[i]? = some (m.station, x) ∧ x ≤ m.a ∧
      x = dyn * m.a / sumA k +
        if dyn * m.a % sumA k ≠ 0 ∧
            ((k.take i).filter fun y => dyn * y.a % sumA k ≠ 0).length < dyn - (k.map fun y => dyn * y.a / sumA k).sum
        then 1 else 0) ∧
    ∀ shortfall, 0 < sumR k →
      shortfall ≤ (k.map fun m => ceilDiv (shortfall * m.r) (sumR k)).sum ∧
      (k.map fun m => ceilDiv (shortfall * m.r) (sumR k)).sum < shortfall + k.length

/-- What a blend completion hands over: the dynamic request by the ramp and the cut, the pressure request by the conversion or the
emergency pressure, the own roster entry refreshed, and the shortfall watch with its raising. Nothing else changes. Model's
choices: log entries 8 (a record with p_max below p_take) and 9. -/
def Obligations.BlendCompletionHandsOver : Prop :=
  ∀ (dt : Passage) (s : State), Accepts s → timerDue s.blend.timer 20 (s.advance dt).now = true → 0 < s.params.rAir →
    s.roster.entries.length = 8 → 1 ≤ s.control.station → s.control.station ≤ 8 → s.recorder.lastOccurrence.length = 12 →
    ∃ t, exec (.blendComputation dt) s = .next t ∧
      (∀ target, target = (if s.demand.emergency = .clear then t.blend.dTarget else 0) →
        t.output.dReq = min t.blend.avail (if s.output.dReq ≤ target then min target (s.output.dReq + s.params.j)
          else max target (s.output.dReq - s.params.j))) ∧
      t.output.pReq = (if s.demand.emergency = .emergency then s.params.pEmer else if t.blend.air = 0 then 0
        else s.params.pTake + (2 * ((s.params.pMax - s.params.pTake) * min t.blend.air s.params.rAir) + s.params.rAir) /
          (2 * s.params.rAir)) ∧
      t.roster.entry? s.control.station = some (Entry.ownSelf (ownFields s.output.participation s.params.rOwn
        t.blend.avail s.output.eOwn s.speed.vRef s.demand.dEff)) ∧
      (∀ n, n ≠ s.control.station → t.roster.entry? n = s.roster.entry? n) ∧
      t.roster = { s.roster with entries := t.roster.entries } ∧
      (∀ short raised : Prop, (short ↔ s.demand.emergency = .clear ∧ s.params.rAir < t.blend.air) →
        (raised ↔ short ∧ s.blend.shortfallOpen = false ∧
          ∃ since, s.blend.shortfallSince = some since ∧ 2000 ≤ elapsed since t.now) →
        (short → t.blend.shortfallSince = some (s.blend.shortfallSince.getD t.now)) ∧
        (¬ short → t.blend.shortfallSince = none) ∧
        (t.blend.shortfallOpen = true ↔ raised ∨ (short ∧ s.blend.shortfallOpen = true)) ∧
        (raised → t.recorder.lastOccurrenceOf 6 = some t.now) ∧
        (¬ raised → t.recorder.lastOccurrenceOf 6 = s.recorder.lastOccurrenceOf 6)) ∧
      RaisedFrom ((((s.advance dt).setBlend t.blend).setOutput
        { s.output with dReq := t.output.dReq, pReq := t.output.pReq }).setRoster t.roster) t

/-! ### Output Stage -/

/-- A feedback message is accepted when it is 5B, two words and their check value, and nothing else is; then E_own and L_conv take
the words, as at most 800, the participation is BLEND and the staleness timer starts anew. The staleness timer's expiry 100 ms
later makes the participation AIR, both values 0, and stops the timer. A request message begins when none has begun yet or 80 bit
times of 4 µs have passed since the last one began, and takes the dynamic request and the valid line of that moment. Model's
choices: log entries 9, 11 and 26. -/
def Obligations.ConverterLinkCarriesRequestAndFeedback : Prop :=
  ∀ (dt : Passage) (s : State), Accepts s →
    (∀ e l : BitVec 16,
      exec (.converterFeedback dt (0x5B :: wordBytes e ++ wordBytes l ++ wordBytes (checkValue (wordBytes e ++ wordBytes l)))) s =
      .next ((s.advance dt).setOutput { s.output with
        eOwn := min e.toNat 800, lConv := min l.toNat 800, participation := .blend
        stalenessTimer := some (s.advance dt).now })) ∧
    (∀ chars, (∀ e l : BitVec 16,
        chars ≠ 0x5B :: wordBytes e ++ wordBytes l ++ wordBytes (checkValue (wordBytes e ++ wordBytes l))) →
      exec (.converterFeedback dt chars) s = .next (s.advance dt)) ∧
    (timerDue s.output.stalenessTimer 100 (s.advance dt).now = true → exec (.stalenessExpiry dt) s =
      .next ((s.advance dt).setOutput { s.output with
        eOwn := 0, lConv := 0, participation := .air, stalenessTimer := none })) ∧
    (timerDue s.output.stalenessTimer 100 (s.advance dt).now = false →
      exec (.stalenessExpiry dt) s = .next (s.advance dt)) ∧
    ((∀ m, s.output.request = some m → 320 ≤ elapsed m.begun (s.advance dt).micros) → exec (.requestMessage dt) s =
      .next ((s.advance dt).setOutput { s.output with
        request := some ⟨s.output.dReq, s.output.valid, (s.advance dt).micros⟩ })) ∧
    (∀ m, s.output.request = some m → elapsed m.begun (s.advance dt).micros < 320 →
      exec (.requestMessage dt) s = .next (s.advance dt))

/-- A pressure sample 20 ms after the last: each truck's reading up to 700 becomes its measured pressure and clears the sensor
fault, a higher one sets the fault and keeps the pressure; then each truck's mismatch run and episode, with AIR_MISMATCH raised
once per episode. Besides these and the timer, and what raisings change, nothing changes. Model's choices: log entries 2 and 9. -/
def Obligations.PressureSampleWatchesBothTrucks : Prop :=
  ∀ (dt : Passage) (p1 p2 : BitVec 10) (s : State), Accepts s → s.recorder.lastOccurrence.length = 12 →
    (timerDue s.output.pressureTimer 20 (s.advance dt).now = false →
      exec (.pressureSample dt p1 p2) s = .next (s.advance dt)) ∧
    (timerDue s.output.pressureTimer 20 (s.advance dt).now = true →
      ∃ t raised1 raised2, exec (.pressureSample dt p1 p2) s = .next t ∧
        (∀ (p : BitVec 10) (old new : TruckOutput) (raised : Bool),
          (p = p1 ∧ old = s.output.truck1 ∧ new = t.output.truck1 ∧ raised = raised1) ∨
          (p = p2 ∧ old = s.output.truck2 ∧ new = t.output.truck2 ∧ raised = raised2) →
          new.drive = old.drive ∧ (p.toNat ≤ 700 → new.pMeas = p.toNat ∧ new.sensorFault = false) ∧
          (700 < p.toNat → new.pMeas = old.pMeas ∧ new.sensorFault = true) ∧
          ∀ holds : Prop, (holds ↔ s.control.mode = .run ∧ old.drive = .apply ∧ p.toNat ≤ 700 ∧
              60 < absDiff s.output.pReq p.toNat) →
            (holds → new.mismatchSince = some (old.mismatchSince.getD t.now)) ∧
            (¬ holds → new.mismatchSince = none ∧ new.mismatchOpen = false) ∧
            (raised = true ↔ holds ∧ old.mismatchOpen = false ∧
              ∃ since, old.mismatchSince = some since ∧ 2000 ≤ elapsed since t.now) ∧
            (holds → new.mismatchOpen = (old.mismatchOpen || raised))) ∧
        t.recorder.lastOccurrenceOf 7 =
          (if raised1 ∨ raised2 then some t.now else s.recorder.lastOccurrenceOf 7) ∧
        RaisedFrom (((s.advance dt).setPins { s.pins with pressure1 := p1, pressure2 := p2 }).setOutput { s.output with
          truck1 := t.output.truck1, truck2 := t.output.truck2
          pressureTimer := timerNext s.output.pressureTimer 20 }) t)

/-! ### Line Controller -/

/-- A queued NOTICE or DEMAND first goes on air in RUN when nothing is on air, nothing before it in the service order is queued,
and the idle time at which the row falls, up to which the line has been idle, has reached its quiet time; its header takes the next
sequence number of its kind, and an IDLE framer begins to receive the own frame under the echo mark. Otherwise nothing happens.
Model's choices: log entries 3 and 12. -/
def Obligations.FirstAttemptWaitsForItsQuietTime : Prop :=
  ∀ (dt : Passage) (idle : Nat) (s : State), Accepts s → ∀ l, l = (s.advance dt).line → ∀ (framer : Framer) (buffer : List Byte) (echo : Bool),
    framer = (if l.framer = .idle then .receiving else l.framer) → buffer = (if l.framer = .idle then [] else l.buffer) →
    echo = (if l.framer = .idle then true else l.echo) →
    ((l.onAir ≠ none ∨ l.queue = ⟨[], none, false⟩ ∨ l.idleMicros / 4 < idle ∨
        (l.queue.notices ≠ [] ∧ (s.control.mode ≠ .run ∨ idle < 24)) ∨
        (l.queue.notices = [] ∧ l.queue.demand ≠ none ∧ (s.control.mode ≠ .run ∨ idle < 32)) ∨
        (l.queue.notices = [] ∧ l.queue.demand = none ∧
          (s.control.mode.working = false ∨ idle < 48 + 8 * s.control.station))) →
      exec (.firstGoesOnAir dt idle) s = .next (s.advance dt)) ∧
    (∀ c rest, l.onAir = none → s.control.mode = .run → l.queue.notices = c :: rest →
      24 ≤ idle → idle ≤ l.idleMicros / 4 →
      exec (.firstGoesOnAir dt idle) s = .next ((s.advance dt).setLine { l with
        queue := { l.queue with notices := rest }
        onAir := some ⟨.notice c, l.nextNoticeSeq, .sending (s.advance dt).micros⟩
        attempts := 0, idleMicros := 0, nextNoticeSeq := l.nextNoticeSeq + 1
        framer := framer, buffer := buffer, echo := echo })) ∧
    (∀ c, l.onAir = none → s.control.mode = .run → l.queue.notices = [] → l.queue.demand = some c →
      32 ≤ idle → idle ≤ l.idleMicros / 4 →
      exec (.firstGoesOnAir dt idle) s = .next ((s.advance dt).setLine { l with
        queue := { l.queue with demand := none }
        onAir := some ⟨.demand c, l.nextDemandSeq, .sending (s.advance dt).micros⟩
        attempts := 0, idleMicros := 0, nextDemandSeq := l.nextDemandSeq + 1
        framer := framer, buffer := buffer, echo := echo }))

/-- The report timer's expiry every 100 ms enqueues a REPORT. The REPORT goes on air in RUN or SAFE when it is the candidate and
the idle time has reached 48 + 8 × station bit times, with the content of that moment; lockout seen is thereby read and cleared.
Model's choices: log entries 3, 9 and 12. -/
def Obligations.ReportGoesOnAirWithTheMoment : Prop :=
  ∀ (dt : Passage) (s : State), Accepts s → s.control.mode.working = true →
    (timerDue s.line.reportTimer 100 (s.advance dt).now = false →
      exec (.reportTimerExpiry dt) s = .next (s.advance dt)) ∧
    (timerDue s.line.reportTimer 100 (s.advance dt).now = true → exec (.reportTimerExpiry dt) s =
      .next ((s.advance dt).setLine { (s.advance dt).line with
        reportTimer := timerNext s.line.reportTimer 100, queue := { s.line.queue with report := true } })) ∧
    ∀ own held idle, s.roster.entries.length = 8 → s.roster.entry? s.control.station = some own → own.held = some held →
      s.line.onAir = none → s.line.queue = ⟨[], none, true⟩ →
      48 + 8 * s.control.station ≤ idle → idle ≤ (s.advance dt).line.idleMicros / 4 →
      ∃ p, exec (.firstGoesOnAir dt idle) s = .next (((s.advance dt).setLine { (s.advance dt).line with
          queue := ⟨[], none, false⟩
          onAir := some ⟨.report p, s.line.nextReportSeq, .sending (s.advance dt).micros⟩
          attempts := 0, idleMicros := 0, nextReportSeq := s.line.nextReportSeq + 1
          framer := if (s.advance dt).line.framer = .idle then .receiving else (s.advance dt).line.framer
          buffer := if (s.advance dt).line.framer = .idle then [] else (s.advance dt).line.buffer
          echo := if (s.advance dt).line.framer = .idle then true else (s.advance dt).line.echo }).setSlide
          { s.slide with lockoutSeen := false }) ∧
        p.participation = (if s.control.mode = .safe then 3 else held.participation) ∧
        p.r = held.r ∧ p.a = held.a ∧ p.e = held.e ∧ p.vRef = BitVec.ofNat 16 s.speed.vRef ∧
        p.dEcho = BitVec.ofNat 16 s.demand.dEff ∧
        p.flags.getLsbD 0 = s.demand.controlling ∧ (p.flags.getLsbD 1 = true ↔ s.demand.emergency = .emergency) ∧
        p.flags.getLsbD 2 = s.roster.unheard ∧ p.flags.getLsbD 3 = s.roster.duplicate ∧
        (p.flags.getLsbD 4 = true ↔ s.slide.truck1.state = .lockout ∨ s.slide.truck2.state = .lockout) ∧
        p.flags.getLsbD 5 = s.speed.refHold ∧ (p.flags.getLsbD 6 = true ↔ s.control.mode = .safe) ∧
        p.flags.getLsbD 7 = false ∧
        p.relief.toNat = ([s.slide.truck1, s.slide.truck2].filter fun x =>
          x.state == .relieve || x.state == .hold || x.state == .reapply).length ∧
        p.lockout = (if s.slide.lockoutSeen then 1 else 0) ∧
        (∀ n e, n ≤ 8 → s.roster.entry? n = some e → (p.view.getLsbD (n - 1) = true ↔ e.state = .present)) ∧
        p.lastIncident = BitVec.ofNat 16 s.recorder.lastOpened ∧ p.fill1 = 0 ∧ p.fill2 = 0 ∧ p.fill3 = 0

/-- The attempts of a frame on air. A success, no earlier than the frame's whole length, ends it, and the idle time runs on; a
collision begins the jam; the jam's end after 16 bit times counts a failed attempt, after which the frame waits, and goes on air
again once the idle time has reached its quiet time plus the backoff. The 8th failure gives the frame up, logs LINE_DISCARD, and
returns a NOTICE as not sent. Model's choices: log entries 3, 11 and 12. -/
def Obligations.AttemptsSucceedWaitOrGiveUp : Prop :=
  ∀ (dt : Passage) (s : State) (l : LineController) (idle : Nat) (content : FrameContent) (seq : Byte), Accepts s →
    l = (s.advance dt).line → s.control.mode.working = true →
    (s.control.mode = .run ∨ content.kind = .report) →
    (∀ quiet, quiet = (match content.kind with | .notice => 24 | .demand => 32 | .report => 48 + 8 * s.control.station) →
      l.onAir = some ⟨content, seq, .waiting⟩ →
      (quiet + l.attempts * s.control.station * 20 ≤ idle → idle ≤ l.idleMicros / 4 → exec (.retryAttempt dt idle) s =
        .next ((s.advance dt).setLine { l with
          onAir := some ⟨content, seq, .sending (s.advance dt).micros⟩, idleMicros := 0
          framer := if l.framer = .idle then .receiving else l.framer
          buffer := if l.framer = .idle then [] else l.buffer
          echo := if l.framer = .idle then true else l.echo })) ∧
      (idle < quiet + l.attempts * s.control.station * 20 ∨ l.idleMicros / 4 < idle →
        exec (.retryAttempt dt idle) s = .next (s.advance dt))) ∧
    (∀ since, l.onAir = some ⟨content, seq, .sending since⟩ →
      exec (.collision dt) s = .next ((s.advance dt).setLine { l with
        onAir := some ⟨content, seq, .jamming (s.advance dt).micros⟩, idleMicros := 0 }) ∧
      (elapsed since (s.advance dt).micros < 40 * (7 + content.kind.payloadLength) →
        exec (.attemptSuccess dt) s = .next (s.advance dt)) ∧
      (40 * (7 + content.kind.payloadLength) ≤ elapsed since (s.advance dt).micros →
        exec (.attemptSuccess dt) s = .next ((s.advance dt).setLine { l with
          onAir := none, attempts := 0
          buffer := if l.framer = .receiving ∧ l.echo = true then frameBytes s.control.station seq content
            else l.buffer }))) ∧
    (∀ since, l.onAir = some ⟨content, seq, .jamming since⟩ →
      (elapsed since (s.advance dt).micros < 64 → exec (.jamEnd dt) s = .next (s.advance dt)) ∧
      (64 ≤ elapsed since (s.advance dt).micros → l.attempts + 1 < 8 → exec (.jamEnd dt) s =
        .next ((s.advance dt).setLine { l with
          onAir := some ⟨content, seq, .waiting⟩, attempts := l.attempts + 1 })) ∧
      (64 ≤ elapsed since (s.advance dt).micros → 8 ≤ l.attempts + 1 → exec (.jamEnd dt) s =
        .next (((s.advance dt).setLine { l with onAir := none, attempts := 0 }).setRecorder
          (match content with
          | .notice c => (s.recorder.log ⟨(s.advance dt).now, .lineDiscard content.kind⟩).noticeReturned c.number
          | _ => s.recorder.log ⟨(s.advance dt).now, .lineDiscard content.kind⟩)))) ∧
    (l.onAir = none → exec (.collision dt) s = .next (s.advance dt) ∧ exec (.attemptSuccess dt) s = .next (s.advance dt) ∧
      exec (.jamEnd dt) s = .next (s.advance dt) ∧
      exec (.retryAttempt dt idle) s = .next (s.advance dt))

/-! ### Receive framer and Peer Roster -/

/-- The receive framer outside INIT. From IDLE, a start bit of another station begins a frame with an empty buffer and the echo
mark clear, and characters are added to the buffer, the own ones too as they are sent under the echo mark; a first character that
is no start mark discards the frame. 10 bit times of idle line end IGNORING; a discard returns to it; a completed frame that fails
a test of R99, or that is the own echo, is dispatched to no block; whatever it is, the own frame too, the line must have been idle
for 10 bit times. In INIT and in IGNORING the framer takes nothing. `l` is the line after the passage, `whole` the completed frame
with the characters that FRAME_COMPLETE brings itself. Model's choices: log entries 3 and 28. -/
def Obligations.FramerDispatchesNoBadFrameAndNoEcho : Prop :=
  ∀ (dt : Passage) (chars : List Byte) (s : State) (l : LineController) (whole : List Byte), Accepts s →
    l = (s.advance dt).line → whole = (if l.framer = .idle then chars else l.buffer ++ chars) →
    (s.control.mode = .init ∨ s.line.framer = .ignoring →
      l.framer = s.line.framer ∧ l.buffer = s.line.buffer ∧ l.echo = s.line.echo) ∧
    (s.control.mode ≠ .init → s.line.framer = .receiving → s.line.echo = true → ∀ f since, s.line.onAir = some f →
      f.phase = .sending since → l.framer = .receiving ∧ l.echo = true ∧
        l.buffer = (frameBytes s.control.station f.seq f.content).take (elapsed since (s.advance dt).micros / 40)) ∧
    (∀ tail : List LineEvent, s.control.mode ≠ .init → tail = [] ∨ tail = [.startBit] →
      (s.line.framer = .idle →
        (dt.traffic = [] → l.framer = .idle ∧ l.buffer = s.line.buffer ∧ l.echo = s.line.echo) ∧
        (dt.traffic = [.startBit] → l.framer = .receiving ∧ l.buffer = [] ∧ l.echo = false) ∧
        (∀ rest, dt.traffic = (0xA7#8 :: rest).map .character ++ tail →
          l.framer = .receiving ∧ l.buffer = 0xA7#8 :: rest ∧ l.echo = false) ∧
        ∀ char rest, char ≠ 0xA7#8 → dt.traffic = .character char :: rest →
          l.framer = .ignoring ∧ l.buffer = [] ∧ l.echo = false) ∧
      (s.line.framer = .receiving → (s.line.echo = false ∨ ∀ f since, s.line.onAir = some f → f.phase ≠ .sending since) →
        (∀ more, (s.line.buffer ≠ [] ∨ more = [] ∨ more.head? = some 0xA7#8) →
          dt.traffic = more.map .character ++ tail →
          l.framer = .receiving ∧ l.buffer = s.line.buffer ++ more ∧ l.echo = s.line.echo) ∧
        ∀ char rest, s.line.buffer = [] → char ≠ 0xA7#8 → dt.traffic = .character char :: rest →
          l.framer = .ignoring ∧ l.buffer = [] ∧ l.echo = s.line.echo)) ∧
    (s.control.mode = .init ∨ l.framer = .ignoring → ∀ cause, exec (.frameDiscarded dt cause) s = .next (s.advance dt)) ∧
    (s.control.mode = .init ∨ l.framer = .ignoring ∨ (l.framer = .idle ∧ chars = []) ∨ l.idleMicros / 4 < 10 →
      exec (.frameComplete dt chars) s = .next (s.advance dt)) ∧
    (s.control.mode = .init ∨ l.framer ≠ .ignoring ∨ l.idleMicros / 4 < 10 →
      exec (.framerIdle dt) s = .next (s.advance dt)) ∧
    (s.control.mode ≠ .init → l.framer = .ignoring → 10 ≤ l.idleMicros / 4 → exec (.framerIdle dt) s =
      .next ((s.advance dt).setLine { l with framer := .idle })) ∧
    (s.control.mode ≠ .init → l.framer ≠ .ignoring → ∀ echo, echo = (if l.framer = .idle then false else l.echo) →
      exec (.frameDiscarded dt .dominantStopBit) s = .next ((s.advance dt).setLine { l with
        framer := .ignoring, buffer := [], echo := echo, idleMicros := 0 }) ∧
      (∀ char, char ≠ 0xA7#8 → (l.framer = .idle ∨ l.buffer = []) →
        exec (.frameDiscarded dt (.wrongStartMark char)) s = .next ((s.advance dt).setLine { l with
          framer := .ignoring, buffer := [], echo := echo, idleMicros := min l.idleMicros (4 * recessiveTail char) })) ∧
      (∀ char, (l.framer ≠ .idle ∧ l.buffer ≠ []) ∨ char = 0xA7#8 →
        exec (.frameDiscarded dt (.wrongStartMark char)) s = .next (s.advance dt)) ∧
      (10 ≤ l.idleMicros / 4 →
        (∀ char rest, (l.framer = .idle ∨ l.buffer = []) → char ≠ 0xA7#8 → chars = char :: rest →
          exec (.frameComplete dt chars) s =
            .next ((s.advance dt).setLine { l with framer := .ignoring, buffer := [], echo := echo })) ∧
        ((l.framer = .receiving ∧ (l.buffer ≠ [] ∨ chars = [])) ∨ chars.head? = some 0xA7#8 →
          (whole.length < 7 ∨ byteAt whole 0 ≠ 0xA7#8 ∨ (∀ k : FrameKind, k.code ≠ byteAt whole 1) ∨
            natAt whole 2 = 0 ∨ 8 < natAt whole 2 ∨
            (∀ k : FrameKind, k.code = byteAt whole 1 → natAt whole 4 ≠ k.payloadLength) ∨
            whole.length ≠ natAt whole 4 + 7 ∨
            wordAt whole (whole.length - 2) ≠ checkValue ((whole.take (whole.length - 2)).drop 1) ∨ echo = true) →
          exec (.frameComplete dt chars) s =
            .next ((s.advance dt).setLine { l with framer := .idle, buffer := whole, echo := echo }))))

/-- A peer's REPORT takes its entry through joining: from ABSENT or LOST to JOINING; in JOINING three in sequence, each within 250
ms, make it PRESENT; PRESENT and STALE need the sequence alone; any other REPORT restarts the count. A change of state is logged,
a PRESENT peer that lists the own station clears UNHEARD, and the unheard condition is evaluated. Nothing else changes. Model's
choices: log entry 3. -/
def Obligations.ReportsTakePeersThroughJoining : Prop :=
  ∀ (dt : Passage) (chars : List Byte) (s u : State) (l : LineController) (n : Nat) (seq : Byte) (p : ReportPayload) (e : Entry),
    Accepts s → s.control.mode ≠ .init → l = (s.advance dt).line → l.framer ≠ .ignoring →
    10 ≤ l.idleMicros / 4 → (l.framer ≠ .idle → l.echo = false) →
    (if l.framer = .idle then chars else l.buffer ++ chars) = frameBytes n seq (.report p) →
    u = (s.advance dt).setLine { l with framer := .idle, buffer := frameBytes n seq (.report p), echo := false } →
    1 ≤ n → n ≤ 8 → n ≠ s.control.station → s.roster.entry? n = some e → e.state ≠ .self →
    ∃ (st : EntryState) (k : Nat) (r : Roster),
      exec (.frameComplete dt chars) s = .next ((u.setRoster r).setRecorder
        (if st = e.state then u.recorder else u.recorder.log ⟨u.now, .peerState n e.state st⟩)) ∧
      r.entry? n = some { e with
        state := st, joinCount := k, lastSeq := some seq, lastHeard := some u.now, held := some p } ∧
      (∀ m, m ≠ n → r.entry? m = s.roster.entry? m) ∧
      (e.state = .absent ∨ e.state = .lost → st = .joining ∧ k = 1) ∧
      (∀ q h, e.lastSeq = some q → e.lastHeard = some h →
        (e.state = .joining → seq = q + 1 → elapsed h u.now ≤ 250 → e.joinCount < 2 →
          st = .joining ∧ k = e.joinCount + 1) ∧
        (e.state = .joining → seq = q + 1 → elapsed h u.now ≤ 250 → 2 ≤ e.joinCount → st = .present ∧ k = 3) ∧
        (e.state = .joining → (seq ≠ q + 1 ∨ 250 < elapsed h u.now) → st = .joining ∧ k = 1) ∧
        (e.state = .present ∨ e.state = .stale → seq = q + 1 → st = .present ∧ k = 3) ∧
        (e.state = .present ∨ e.state = .stale → seq ≠ q + 1 → st = .joining ∧ k = 1)) ∧
      r.unheard = (if st = .present ∧ p.view.getLsbD (s.control.station - 1) = true then false else s.roster.unheard) ∧
      r.duplicate = s.roster.duplicate ∧ r.duplicateExpiry = s.roster.duplicateExpiry ∧
      ((s.control.mode = .run ∧ (∃ x ∈ r.entries, x.state = .present) ∧ ∀ x ∈ r.entries, x.state = .present →
          ∀ q, x.held = some q → q.view.getLsbD (s.control.station - 1) = false) →
        r.unheardSince = some (s.roster.unheardSince.getD u.now)) ∧
      (¬ (s.control.mode = .run ∧ (∃ x ∈ r.entries, x.state = .present) ∧ ∀ x ∈ r.entries, x.state = .present →
          ∀ q, x.held = some q → q.view.getLsbD (s.control.station - 1) = false) →
        r.unheardSince = none)

/-- A peer's DEMAND becomes its entry's latest demand, in every entry state. A peer's NOTICE with number 0 or with the last number
accepted from there is discarded; any other is noted in the entry, logged, and raises PEER_NOTICE with its originator and number.
A frame with the own station number changes DUPLICATE and its expiry alone, and raises DUPLICATE_STATION once an episode. Model's
choices: log entry 3. -/
def Obligations.DemandsNoticesAndDuplicatesArrive : Prop :=
  ∀ (dt : Passage) (chars : List Byte) (s u : State) (l : LineController) (n : Nat) (seq : Byte) (x : FrameContent),
    Accepts s → s.control.mode ≠ .init → l = (s.advance dt).line → l.framer ≠ .ignoring →
    10 ≤ l.idleMicros / 4 → (l.framer ≠ .idle → l.echo = false) →
    (if l.framer = .idle then chars else l.buffer ++ chars) = frameBytes n seq x →
    u = (s.advance dt).setLine { l with framer := .idle, buffer := frameBytes n seq x, echo := false } →
    1 ≤ n → n ≤ 8 →
    (∀ e, n ≠ s.control.station → s.roster.entry? n = some e →
      (∀ c, x = .demand c → exec (.frameComplete dt chars) s = .next (u.setRoster (s.roster.setEntry n
        { e with latestDemand := some ⟨BitVec.ofNat 16 c.d, c.emergency, u.now⟩ }))) ∧
      (∀ c w, x = .notice c → w = BitVec.ofNat 16 c.number →
        ((w = 0 ∨ e.lastNotice = some w) → exec (.frameComplete dt chars) s = .next u) ∧
        (w ≠ 0 → e.lastNotice ≠ some w → ∃ t, exec (.frameComplete dt chars) s = .next t ∧
          t = raiseWith .peerNotice .note (some ⟨n, w.toNat⟩)
            ((u.setRoster (s.roster.setEntry n { e with lastNotice := some w })).setRecorder
              (s.recorder.log ⟨u.now, .noticeHeard n w.toNat⟩)) ∧
          (s.recorder.lastOccurrence.length = 12 → t.recorder.lastOccurrenceOf 9 = some u.now) ∧
          RaisedFrom (u.setRoster (s.roster.setEntry n { e with lastNotice := some w })) t))) ∧
    (n = s.control.station →
      (s.roster.duplicate = true → exec (.frameComplete dt chars) s =
        .next (u.setRoster { s.roster with duplicateExpiry := some (u.now + 5000#32) })) ∧
      (s.roster.duplicate = false → ∃ t, exec (.frameComplete dt chars) s = .next t ∧
        t = raiseWith .duplicateStation .note none
          (u.setRoster { s.roster with duplicate := true, duplicateExpiry := some (u.now + 5000#32) }) ∧
        (s.recorder.lastOccurrence.length = 12 → t.recorder.lastOccurrenceOf 8 = some u.now) ∧
        RaisedFrom (u.setRoster { s.roster with duplicate := true, duplicateExpiry := some (u.now + 5000#32) }) t))

/-- The roster's three expiries. Silence makes a PRESENT entry STALE after 250 ms, a STALE one LOST and a JOINING one ABSENT after
1000 ms; each change is logged, LOST raises PEER_LOST. 1000 ms of the unheard condition set UNHEARD and raise it once. 5000 ms
after the last duplicate frame DUPLICATE clears. An expiry that is not due does nothing. Model's choices: log entries 9 and 18. -/
def Obligations.SilenceUnheardAndDuplicateExpire : Prop :=
  ∀ (dt : Passage) (n : Nat) (s : State) (now : Time), Accepts s → now = (s.advance dt).now →
    (∀ e, s.roster.entry? n = some e → s.control.mode ≠ .init →
      (∀ new : Entry,
        (e.state = .present ∧ timerDue e.lastHeard 250 now = true ∧ new = { e with state := .stale }) ∨
        (e.state = .stale ∧ timerDue e.lastHeard 1000 now = true ∧
          new = { e with state := .lost, held := none, joinCount := 0 }) ∨
        (e.state = .joining ∧ timerDue e.lastHeard 1000 now = true ∧
          new = { e with state := .absent, held := none, lastSeq := none, lastHeard := none, joinCount := 0 }) →
        ∃ t, exec (.silenceExpiry dt n) s = .next t ∧ t.roster.entry? n = some new ∧
          (∀ m, m ≠ n → t.roster.entry? m = s.roster.entry? m) ∧
          t.roster.unheard = s.roster.unheard ∧ t.roster.duplicate = s.roster.duplicate ∧
          t.roster.duplicateExpiry = s.roster.duplicateExpiry ∧
          t.roster.unheardSince = (if t.unheardCondition then some (s.roster.unheardSince.getD now) else none) ∧
          ⟨now, .peerState n e.state new.state⟩ ∈ t.recorder.events ∧
          (s.recorder.lastOccurrence.length = 12 → t.recorder.lastOccurrenceOf 3 =
            if e.state = .stale then some now else s.recorder.lastOccurrenceOf 3) ∧
          RaisedFrom ((s.advance dt).setRoster t.roster) t) ∧
      ((e.state = .absent ∨ e.state = .lost ∨ e.state = .self ∨
          (e.state = .present ∧ timerDue e.lastHeard 250 now = false) ∨
          ((e.state = .stale ∨ e.state = .joining) ∧ timerDue e.lastHeard 1000 now = false)) →
        exec (.silenceExpiry dt n) s = .next (s.advance dt))) ∧
    (s.control.mode = .init ∨ s.roster.entry? n = none → exec (.silenceExpiry dt n) s = .next (s.advance dt)) ∧
    (s.control.mode ≠ .run ∨ timerDue s.roster.unheardSince 1000 now = false →
      exec (.unheardExpiry dt) s = .next (s.advance dt)) ∧
    (s.control.mode = .run → timerDue s.roster.unheardSince 1000 now = true →
      (s.roster.unheard = true → exec (.unheardExpiry dt) s =
        .next ((s.advance dt).setRoster { s.roster with unheardSince := none })) ∧
      (s.roster.unheard = false → ∃ t, exec (.unheardExpiry dt) s = .next t ∧
        t.roster = { s.roster with unheardSince := none, unheard := true } ∧
        (s.recorder.lastOccurrence.length = 12 → t.recorder.lastOccurrenceOf 10 = some now) ∧
        RaisedFrom ((s.advance dt).setRoster { s.roster with unheardSince := none, unheard := true }) t)) ∧
    (s.roster.duplicateExpiry = none → exec (.duplicateExpiry dt) s = .next (s.advance dt)) ∧
    (∀ x, s.roster.duplicateExpiry = some x →
      (elapsed (x - 5000#32) now < 5000 → exec (.duplicateExpiry dt) s = .next (s.advance dt)) ∧
      (5000 ≤ elapsed (x - 5000#32) now → exec (.duplicateExpiry dt) s =
        .next ((s.advance dt).setRoster { s.roster with duplicate := false, duplicateExpiry := none })))

/-! ### Recorder and Store Controller -/

/-- At each expiry of the snapshot timer a snapshot of the device as it stands enters the 64-entry history ring, and while FILLING
the image too. The 32nd post-trigger snapshot makes the capture COMMITTING, and its WRITE begins or waits for the operation in
flight. Model's choices: log entry 9. -/
def Obligations.SnapshotFillsHistoryAndImage : Prop :=
  ∀ (dt : Passage) (s : State), Accepts s →
    (timerDue s.recorder.snapshotTimer 100 (s.advance dt).now = false → exec (.snapshot dt) s = .next (s.advance dt)) ∧
    (timerDue s.recorder.snapshotTimer 100 (s.advance dt).now = true → s.roster.entries.length = 8 →
      ∃ (x : Snapshot) (r : Recorder), x.time = (s.advance dt).now ∧ x.mode = s.control.mode ∧
        x.dEff = s.demand.dEff ∧ x.demandState = s.demand.state ∧ x.emergency = s.demand.emergency ∧
        x.target = s.blend.target ∧ x.dTarget = s.blend.dTarget ∧ x.air = s.blend.air ∧ x.blendMode = s.blend.mode ∧
        x.dReq = s.output.dReq ∧ x.pReq = s.output.pReq ∧ x.eOwn = s.output.eOwn ∧ x.vRef = s.speed.vRef ∧
        x.pMeas1 = s.output.truck1.pMeas ∧ x.pMeas2 = s.output.truck2.pMeas ∧
        x.slide1 = s.slide.truck1.state ∧ x.factor1 = s.slide.truck1.factor ∧
        x.slide2 = s.slide.truck2.state ∧ x.factor2 = s.slide.truck2.factor ∧
        (∀ n e, n ≤ 8 → s.roster.entry? n = some e →
          (x.presentMask.getLsbD (n - 1) = true ↔ e.state = .present) ∧
          (x.staleMask.getLsbD (n - 1) = true ↔ e.state = .stale)) ∧
        r = { s.recorder with
          history := pushRing 64 x s.recorder.history, snapshotTimer := timerNext s.recorder.snapshotTimer 100 } ∧
        (s.recorder.capture ≠ .filling → exec (.snapshot dt) s = .next ((s.advance dt).setRecorder r)) ∧
        (∀ img, s.recorder.capture = .filling → s.recorder.image = some img →
          (img.post.length + 1 < 32 → exec (.snapshot dt) s =
            .next ((s.advance dt).setRecorder { r with image := some { img with post := img.post ++ [x] } })) ∧
          (32 ≤ img.post.length + 1 → exec (.snapshot dt) s =
            .next (beginCommit ((s.advance dt).setRecorder { r with
              capture := .committing, image := some { img with post := img.post ++ [x] } })))))

/-- Each raising sets its source's last occurrence time. In RUN and SAFE, POWER and MANUAL fire, and any other source when its row of
the trigger table is enabled and its qualifier, if any, has occurred within the window; a raising that does not fire does nothing
more. The firing carries the source, its class, the present time and the originator, and the POWER mark for POWER. Model's
choices: log entry 16 (the bytes of a corrupted trigger row). -/
def Obligations.RaisingFiresByTheTriggerTable : Prop :=
  ∀ (c : Source) (g : Machine.Class) (o : Option Originator) (s u : State) (row : TriggerEntry),
    u = s.setRecorder { s.recorder with
      lastOccurrence := s.recorder.lastOccurrence.set (c.codeNat - 1) (some s.now) } → row = s.params.trigger c →
    (s.control.mode.working = false → raiseWith c g o s = u) ∧
    (s.control.mode.working = true →
      (c = .power → raiseWith c g o s = fire ⟨.power, .severe, s.now, o, 0, true⟩ u) ∧
      (c = .manual → raiseWith c g o s = fire ⟨.manual, g, s.now, o, 0, false⟩ u) ∧
      (c ≠ .power → c ≠ .manual →
        (row.enabled ≠ 1 → raiseWith c g o s = u) ∧
        (row.qualifier ≠ 0 → u.recorder.lastOccurrenceOf row.qualifier = none → raiseWith c g o s = u) ∧
        (∀ since, row.qualifier ≠ 0 → u.recorder.lastOccurrenceOf row.qualifier = some since →
          row.window * 1000 < elapsed since s.now → raiseWith c g o s = u) ∧
        (row.enabled = 1 → (row.qualifier = 0 ∨ ∃ since, u.recorder.lastOccurrenceOf row.qualifier = some since ∧
            elapsed since s.now ≤ row.window * 1000) →
          raiseWith c g o s = fire ⟨c, if row.cls = 1 then .severe else .note, s.now, o, 0, false⟩ u)))

/-- A firing in IDLE opens an incident with the history ring and the events of the last 6400 ms. In FILLING it merges: an event, the
count up to 255, the class upward. A POWER firing makes the capture COMMITTING in both. SEVERE sends one NOTICE, refused outside RUN
or behind two others, unless the cause is PEER_NOTICE. In COMMITTING the firing is pending, or merges into the pending one. -/
def Obligations.FiringOpensMergesOrWaits : Prop :=
  ∀ (f : Pending) (s : State) (room : Bool), room = decide (s.control.mode = .run ∧ s.line.queue.notices.length < 2) →
    (s.recorder.capture = .idle → ∀ (severe : Bool) (t : State),
      severe = decide (f.cls = .severe ∧ f.cause ≠ .peerNotice) →
      t = (s.setRecorder { s.recorder with
          lastOpened := s.store.nextNumber
          capture := if f.power then .committing else .filling
          image := some
            { number := s.store.nextNumber, cause := f.cause, cls := f.cls, triggerTime := f.triggerTime
              openingTime := s.now, station := s.control.station, configCheck := s.configCheck
              originator := f.originator, secondary := f.merged
              flags := ⟨false, false, severe && !room, f.power, false, false⟩
              noticeEnqueued := severe, pre := s.recorder.history, post := []
              events := s.recorder.events.filter fun e => elapsed e.time s.now ≤ 6400, kept := false } }).setLine
        (if severe && room then { s.line with queue := { s.line.queue with
            notices := s.line.queue.notices ++ [⟨s.store.nextNumber, f.cause, f.cls⟩] } }
          else s.line) →
      (f.power = false → fire f s = t) ∧ (f.power = true → fire f s = beginCommit t)) ∧
    (s.recorder.capture = .filling → ∀ (img : Image) (cls : Machine.Class) (count : Nat) (severe : Bool) (r : Recorder) (t : State),
      s.recorder.image = some img → cls = (if img.cls = .severe ∨ f.cls = .severe then .severe else .note) →
      count = min 255 (img.secondary + 1) →
      severe = decide (cls = .severe ∧ img.cause ≠ .peerNotice ∧ img.noticeEnqueued = false) →
      r = { s.recorder with
        events := pushRing 32 ⟨s.now, .secondaryTrigger f.cause f.cls⟩ s.recorder.events
        capture := if f.power then .committing else .filling
        image := some { img with
          cls := cls, secondary := count, noticeEnqueued := img.noticeEnqueued || severe
          events := if img.events.length < 48 then img.events ++ [⟨s.now, .secondaryTrigger f.cause f.cls⟩]
            else img.events
          flags := { img.flags with
            eventsTruncated := img.flags.eventsTruncated || decide (48 ≤ img.events.length)
            noticeNotSent := img.flags.noticeNotSent || (severe && !room)
            power := img.flags.power || f.power } } } →
      t = (s.setRecorder r).setLine (if severe && room then { s.line with queue := { s.line.queue with
          notices := s.line.queue.notices ++ [⟨img.number, img.cause, cls⟩] } } else s.line) →
      (f.power = false → fire f s = t) ∧ (f.power = true → fire f s = beginCommit t)) ∧
    (s.recorder.capture = .committing →
      (s.recorder.pendingTrigger = none → fire f s = s.setRecorder { s.recorder with pendingTrigger := some f }) ∧
      (∀ p, s.recorder.pendingTrigger = some p → fire f s = s.setRecorder { s.recorder with
        events := pushRing 32 ⟨s.now, .secondaryTrigger f.cause f.cls⟩ s.recorder.events
        pendingTrigger := some { p with
          merged := min 255 (p.merged + 1), power := p.power || f.power
          cls := if p.cls = .severe ∨ f.cls = .severe then .severe else .note } }))

/-- A commit that finds the store idle begins its WRITE at once, in the lowest FREE slot, else the lowest DAMAGED one, else the
oldest STORED one, never in a LOCKED one; with at most 12 slots LOCKED it finds one. It assigns the next incident number, or the
number of an image kept through a hard reset, and decides the lock: SEVERE with fewer than 12 slots LOCKED. With an operation in
flight, or not COMMITTING, nothing begins. Model's choices: log entries 19 and 29 (what a slot in WRITING holds).
-/
def Obligations.WriteTakesFreeThenDamagedThenOldest : Prop :=
  ∀ s : State,
    (s.recorder.capture ≠ .committing ∨ s.recorder.image = none ∨ s.store.op ≠ .none → beginCommit s = s) ∧
    (s.recorder.capture = .committing → s.recorder.image.isSome = true → s.store.op = .none →
      s.store.slots.length = 16 → s.store.lockedCount ≤ 12 →
      (∀ x ∈ s.store.slots, x.state ≠ .writing ∧ x.state ≠ .erasing) →
      4 ≤ s.store.slots.countP (fun x => x.state == .free || x.state == .damaged || x.state == .stored) ∧
      ∃ n x l r, s.store.slot? n = some x ∧ (x.state = .free ∨ x.state = .damaged ∨ x.state = .stored) ∧
        (beginCommit s).store.op = .write n l r) ∧
    ∀ (img : Image) (n : Nat) (x : Slot) (number : Nat) (distance : Slot → Nat), s.recorder.capture = .committing →
      s.recorder.image = some img → s.store.op = .none → s.store.slot? n = some x →
      number = (if img.kept then img.number else s.store.nextNumber) →
      (∀ y h, y.header = some h → 1 ≤ h.number → h.number ≤ 65535 →
        (distance y : Int) = ((s.store.nextNumber : Int) - h.number - 1) % 65535 + 1) →
      ((x.state = .free ∧ ∀ m y, m < n → s.store.slot? m = some y → y.state ≠ .free) ∨
        (x.state = .damaged ∧ (∀ m y, s.store.slot? m = some y → y.state ≠ .free) ∧
          ∀ m y, m < n → s.store.slot? m = some y → y.state ≠ .damaged) ∨
        (x.state = .stored ∧ (∀ m y, s.store.slot? m = some y → y.state ≠ .free ∧ y.state ≠ .damaged) ∧
          (∀ m y, s.store.slot? m = some y → y.state = .stored →
            ∃ h, y.header = some h ∧ 1 ≤ h.number ∧ h.number ≤ 65535) ∧
          ∀ m y, s.store.slot? m = some y → y.state = .stored → m ≠ n →
            distance y < distance x ∨ (n < m ∧ distance y = distance x))) →
      beginCommit s = s.setStore { s.store with
        slots := s.store.slots.set (n - 1)
          { state := .writing, header := none, snapshots := [], events := [], mark := some .unlocked
            tag := true, clear := false, writing := number }
        nextNumber := if number = 65535 then 1 else number + 1
        op := .write n (decide (img.cls = .severe ∧ s.store.lockedCount < 12))
          (decide (img.cls = .severe ∧ 12 ≤ s.store.lockedCount)) }

/-- The completions. A WRITE leaves its slot STORED or LOCKED with the whole header, its result DONE or VERIFY_FAILED with store
error, the image absent, and opens the pending trigger's incident or leaves the capture IDLE. An ERASE leaves its slot FREE or
DAMAGED; the lock mark read back decides a LOCK's or UNLOCK's slot; a waiting commit then begins. With another operation nothing
happens. Model's choices: log entries 10, 14 and 22. -/
def Obligations.CompletionsLeaveTheSlotAsReadBack : Prop :=
  ∀ (dt : Passage) (rb : ReadBack) (clear : Bool) (m : MarkReading) (s : State), Accepts s →
    (∀ n lock refused img x ok, s.store.op = .write n lock refused → s.recorder.image = some img →
      s.store.slot? n = some x → ok = decide (rb = .matched) →
      ∃ (y : Slot) (v : State), y.state = (if lock then .locked else .stored) ∧ y.tag = false ∧
        y.mark = some (if lock then .locked else .unlocked) ∧
        y.header = some
          { number := x.writing, cause := img.cause, cls := img.cls, triggerTime := img.triggerTime
            openingTime := img.openingTime, station := img.station, configCheck := img.configCheck
            originator := img.originator, secondary := img.secondary
            flags := { img.flags with lockRefused := refused, storeError := !ok }
            preCount := img.pre.length, postCount := img.post.length, eventCount := img.events.length } ∧
        (ok = true → y.snapshots = (img.pre ++ img.post).flatMap Snapshot.bytes ∧
          y.events = img.events.flatMap Event.bytes) ∧
        v = ((s.advance dt).setStore { s.store with
            slots := s.store.slots.set (n - 1) y, op := .none, lastResult := some ⟨.write, n, ok⟩ }).setRecorder
          { s.recorder with image := none, pendingTrigger := none, capture := .idle } ∧
        (s.recorder.pendingTrigger = none → exec (.writeComplete dt rb) s = .next v) ∧
        (∀ p, s.recorder.pendingTrigger = some p → exec (.writeComplete dt rb) s = .next (fire p v))) ∧
    (∀ n, s.store.op = .erase n → ∃ y : Slot,
      (clear = true → y.state = .free ∧ y.clear = true) ∧ (clear = false → y.state = .damaged) ∧
      y.header = none ∧ y.tag = false ∧
      exec (.eraseComplete dt clear) s = .next (beginCommit ((s.advance dt).setStore { s.store with
        slots := s.store.slots.set (n - 1) y, op := .none, lastResult := some ⟨.erase, n, clear⟩ }))) ∧
    (∀ n x, s.store.slot? n = some x →
      (s.store.op = .lock n → exec (.lockComplete dt m) s =
        .next (beginCommit ((s.advance dt).setStore { s.store with
          slots := s.store.slots.set (n - 1) { x with
            state := if m = .unlocked then .stored else .locked, mark := some m }
          op := .none, lastResult := some ⟨.lock, n, decide (m = .locked)⟩ }))) ∧
      (s.store.op = .unlock n → exec (.unlockComplete dt m) s =
        .next (beginCommit ((s.advance dt).setStore { s.store with
          slots := s.store.slots.set (n - 1) { x with
            state := if m = .unlocked then .stored else .locked, mark := some m }
          op := .none, lastResult := some ⟨.unlock, n, decide (m = .unlocked)⟩ })))) ∧
    ((∀ n l r, s.store.op ≠ .write n l r) → exec (.writeComplete dt rb) s = .next (s.advance dt)) ∧
    ((∀ n, s.store.op ≠ .erase n) → exec (.eraseComplete dt clear) s = .next (s.advance dt)) ∧
    ((∀ n, s.store.op ≠ .lock n) → exec (.lockComplete dt m) s = .next (s.advance dt)) ∧
    ((∀ n, s.store.op ≠ .unlock n) → exec (.unlockComplete dt m) s = .next (s.advance dt))

/-! ### Service Port -/

/-- Select asserted makes an IDLE framer RECEIVING with an empty buffer; select released ends every transaction and leaves the
framer IDLE with no response and data out idle. A complete command is taken by a RECEIVING framer alone, that has received its
beginning. A code that is none of the twelve is answered UNKNOWN, a parameter length that is not the command's FORMAT, each with the
result code alone and with no effect on any block. Model's choices: log entries 2 and 6. -/
def Obligations.TransactionsBeginEndAndRefuse : Prop :=
  ∀ (dt : Passage) (s : State), Accepts s →
    (exec (.selectAsserted dt) s = .next (((s.advance dt).setPins { s.pins with select := true }).setPort
      (if s.port.framer = .idle then ⟨.receiving, [], 0, 0, none, true⟩ else (s.advance dt).port))) ∧
    exec (.selectReleased dt) s = .next (((s.advance dt).setPins { s.pins with select := false }).setPort
      ⟨.idle, [], 0, 0, none, true⟩) ∧
    (∀ code params, code.toNat = 0 ∨ 12 < code.toNat →
      (s.hears dt code params → exec (.unknownCommand dt code params) s = .next (s.answered dt code params [2])) ∧
      (¬ s.hears dt code params → exec (.unknownCommand dt code params) s = .next (s.advance dt))) ∧
    ∀ (c : Instr) (code : Byte) (params : List Byte) (want : Nat) (pins : Pins),
      (c = .getStatus dt params ∧ code = 1 ∧ want = 0 ∧ pins = s.pins) ∨
      (c = .getRoster dt params ∧ code = 2 ∧ want = 0 ∧ pins = s.pins) ∨
      (c = .loadConfig dt params ∧ code = 3 ∧ want = 112 ∧ pins = s.pins) ∨
      (c = .start dt params ∧ code = 4 ∧ want = 0 ∧ pins = s.pins) ∨
      (c = .getDirectory dt params ∧ code = 5 ∧ want = 0 ∧ pins = s.pins) ∨
      (c = .readIncident dt params ∧ code = 6 ∧ want = 3 ∧ pins = s.pins) ∨
      (c = .readEvents dt params ∧ code = 7 ∧ want = 3 ∧ pins = s.pins) ∨
      (c = .readHistory dt params ∧ code = 8 ∧ want = 2 ∧ pins = s.pins) ∨
      (c = .lockSlot dt params ∧ code = 9 ∧ want = 1 ∧ pins = s.pins) ∨
      (∃ key, c = .unlockSlot dt params key ∧ code = 10 ∧ want = 1 ∧ pins = { s.pins with maintenance := key }) ∨
      (c = .eraseSlot dt params ∧ code = 11 ∧ want = 1 ∧ pins = s.pins) ∨
      (c = .mark dt params ∧ code = 12 ∧ want = 1 ∧ pins = s.pins) →
      (¬ s.hears dt code params → exec c s = .next ((s.setPins pins).advance dt)) ∧
      (s.hears dt code params → params.length ≠ want →
        exec c s = .next ((s.setPins pins).answered dt code params [3]))

/-- The reading commands return the device as it stands and change nothing but the port: GET_STATUS and GET_ROSTER in every mode,
GET_DIRECTORY, READ_INCIDENT and READ_EVENTS unless the store is held, READ_HISTORY from the live ring, each read cut at the last
item and refused by its own tests in their order. Model's choices: log entries 6, 30 and 31 (the first index and the number
returned are one byte each). -/
def Obligations.ReadsAnswerFromTheMoment : Prop :=
  ∀ (dt : Passage) (s : State) (held : Prop), Accepts s →
    (held ↔ s.store.op = .scan ∨ (s.control.mode = .safe ∧ s.recorder.capture = .committing ∧
      ∃ img, s.recorder.image = some img ∧ img.flags.power = true)) →
    (s.hears dt 0x01 [] → ∃ flags : Byte, flags.getLsbD 0 = s.roster.unheard ∧ flags.getLsbD 1 = s.roster.duplicate ∧
      flags.getLsbD 2 = s.recorder.pendingTrigger.isSome ∧ (flags.getLsbD 3 = true ↔ s.store.op ≠ .none) ∧
      exec (.getStatus dt []) s = .next (s.answered dt 0x01 []
        ([0, s.control.mode.code, byteOf s.control.station, byteOf s.control.axleCount, s.demand.state.code,
          s.demand.emergency.code, s.blend.mode.code, flags, s.recorder.capture.code, s.store.op.code,
          byteOf s.store.op.slot] ++
        (match s.store.lastResult with
        | none => [0, 0, 0]
        | some r => [r.kind.code, byteOf r.slot, if r.done then 1 else 2]) ++
        (if s.store.op = .scan then [0, 0, 0] else byteOf s.store.lockedCount :: natBytes2 s.store.nextNumber) ++
        natBytes2 s.recorder.lastOpened))) ∧
    (s.hears dt 0x02 [] → exec (.getRoster dt []) s = .next (s.answered dt 0x02 []
      (0 :: (s.roster.entries.zipIdx 1).flatMap fun (e, n) => rosterEntryBytes n e))) ∧
    (s.hears dt 0x05 [] → held → exec (.getDirectory dt []) s = .next (s.answered dt 0x05 [] [1])) ∧
    (s.hears dt 0x05 [] → ¬ held → exec (.getDirectory dt []) s = .next (s.answered dt 0x05 []
      (0 :: (s.store.slots.zipIdx 1).flatMap fun (x, n) => directoryEntryBytes n x))) ∧
    (∀ first extra : Byte, s.hears dt 0x08 [first, extra] →
      (15 < extra.toNat ∨ s.recorder.history.length ≤ first.toNat →
        exec (.readHistory dt [first, extra]) s = .next (s.answered dt 0x08 [first, extra] [4])) ∧
      (extra.toNat ≤ 15 → first.toNat < s.recorder.history.length → ∃ xs : List Snapshot,
        xs = (s.recorder.history.drop first.toNat).take (extra.toNat + 1) ∧
        exec (.readHistory dt [first, extra]) s = .next (s.answered dt 0x08 [first, extra]
          ([0, first, byteOf xs.length] ++ xs.flatMap Snapshot.bytes)))) ∧
    ∀ (c : Instr) (code n first extra : Byte) (len : Nat) (total : Header → Nat) (items : Slot → List Byte),
      (c = .readIncident dt [n, first, extra] ∧ code = 6 ∧ len = 34 ∧
        total = (fun h => h.preCount + h.postCount) ∧ items = Slot.snapshots) ∨
      (c = .readEvents dt [n, first, extra] ∧ code = 7 ∧ len = 9 ∧ total = Header.eventCount ∧ items = Slot.events) →
      s.hears dt code [n, first, extra] →
      (s.store.slot? n.toNat = none → exec c s = .next (s.answered dt code [n, first, extra] [4])) ∧
      ∀ x, s.store.slot? n.toNat = some x →
        (held → exec c s = .next (s.answered dt code [n, first, extra] [1])) ∧
        (¬ held → 15 < extra.toNat → exec c s = .next (s.answered dt code [n, first, extra] [4])) ∧
        (¬ held → extra.toNat ≤ 15 → x.state ≠ .stored → x.state ≠ .locked →
          exec c s = .next (s.answered dt code [n, first, extra] [5])) ∧
        ∀ h, ¬ held → extra.toNat ≤ 15 → x.state = .stored ∨ x.state = .locked → x.header = some h →
          (total h ≤ first.toNat → exec c s = .next (s.answered dt code [n, first, extra] [4])) ∧
          (first.toNat < total h → ∀ k, k = min (extra.toNat + 1) (total h - first.toNat) →
            exec c s = .next (s.answered dt code [n, first, extra] ([0] ++ h.bytes ++ [first, byteOf k] ++
              ((items x).drop (len * first.toNat)).take (len * k))))

/-- LOCK_SLOT, UNLOCK_SLOT and ERASE_SLOT are tested in the order of R176 and R156, a refusal changing nothing but the port; an
accepted one begins its operation at once. MARK tests its class and the mode, then raises MANUAL with the class, and returns the
capture state and the pending flag after it. Model's choices: log entries 6, 29 (the slot at the beginning of an ERASE) and 30
(the pending flag's byte). -/
def Obligations.SlotRequestsAndMarksAreTestedInOrder : Prop :=
  ∀ (dt : Passage) (s : State) (held : Prop), Accepts s →
    (held ↔ s.store.op = .scan ∨ (s.control.mode = .safe ∧ s.recorder.capture = .committing ∧
      ∃ img, s.recorder.image = some img ∧ img.flags.power = true)) →
    (∀ (n : Byte) (c : Instr) (code : Byte) (u : State) (key : Bool),
      (c = .lockSlot dt [n] ∧ code = 9 ∧ u = s) ∨
      (c = .unlockSlot dt [n] key ∧ code = 10 ∧ u = s.setPins { s.pins with maintenance := key }) ∨
      (c = .eraseSlot dt [n] ∧ code = 11 ∧ u = s) → s.hears dt code [n] →
      (s.store.slot? n.toNat = none → exec c s = .next (u.answered dt code [n] [4])) ∧
      ∀ x, s.store.slot? n.toNat = some x →
        (held ∨ s.store.op ≠ .none → exec c s = .next (u.answered dt code [n] [1])) ∧
        (¬ held → s.store.op = .none →
          (code ≠ 10 → x.state = .locked → exec c s = .next (u.answered dt code [n] [6])) ∧
          (code = 11 → x.state ≠ .locked → x.state ≠ .stored → x.state ≠ .damaged →
            exec c s = .next (u.answered dt code [n] [5])) ∧
          (code = 9 → x.state ≠ .locked → x.state ≠ .stored → exec c s = .next (u.answered dt code [n] [5])) ∧
          (code = 9 → x.state = .stored → 12 ≤ s.store.lockedCount →
            exec c s = .next (u.answered dt code [n] [8])) ∧
          (code = 10 → x.state ≠ .locked → exec c s = .next (u.answered dt code [n] [5])) ∧
          (code = 10 → x.state = .locked → key = false → exec c s = .next (u.answered dt code [n] [7])) ∧
          (code = 11 → (x.state = .stored ∨ x.state = .damaged) → exec c s = .next ((u.setStore { s.store with
            slots := s.store.slots.set (n.toNat - 1)
              { x with state := .erasing, header := none, tag := true, clear := false }
            op := .erase n.toNat }).answered dt code [n] [0])) ∧
          (code = 9 → x.state = .stored → s.store.lockedCount < 12 → exec c s = .next ((u.setStore { s.store with
            slots := s.store.slots.set (n.toNat - 1) { x with mark := none }
            op := .lock n.toNat }).answered dt code [n] [0])) ∧
          (code = 10 → x.state = .locked → key = true → exec c s = .next ((u.setStore { s.store with
            slots := s.store.slots.set (n.toNat - 1) { x with mark := none }
            op := .unlock n.toNat }).answered dt code [n] [0])))) ∧
    (∀ b : Byte, s.hears dt 0x0C [b] → 1 < b.toNat → exec (.mark dt [b]) s = .next (s.answered dt 0x0C [b] [4])) ∧
    (∀ b : Byte, s.hears dt 0x0C [b] → b.toNat ≤ 1 →
      (s.control.mode.working = false → exec (.mark dt [b]) s = .next (s.answered dt 0x0C [b] [5])) ∧
      (s.control.mode.working = true → ∃ v : State,
        v = raiseWith .manual (if b = 1 then .severe else .note) none (s.advance dt) ∧
        exec (.mark dt [b]) s = .next (v.setPort (s.answered dt 0x0C [b]
          [0, v.recorder.capture.code, if v.recorder.pendingTrigger.isSome then 1 else 0]).port)))
end

