-- ==== Sys2Proof/Laws/Framer.lean ====
section
/-!
SUPPORT. What the receive framer of the consist line does with what it hears.
-/

namespace Sys2Proof.Machine

open Sys2Proof

/-- `m` is `l` but for the framer, its buffer and its echo mark. -/
def SameButFramer (l m : LineController) : Prop :=
  m = { l with framer := m.framer, buffer := m.buffer, echo := m.echo }

theorem receive_frame (own : Bool) (l : LineController) : SameButFramer l (l.receive own) := by
  unfold SameButFramer LineController.receive; split <;> rfl

theorem collect_frame (b : Byte) (l : LineController) : SameButFramer l (l.collect b) := by
  unfold SameButFramer LineController.collect; repeat' split
  all_goals rfl

theorem SameButFramer.trans {l m n : LineController} (h : SameButFramer l m) (k : SameButFramer m n) : SameButFramer l n := by
  unfold SameButFramer at *
  rw [k, h]

theorem hear_frame (l : LineController) (e : LineEvent) : SameButFramer l (l.hear e) := by
  cases e with
  | startBit => exact receive_frame _ _
  | character b => exact (receive_frame false l).trans (collect_frame b _)

@[simp] theorem heard_nil (l : LineController) : l.heard [] = l := rfl

theorem heard_cons (e : LineEvent) (es : List LineEvent) (l : LineController) : l.heard (e :: es) = (l.hear e).heard es := rfl

theorem heard_append (xs ys : List LineEvent) (l : LineController) : l.heard (xs ++ ys) = (l.heard xs).heard ys := by
  simp [LineController.heard, List.foldl_append]

theorem heard_frame (es : List LineEvent) (l : LineController) : SameButFramer l (l.heard es) := by
  induction es generalizing l with
  | nil => rfl
  | cons e es ih => exact (hear_frame l e).trans (ih _)

/-- The fields that the framer leaves alone. -/
theorem SameButFramer.fields {l m : LineController} (h : SameButFramer l m) :
    m.queue = l.queue ∧ m.onAir = l.onAir ∧ m.attempts = l.attempts ∧ m.idleMicros = l.idleMicros ∧
    m.nextReportSeq = l.nextReportSeq ∧ m.nextDemandSeq = l.nextDemandSeq ∧ m.nextNoticeSeq = l.nextNoticeSeq ∧
    m.reportTimer = l.reportTimer := by
  unfold SameButFramer at h
  rw [h]
  and_intros <;> rfl

/-- Of the line, what the framer does in a passage changes the framer, its buffer and its echo mark alone. -/
theorem framed_frame (mode : Mode) (own : Nat) (now : Time) (traffic : List LineEvent) (l : LineController) :
    SameButFramer l (l.framed mode own now traffic) := by
  unfold LineController.framed
  split
  · rfl
  · split
    · rfl
    · exact heard_frame traffic l

/-- An IGNORING framer takes nothing from the line (R99). -/
theorem heard_ignoring {l : LineController} (h : l.framer = .ignoring) (es : List LineEvent) : l.heard es = l := by
  induction es with
  | nil => rfl
  | cons e es ih =>
    have : l.hear e = l := by
      cases e <;> simp [LineController.hear, LineController.receive, LineController.collect, h]
    rw [heard_cons, this, ih]

/-- The characters that follow in a frame are added to its buffer (R99). -/
theorem heard_characters {l : LineController} (h : l.framer = .receiving) (bytes : List Byte)
    (hm : l.buffer ≠ [] ∨ ∀ b, bytes.head? = some b → b = startMark) :
    l.heard (bytes.map .character) = { l with buffer := l.buffer ++ bytes } := by
  induction bytes generalizing l with
  | nil => simp
  | cons b bs ih =>
    have hb : (l.buffer.isEmpty && b != startMark) = false := by
      obtain hm | hm := hm
      · cases hl : l.buffer <;> simp_all
      · simp [hm b rfl]
    have : l.hear (.character b) = { l with buffer := l.buffer ++ [b] } := by
      simp [LineController.hear, LineController.receive, LineController.collect, h, hb]
    rw [List.map_cons, heard_cons, this, ih (by simpa using h) (.inl (by simp))]
    simp

/-- A frame that begins with a start mark, heard from IDLE: it is received under a clear echo mark (R99, R111). -/
theorem heard_whole {l : LineController} (h : l.framer = .idle) (bytes : List Byte) :
    l.heard ((startMark :: bytes).map .character) =
      { l with framer := .receiving, buffer := startMark :: bytes, echo := false } := by
  have : l.hear (.character startMark) = { l with framer := .receiving, buffer := [startMark], echo := false } := by
    simp [LineController.hear, LineController.receive, LineController.collect, h]
  rw [List.map_cons, heard_cons, this, heard_characters rfl bytes (.inl (by simp))]
  simp

end Sys2Proof.Machine
end

