-- ==== Sys2Proof/Laws/State.lean ====
section
/-!
SUPPORT. One lemma per field of the state per update: reading a block after a block was replaced. All true by rfl.
-/

namespace Sys2Proof.Machine

@[simp] theorem State.setPending_pending (s : State) (v) : (s.setPending v).pending = v := rfl
@[simp] theorem State.setPending_clock (s : State) (v) : (s.setPending v).clock = s.clock := rfl
@[simp] theorem State.setPending_pins (s : State) (v) : (s.setPending v).pins = s.pins := rfl
@[simp] theorem State.setPending_demand (s : State) (v) : (s.setPending v).demand = s.demand := rfl
@[simp] theorem State.setPending_blend (s : State) (v) : (s.setPending v).blend = s.blend := rfl
@[simp] theorem State.setPending_speed (s : State) (v) : (s.setPending v).speed = s.speed := rfl
@[simp] theorem State.setPending_slide (s : State) (v) : (s.setPending v).slide = s.slide := rfl
@[simp] theorem State.setPending_output (s : State) (v) : (s.setPending v).output = s.output := rfl
@[simp] theorem State.setPending_line (s : State) (v) : (s.setPending v).line = s.line := rfl
@[simp] theorem State.setPending_roster (s : State) (v) : (s.setPending v).roster = s.roster := rfl
@[simp] theorem State.setPending_recorder (s : State) (v) : (s.setPending v).recorder = s.recorder := rfl
@[simp] theorem State.setPending_store (s : State) (v) : (s.setPending v).store = s.store := rfl
@[simp] theorem State.setPending_port (s : State) (v) : (s.setPending v).port = s.port := rfl
@[simp] theorem State.setPending_control (s : State) (v) : (s.setPending v).control = s.control := rfl
@[simp] theorem State.setPending_self (s : State) : s.setPending s.pending = s := rfl
@[simp] theorem State.setPending_setPending (s : State) (v w) : (s.setPending v).setPending w = s.setPending w := rfl

@[simp] theorem State.setClock_pending (s : State) (v) : (s.setClock v).pending = s.pending := rfl
@[simp] theorem State.setClock_clock (s : State) (v) : (s.setClock v).clock = v := rfl
@[simp] theorem State.setClock_pins (s : State) (v) : (s.setClock v).pins = s.pins := rfl
@[simp] theorem State.setClock_demand (s : State) (v) : (s.setClock v).demand = s.demand := rfl
@[simp] theorem State.setClock_blend (s : State) (v) : (s.setClock v).blend = s.blend := rfl
@[simp] theorem State.setClock_speed (s : State) (v) : (s.setClock v).speed = s.speed := rfl
@[simp] theorem State.setClock_slide (s : State) (v) : (s.setClock v).slide = s.slide := rfl
@[simp] theorem State.setClock_output (s : State) (v) : (s.setClock v).output = s.output := rfl
@[simp] theorem State.setClock_line (s : State) (v) : (s.setClock v).line = s.line := rfl
@[simp] theorem State.setClock_roster (s : State) (v) : (s.setClock v).roster = s.roster := rfl
@[simp] theorem State.setClock_recorder (s : State) (v) : (s.setClock v).recorder = s.recorder := rfl
@[simp] theorem State.setClock_store (s : State) (v) : (s.setClock v).store = s.store := rfl
@[simp] theorem State.setClock_port (s : State) (v) : (s.setClock v).port = s.port := rfl
@[simp] theorem State.setClock_control (s : State) (v) : (s.setClock v).control = s.control := rfl
@[simp] theorem State.setClock_self (s : State) : s.setClock s.clock = s := rfl
@[simp] theorem State.setClock_setClock (s : State) (v w) : (s.setClock v).setClock w = s.setClock w := rfl

@[simp] theorem State.setPins_pending (s : State) (v) : (s.setPins v).pending = s.pending := rfl
@[simp] theorem State.setPins_clock (s : State) (v) : (s.setPins v).clock = s.clock := rfl
@[simp] theorem State.setPins_pins (s : State) (v) : (s.setPins v).pins = v := rfl
@[simp] theorem State.setPins_demand (s : State) (v) : (s.setPins v).demand = s.demand := rfl
@[simp] theorem State.setPins_blend (s : State) (v) : (s.setPins v).blend = s.blend := rfl
@[simp] theorem State.setPins_speed (s : State) (v) : (s.setPins v).speed = s.speed := rfl
@[simp] theorem State.setPins_slide (s : State) (v) : (s.setPins v).slide = s.slide := rfl
@[simp] theorem State.setPins_output (s : State) (v) : (s.setPins v).output = s.output := rfl
@[simp] theorem State.setPins_line (s : State) (v) : (s.setPins v).line = s.line := rfl
@[simp] theorem State.setPins_roster (s : State) (v) : (s.setPins v).roster = s.roster := rfl
@[simp] theorem State.setPins_recorder (s : State) (v) : (s.setPins v).recorder = s.recorder := rfl
@[simp] theorem State.setPins_store (s : State) (v) : (s.setPins v).store = s.store := rfl
@[simp] theorem State.setPins_port (s : State) (v) : (s.setPins v).port = s.port := rfl
@[simp] theorem State.setPins_control (s : State) (v) : (s.setPins v).control = s.control := rfl
@[simp] theorem State.setPins_self (s : State) : s.setPins s.pins = s := rfl
@[simp] theorem State.setPins_setPins (s : State) (v w) : (s.setPins v).setPins w = s.setPins w := rfl

@[simp] theorem State.setDemand_pending (s : State) (v) : (s.setDemand v).pending = s.pending := rfl
@[simp] theorem State.setDemand_clock (s : State) (v) : (s.setDemand v).clock = s.clock := rfl
@[simp] theorem State.setDemand_pins (s : State) (v) : (s.setDemand v).pins = s.pins := rfl
@[simp] theorem State.setDemand_demand (s : State) (v) : (s.setDemand v).demand = v := rfl
@[simp] theorem State.setDemand_blend (s : State) (v) : (s.setDemand v).blend = s.blend := rfl
@[simp] theorem State.setDemand_speed (s : State) (v) : (s.setDemand v).speed = s.speed := rfl
@[simp] theorem State.setDemand_slide (s : State) (v) : (s.setDemand v).slide = s.slide := rfl
@[simp] theorem State.setDemand_output (s : State) (v) : (s.setDemand v).output = s.output := rfl
@[simp] theorem State.setDemand_line (s : State) (v) : (s.setDemand v).line = s.line := rfl
@[simp] theorem State.setDemand_roster (s : State) (v) : (s.setDemand v).roster = s.roster := rfl
@[simp] theorem State.setDemand_recorder (s : State) (v) : (s.setDemand v).recorder = s.recorder := rfl
@[simp] theorem State.setDemand_store (s : State) (v) : (s.setDemand v).store = s.store := rfl
@[simp] theorem State.setDemand_port (s : State) (v) : (s.setDemand v).port = s.port := rfl
@[simp] theorem State.setDemand_control (s : State) (v) : (s.setDemand v).control = s.control := rfl
@[simp] theorem State.setDemand_self (s : State) : s.setDemand s.demand = s := rfl
@[simp] theorem State.setDemand_setDemand (s : State) (v w) : (s.setDemand v).setDemand w = s.setDemand w := rfl

@[simp] theorem State.setBlend_pending (s : State) (v) : (s.setBlend v).pending = s.pending := rfl
@[simp] theorem State.setBlend_clock (s : State) (v) : (s.setBlend v).clock = s.clock := rfl
@[simp] theorem State.setBlend_pins (s : State) (v) : (s.setBlend v).pins = s.pins := rfl
@[simp] theorem State.setBlend_demand (s : State) (v) : (s.setBlend v).demand = s.demand := rfl
@[simp] theorem State.setBlend_blend (s : State) (v) : (s.setBlend v).blend = v := rfl
@[simp] theorem State.setBlend_speed (s : State) (v) : (s.setBlend v).speed = s.speed := rfl
@[simp] theorem State.setBlend_slide (s : State) (v) : (s.setBlend v).slide = s.slide := rfl
@[simp] theorem State.setBlend_output (s : State) (v) : (s.setBlend v).output = s.output := rfl
@[simp] theorem State.setBlend_line (s : State) (v) : (s.setBlend v).line = s.line := rfl
@[simp] theorem State.setBlend_roster (s : State) (v) : (s.setBlend v).roster = s.roster := rfl
@[simp] theorem State.setBlend_recorder (s : State) (v) : (s.setBlend v).recorder = s.recorder := rfl
@[simp] theorem State.setBlend_store (s : State) (v) : (s.setBlend v).store = s.store := rfl
@[simp] theorem State.setBlend_port (s : State) (v) : (s.setBlend v).port = s.port := rfl
@[simp] theorem State.setBlend_control (s : State) (v) : (s.setBlend v).control = s.control := rfl
@[simp] theorem State.setBlend_self (s : State) : s.setBlend s.blend = s := rfl
@[simp] theorem State.setBlend_setBlend (s : State) (v w) : (s.setBlend v).setBlend w = s.setBlend w := rfl

@[simp] theorem State.setSpeed_pending (s : State) (v) : (s.setSpeed v).pending = s.pending := rfl
@[simp] theorem State.setSpeed_clock (s : State) (v) : (s.setSpeed v).clock = s.clock := rfl
@[simp] theorem State.setSpeed_pins (s : State) (v) : (s.setSpeed v).pins = s.pins := rfl
@[simp] theorem State.setSpeed_demand (s : State) (v) : (s.setSpeed v).demand = s.demand := rfl
@[simp] theorem State.setSpeed_blend (s : State) (v) : (s.setSpeed v).blend = s.blend := rfl
@[simp] theorem State.setSpeed_speed (s : State) (v) : (s.setSpeed v).speed = v := rfl
@[simp] theorem State.setSpeed_slide (s : State) (v) : (s.setSpeed v).slide = s.slide := rfl
@[simp] theorem State.setSpeed_output (s : State) (v) : (s.setSpeed v).output = s.output := rfl
@[simp] theorem State.setSpeed_line (s : State) (v) : (s.setSpeed v).line = s.line := rfl
@[simp] theorem State.setSpeed_roster (s : State) (v) : (s.setSpeed v).roster = s.roster := rfl
@[simp] theorem State.setSpeed_recorder (s : State) (v) : (s.setSpeed v).recorder = s.recorder := rfl
@[simp] theorem State.setSpeed_store (s : State) (v) : (s.setSpeed v).store = s.store := rfl
@[simp] theorem State.setSpeed_port (s : State) (v) : (s.setSpeed v).port = s.port := rfl
@[simp] theorem State.setSpeed_control (s : State) (v) : (s.setSpeed v).control = s.control := rfl
@[simp] theorem State.setSpeed_self (s : State) : s.setSpeed s.speed = s := rfl
@[simp] theorem State.setSpeed_setSpeed (s : State) (v w) : (s.setSpeed v).setSpeed w = s.setSpeed w := rfl

@[simp] theorem State.setSlide_pending (s : State) (v) : (s.setSlide v).pending = s.pending := rfl
@[simp] theorem State.setSlide_clock (s : State) (v) : (s.setSlide v).clock = s.clock := rfl
@[simp] theorem State.setSlide_pins (s : State) (v) : (s.setSlide v).pins = s.pins := rfl
@[simp] theorem State.setSlide_demand (s : State) (v) : (s.setSlide v).demand = s.demand := rfl
@[simp] theorem State.setSlide_blend (s : State) (v) : (s.setSlide v).blend = s.blend := rfl
@[simp] theorem State.setSlide_speed (s : State) (v) : (s.setSlide v).speed = s.speed := rfl
@[simp] theorem State.setSlide_slide (s : State) (v) : (s.setSlide v).slide = v := rfl
@[simp] theorem State.setSlide_output (s : State) (v) : (s.setSlide v).output = s.output := rfl
@[simp] theorem State.setSlide_line (s : State) (v) : (s.setSlide v).line = s.line := rfl
@[simp] theorem State.setSlide_roster (s : State) (v) : (s.setSlide v).roster = s.roster := rfl
@[simp] theorem State.setSlide_recorder (s : State) (v) : (s.setSlide v).recorder = s.recorder := rfl
@[simp] theorem State.setSlide_store (s : State) (v) : (s.setSlide v).store = s.store := rfl
@[simp] theorem State.setSlide_port (s : State) (v) : (s.setSlide v).port = s.port := rfl
@[simp] theorem State.setSlide_control (s : State) (v) : (s.setSlide v).control = s.control := rfl
@[simp] theorem State.setSlide_self (s : State) : s.setSlide s.slide = s := rfl
@[simp] theorem State.setSlide_setSlide (s : State) (v w) : (s.setSlide v).setSlide w = s.setSlide w := rfl

@[simp] theorem State.setOutput_pending (s : State) (v) : (s.setOutput v).pending = s.pending := rfl
@[simp] theorem State.setOutput_clock (s : State) (v) : (s.setOutput v).clock = s.clock := rfl
@[simp] theorem State.setOutput_pins (s : State) (v) : (s.setOutput v).pins = s.pins := rfl
@[simp] theorem State.setOutput_demand (s : State) (v) : (s.setOutput v).demand = s.demand := rfl
@[simp] theorem State.setOutput_blend (s : State) (v) : (s.setOutput v).blend = s.blend := rfl
@[simp] theorem State.setOutput_speed (s : State) (v) : (s.setOutput v).speed = s.speed := rfl
@[simp] theorem State.setOutput_slide (s : State) (v) : (s.setOutput v).slide = s.slide := rfl
@[simp] theorem State.setOutput_output (s : State) (v) : (s.setOutput v).output = v := rfl
@[simp] theorem State.setOutput_line (s : State) (v) : (s.setOutput v).line = s.line := rfl
@[simp] theorem State.setOutput_roster (s : State) (v) : (s.setOutput v).roster = s.roster := rfl
@[simp] theorem State.setOutput_recorder (s : State) (v) : (s.setOutput v).recorder = s.recorder := rfl
@[simp] theorem State.setOutput_store (s : State) (v) : (s.setOutput v).store = s.store := rfl
@[simp] theorem State.setOutput_port (s : State) (v) : (s.setOutput v).port = s.port := rfl
@[simp] theorem State.setOutput_control (s : State) (v) : (s.setOutput v).control = s.control := rfl
@[simp] theorem State.setOutput_self (s : State) : s.setOutput s.output = s := rfl
@[simp] theorem State.setOutput_setOutput (s : State) (v w) : (s.setOutput v).setOutput w = s.setOutput w := rfl

@[simp] theorem State.setLine_pending (s : State) (v) : (s.setLine v).pending = s.pending := rfl
@[simp] theorem State.setLine_clock (s : State) (v) : (s.setLine v).clock = s.clock := rfl
@[simp] theorem State.setLine_pins (s : State) (v) : (s.setLine v).pins = s.pins := rfl
@[simp] theorem State.setLine_demand (s : State) (v) : (s.setLine v).demand = s.demand := rfl
@[simp] theorem State.setLine_blend (s : State) (v) : (s.setLine v).blend = s.blend := rfl
@[simp] theorem State.setLine_speed (s : State) (v) : (s.setLine v).speed = s.speed := rfl
@[simp] theorem State.setLine_slide (s : State) (v) : (s.setLine v).slide = s.slide := rfl
@[simp] theorem State.setLine_output (s : State) (v) : (s.setLine v).output = s.output := rfl
@[simp] theorem State.setLine_line (s : State) (v) : (s.setLine v).line = v := rfl
@[simp] theorem State.setLine_roster (s : State) (v) : (s.setLine v).roster = s.roster := rfl
@[simp] theorem State.setLine_recorder (s : State) (v) : (s.setLine v).recorder = s.recorder := rfl
@[simp] theorem State.setLine_store (s : State) (v) : (s.setLine v).store = s.store := rfl
@[simp] theorem State.setLine_port (s : State) (v) : (s.setLine v).port = s.port := rfl
@[simp] theorem State.setLine_control (s : State) (v) : (s.setLine v).control = s.control := rfl
@[simp] theorem State.setLine_self (s : State) : s.setLine s.line = s := rfl
@[simp] theorem State.setLine_setLine (s : State) (v w) : (s.setLine v).setLine w = s.setLine w := rfl

@[simp] theorem State.setRoster_pending (s : State) (v) : (s.setRoster v).pending = s.pending := rfl
@[simp] theorem State.setRoster_clock (s : State) (v) : (s.setRoster v).clock = s.clock := rfl
@[simp] theorem State.setRoster_pins (s : State) (v) : (s.setRoster v).pins = s.pins := rfl
@[simp] theorem State.setRoster_demand (s : State) (v) : (s.setRoster v).demand = s.demand := rfl
@[simp] theorem State.setRoster_blend (s : State) (v) : (s.setRoster v).blend = s.blend := rfl
@[simp] theorem State.setRoster_speed (s : State) (v) : (s.setRoster v).speed = s.speed := rfl
@[simp] theorem State.setRoster_slide (s : State) (v) : (s.setRoster v).slide = s.slide := rfl
@[simp] theorem State.setRoster_output (s : State) (v) : (s.setRoster v).output = s.output := rfl
@[simp] theorem State.setRoster_line (s : State) (v) : (s.setRoster v).line = s.line := rfl
@[simp] theorem State.setRoster_roster (s : State) (v) : (s.setRoster v).roster = v := rfl
@[simp] theorem State.setRoster_recorder (s : State) (v) : (s.setRoster v).recorder = s.recorder := rfl
@[simp] theorem State.setRoster_store (s : State) (v) : (s.setRoster v).store = s.store := rfl
@[simp] theorem State.setRoster_port (s : State) (v) : (s.setRoster v).port = s.port := rfl
@[simp] theorem State.setRoster_control (s : State) (v) : (s.setRoster v).control = s.control := rfl
@[simp] theorem State.setRoster_self (s : State) : s.setRoster s.roster = s := rfl
@[simp] theorem State.setRoster_setRoster (s : State) (v w) : (s.setRoster v).setRoster w = s.setRoster w := rfl

@[simp] theorem State.setRecorder_pending (s : State) (v) : (s.setRecorder v).pending = s.pending := rfl
@[simp] theorem State.setRecorder_clock (s : State) (v) : (s.setRecorder v).clock = s.clock := rfl
@[simp] theorem State.setRecorder_pins (s : State) (v) : (s.setRecorder v).pins = s.pins := rfl
@[simp] theorem State.setRecorder_demand (s : State) (v) : (s.setRecorder v).demand = s.demand := rfl
@[simp] theorem State.setRecorder_blend (s : State) (v) : (s.setRecorder v).blend = s.blend := rfl
@[simp] theorem State.setRecorder_speed (s : State) (v) : (s.setRecorder v).speed = s.speed := rfl
@[simp] theorem State.setRecorder_slide (s : State) (v) : (s.setRecorder v).slide = s.slide := rfl
@[simp] theorem State.setRecorder_output (s : State) (v) : (s.setRecorder v).output = s.output := rfl
@[simp] theorem State.setRecorder_line (s : State) (v) : (s.setRecorder v).line = s.line := rfl
@[simp] theorem State.setRecorder_roster (s : State) (v) : (s.setRecorder v).roster = s.roster := rfl
@[simp] theorem State.setRecorder_recorder (s : State) (v) : (s.setRecorder v).recorder = v := rfl
@[simp] theorem State.setRecorder_store (s : State) (v) : (s.setRecorder v).store = s.store := rfl
@[simp] theorem State.setRecorder_port (s : State) (v) : (s.setRecorder v).port = s.port := rfl
@[simp] theorem State.setRecorder_control (s : State) (v) : (s.setRecorder v).control = s.control := rfl
@[simp] theorem State.setRecorder_self (s : State) : s.setRecorder s.recorder = s := rfl
@[simp] theorem State.setRecorder_setRecorder (s : State) (v w) : (s.setRecorder v).setRecorder w = s.setRecorder w := rfl

@[simp] theorem State.setStore_pending (s : State) (v) : (s.setStore v).pending = s.pending := rfl
@[simp] theorem State.setStore_clock (s : State) (v) : (s.setStore v).clock = s.clock := rfl
@[simp] theorem State.setStore_pins (s : State) (v) : (s.setStore v).pins = s.pins := rfl
@[simp] theorem State.setStore_demand (s : State) (v) : (s.setStore v).demand = s.demand := rfl
@[simp] theorem State.setStore_blend (s : State) (v) : (s.setStore v).blend = s.blend := rfl
@[simp] theorem State.setStore_speed (s : State) (v) : (s.setStore v).speed = s.speed := rfl
@[simp] theorem State.setStore_slide (s : State) (v) : (s.setStore v).slide = s.slide := rfl
@[simp] theorem State.setStore_output (s : State) (v) : (s.setStore v).output = s.output := rfl
@[simp] theorem State.setStore_line (s : State) (v) : (s.setStore v).line = s.line := rfl
@[simp] theorem State.setStore_roster (s : State) (v) : (s.setStore v).roster = s.roster := rfl
@[simp] theorem State.setStore_recorder (s : State) (v) : (s.setStore v).recorder = s.recorder := rfl
@[simp] theorem State.setStore_store (s : State) (v) : (s.setStore v).store = v := rfl
@[simp] theorem State.setStore_port (s : State) (v) : (s.setStore v).port = s.port := rfl
@[simp] theorem State.setStore_control (s : State) (v) : (s.setStore v).control = s.control := rfl
@[simp] theorem State.setStore_self (s : State) : s.setStore s.store = s := rfl
@[simp] theorem State.setStore_setStore (s : State) (v w) : (s.setStore v).setStore w = s.setStore w := rfl

@[simp] theorem State.setPort_pending (s : State) (v) : (s.setPort v).pending = s.pending := rfl
@[simp] theorem State.setPort_clock (s : State) (v) : (s.setPort v).clock = s.clock := rfl
@[simp] theorem State.setPort_pins (s : State) (v) : (s.setPort v).pins = s.pins := rfl
@[simp] theorem State.setPort_demand (s : State) (v) : (s.setPort v).demand = s.demand := rfl
@[simp] theorem State.setPort_blend (s : State) (v) : (s.setPort v).blend = s.blend := rfl
@[simp] theorem State.setPort_speed (s : State) (v) : (s.setPort v).speed = s.speed := rfl
@[simp] theorem State.setPort_slide (s : State) (v) : (s.setPort v).slide = s.slide := rfl
@[simp] theorem State.setPort_output (s : State) (v) : (s.setPort v).output = s.output := rfl
@[simp] theorem State.setPort_line (s : State) (v) : (s.setPort v).line = s.line := rfl
@[simp] theorem State.setPort_roster (s : State) (v) : (s.setPort v).roster = s.roster := rfl
@[simp] theorem State.setPort_recorder (s : State) (v) : (s.setPort v).recorder = s.recorder := rfl
@[simp] theorem State.setPort_store (s : State) (v) : (s.setPort v).store = s.store := rfl
@[simp] theorem State.setPort_port (s : State) (v) : (s.setPort v).port = v := rfl
@[simp] theorem State.setPort_control (s : State) (v) : (s.setPort v).control = s.control := rfl
@[simp] theorem State.setPort_self (s : State) : s.setPort s.port = s := rfl
@[simp] theorem State.setPort_setPort (s : State) (v w) : (s.setPort v).setPort w = s.setPort w := rfl

@[simp] theorem State.setControl_pending (s : State) (v) : (s.setControl v).pending = s.pending := rfl
@[simp] theorem State.setControl_clock (s : State) (v) : (s.setControl v).clock = s.clock := rfl
@[simp] theorem State.setControl_pins (s : State) (v) : (s.setControl v).pins = s.pins := rfl
@[simp] theorem State.setControl_demand (s : State) (v) : (s.setControl v).demand = s.demand := rfl
@[simp] theorem State.setControl_blend (s : State) (v) : (s.setControl v).blend = s.blend := rfl
@[simp] theorem State.setControl_speed (s : State) (v) : (s.setControl v).speed = s.speed := rfl
@[simp] theorem State.setControl_slide (s : State) (v) : (s.setControl v).slide = s.slide := rfl
@[simp] theorem State.setControl_output (s : State) (v) : (s.setControl v).output = s.output := rfl
@[simp] theorem State.setControl_line (s : State) (v) : (s.setControl v).line = s.line := rfl
@[simp] theorem State.setControl_roster (s : State) (v) : (s.setControl v).roster = s.roster := rfl
@[simp] theorem State.setControl_recorder (s : State) (v) : (s.setControl v).recorder = s.recorder := rfl
@[simp] theorem State.setControl_store (s : State) (v) : (s.setControl v).store = s.store := rfl
@[simp] theorem State.setControl_port (s : State) (v) : (s.setControl v).port = s.port := rfl
@[simp] theorem State.setControl_control (s : State) (v) : (s.setControl v).control = v := rfl
@[simp] theorem State.setControl_self (s : State) : s.setControl s.control = s := rfl
@[simp] theorem State.setControl_setControl (s : State) (v w) : (s.setControl v).setControl w = s.setControl w := rfl

/-- Two states with the same blocks are the same. -/
theorem State.ext_blocks {s t : State} (pending : s.pending = t.pending) (clock : s.clock = t.clock) (pins : s.pins = t.pins)
    (demand : s.demand = t.demand) (blend : s.blend = t.blend) (speed : s.speed = t.speed) (slide : s.slide = t.slide)
    (output : s.output = t.output) (line : s.line = t.line) (roster : s.roster = t.roster)
    (recorder : s.recorder = t.recorder) (store : s.store = t.store) (port : s.port = t.port)
    (control : s.control = t.control) : s = t := by
  cases s; cases t; simp_all

end Sys2Proof.Machine
end

