-- ==== Sys2Proof/Laws/Clock.lean ====
section
/-!
SUPPORT. What the passing of time and the entry common to all commands do.
-/

namespace Sys2Proof.Machine

open Sys2Proof

/-- A passage changes the clock, the line idle time and framer, and the service port's transaction alone. -/
@[simp] theorem advance_frame (dt : Passage) (s : State) :
    (s.advance dt).pending = s.pending ∧ (s.advance dt).pins = s.pins ∧ (s.advance dt).demand = s.demand ∧
    (s.advance dt).blend = s.blend ∧ (s.advance dt).speed = s.speed ∧ (s.advance dt).slide = s.slide ∧
    (s.advance dt).output = s.output ∧ (s.advance dt).roster = s.roster ∧ (s.advance dt).recorder = s.recorder ∧
    (s.advance dt).store = s.store ∧ (s.advance dt).control = s.control ∧
    (s.advance dt).port = s.port.clocked dt.clocks ∧ (s.advance dt).clock = s.clock.advance dt.micros := by
  and_intros <;> rfl

/-- The line after a passage: the idle time is counted and the framer hears the traffic. -/
theorem advance_line_eq (dt : Passage) (s : State) :
    (s.advance dt).line =
      { s.line.framed s.control.mode s.control.station (s.clock.advance dt.micros).us dt.traffic with
        idleMicros := s.line.idleAfter s.control.station (s.clock.advance dt.micros).us dt } := rfl

/-- Of the line, a passage changes the idle time and the framer with its buffer and its echo mark alone. -/
@[simp] theorem advance_line (dt : Passage) (s : State) :
    (s.advance dt).line.queue = s.line.queue ∧ (s.advance dt).line.onAir = s.line.onAir ∧
    (s.advance dt).line.attempts = s.line.attempts ∧ (s.advance dt).line.nextReportSeq = s.line.nextReportSeq ∧
    (s.advance dt).line.nextDemandSeq = s.line.nextDemandSeq ∧
    (s.advance dt).line.nextNoticeSeq = s.line.nextNoticeSeq ∧
    (s.advance dt).line.reportTimer = s.line.reportTimer := by
  obtain ⟨h1, h2, h3, -, h4, h5, h6, h7⟩ :=
    (framed_frame s.control.mode s.control.station (s.clock.advance dt.micros).us dt.traffic s.line).fields
  exact ⟨h1, h2, h3, h4, h5, h6, h7⟩

/-- The line idle time is counted. -/
@[simp] theorem advance_idleMicros (dt : Passage) (s : State) :
    (s.advance dt).line.idleMicros = s.line.idleAfter s.control.station (s.clock.advance dt.micros).us dt := rfl

/-- The framer, its buffer and its echo mark after a passage. -/
theorem advance_framer (dt : Passage) (s : State) {m : LineController}
    (h : s.line.framed s.control.mode s.control.station (s.clock.advance dt.micros).us dt.traffic = m) :
    (s.advance dt).line.framer = m.framer ∧ (s.advance dt).line.buffer = m.buffer ∧ (s.advance dt).line.echo = m.echo := by
  subst h; exact ⟨rfl, rfl, rfl⟩

/-- An IGNORING framer stays so with its buffer and its echo mark (R99). -/
theorem advance_ignoring {s : State} (h : s.line.framer = .ignoring) (dt : Passage) :
    (s.advance dt).line.framer = .ignoring ∧ (s.advance dt).line.buffer = s.line.buffer ∧
    (s.advance dt).line.echo = s.line.echo := by
  have : s.line.framed s.control.mode s.control.station (s.clock.advance dt.micros).us dt.traffic = s.line := by
    unfold LineController.framed
    split
    · rfl
    · have : s.line.ownHeard s.control.station (s.clock.advance dt.micros).us = none := by
        unfold LineController.ownHeard; split <;> simp [h]
      rw [this]; exact heard_ignoring h _
  rw [← h]
  exact advance_framer dt s this

/-- With the line undriven and no dominant bit in it, a passage adds its length to the idle time. -/
theorem idleAfter_quiet {own : Nat} {now : Time} {dt : Passage} {l : LineController} (hd : l.drive own = none)
    (h : dt.dominant = none) : l.idleAfter own now dt = l.idleMicros + dt.micros := by
  simp [LineController.idleAfter, hd, h]

/-- The last dominant level that has begun is number `bit`: it has been over since its bit time ended. -/
theorem sinceDominant_last {levels : List Bool} {sent bit : Nat} (hb : levels[bit]? = some false) (hs : bit ≤ sent / 4)
    (later : ∀ k, bit < k → k ≤ sent / 4 → levels[k]? ≠ some false) :
    sinceDominant levels sent = sent - 4 * (bit + 1) := by
  obtain ⟨hl, hv⟩ := List.getElem?_eq_some_iff.1 hb
  have hsplit : levels.take (sent / 4 + 1) =
      levels.take bit ++ false :: (levels.drop (bit + 1)).take (sent / 4 - bit) := by
    rw [show sent / 4 + 1 = bit + ((sent / 4 - bit) + 1) by omega, List.take_add, List.drop_eq_getElem_cons hl, hv,
      List.take_succ_cons]
  have hrest : ∀ x ∈ ((levels.drop (bit + 1)).take (sent / 4 - bit)).reverse, id x = true := by
    intro x hx
    obtain ⟨k, hk, rfl⟩ := List.mem_iff_getElem.1 (List.mem_reverse.1 hx)
    simp only [List.length_take, List.length_drop] at hk
    have := later (bit + 1 + k) (by omega) (by omega)
    rw [List.getElem?_eq_getElem (by omega)] at this
    simpa using this
  have hd : (levels.take (sent / 4 + 1)).reverse.dropWhile id = false :: (levels.take bit).reverse := by
    rw [hsplit, List.reverse_append, List.reverse_cons, List.append_assoc, List.dropWhile_append_of_pos hrest]
    rfl
  rw [sinceDominant, hd]
  simp [List.length_take, Nat.min_eq_left (Nat.le_of_lt hl)]

/-! ### The clocks of the service port -/

@[simp] theorem clocked_nil (p : ServicePort) : p.clocked [] = p := rfl

theorem clocked_cons (bit : Bool) (bits : List Bool) (p : ServicePort) :
    p.clocked (bit :: bits) = (p.clock bit).clocked bits := rfl

theorem clocked_append (xs ys : List Bool) (p : ServicePort) : p.clocked (xs ++ ys) = (p.clocked xs).clocked ys := by
  simp [ServicePort.clocked, List.foldl_append]

/-- A clock leaves the framer as it is: the clock that takes a command is the command's own. -/
@[simp] theorem clock_framer (bit : Bool) (p : ServicePort) : (p.clock bit).framer = p.framer := by
  unfold ServicePort.clock ServicePort.clockIn ServicePort.clockOut
  repeat' (first | rfl | split)

@[simp] theorem clocked_framer (bits : List Bool) (p : ServicePort) : (p.clocked bits).framer = p.framer := by
  induction bits generalizing p with
  | nil => rfl
  | cons bit bits ih => rw [clocked_cons, ih, clock_framer]

/-- Clocks of a port that neither receives nor answers are not counted. -/
theorem clocked_idle {p : ServicePort} (h : p.framer = .idle ∨ p.framer = .ignoring) (bits : List Bool) :
    p.clocked bits = p := by
  induction bits with
  | nil => rfl
  | cons bit bits ih => rw [clocked_cons, show p.clock bit = p by obtain h | h := h <;> simp [ServicePort.clock, h], ih]

/-! ### The entry common to all commands -/

@[simp] theorem advance_heldInReset (dt : Passage) (s : State) : (s.advance dt).heldInReset = s.heldInReset := by
  simp [State.heldInReset]

@[simp] theorem advance_lacksRecord (dt : Passage) (s : State) : (s.advance dt).lacksRecord = s.lacksRecord := by
  simp [State.lacksRecord]

@[simp] theorem advance_params (dt : Passage) (s : State) : (s.advance dt).params = s.params := by
  simp [State.params]

theorem advance_now (dt : Passage) (s : State) : (s.advance dt).now = (s.clock.advance dt.micros).ms := by simp [State.now]

theorem advance_micros (dt : Passage) (s : State) : (s.advance dt).micros = (s.clock.advance dt.micros).us := by
  simp [State.micros]

/-- Everything a command can come to: it waits out a reset, it lacks a record, or its effect takes place. -/
theorem perform_eq (dt : Passage) (effect : State → State) (s : State) :
    perform dt effect s =
      if s.heldInReset then .next (s.advance dt)
      else if s.lacksRecord then .fault .noActiveRecord
      else .next (effect (s.advance dt)) := by
  simp [perform]

/-- The effect takes place on a device that works. -/
theorem perform_next {dt : Passage} {effect : State → State} {s : State} (hr : s.heldInReset = false)
    (hl : s.lacksRecord = false) : perform dt effect s = .next (effect (s.advance dt)) := by
  simp [perform_eq, hr, hl]

/-- A command that answers a next state either waited out a reset or had its effect. -/
theorem perform_cases {dt : Passage} {effect : State → State} {s t : State} (h : perform dt effect s = .next t) :
    (s.heldInReset = true ∧ t = s.advance dt) ∨
    (s.heldInReset = false ∧ s.lacksRecord = false ∧ t = effect (s.advance dt)) := by
  rw [perform_eq] at h
  split at h
  · left; exact ⟨‹_›, by simpa using h.symm⟩
  · split at h
    · cases h
    · right
      refine ⟨by simp_all, by simp_all, by simpa using h.symm⟩

end Sys2Proof.Machine
end

