-- ==== Sys2Proof/Laws/Ops.lean ====
section
/-!
SUPPORT. What each shared operation leaves unchanged, once for each, and what the named ones do.
-/

namespace Sys2Proof.Machine

open Sys2Proof

@[simp] theorem logEvent_frame (k : EventKind) (s : State) :
    (logEvent k s).pending = s.pending ∧ (logEvent k s).clock = s.clock ∧ (logEvent k s).pins = s.pins ∧
    (logEvent k s).demand = s.demand ∧ (logEvent k s).blend = s.blend ∧ (logEvent k s).speed = s.speed ∧
    (logEvent k s).slide = s.slide ∧ (logEvent k s).output = s.output ∧ (logEvent k s).line = s.line ∧
    (logEvent k s).roster = s.roster ∧ (logEvent k s).store = s.store ∧ (logEvent k s).port = s.port ∧
    (logEvent k s).control = s.control := by
  and_intros <;> simp only [logEvent] <;> simp

@[simp] theorem noticeReturned_frame (n : Nat) (s : State) :
    (noticeReturned n s).pending = s.pending ∧ (noticeReturned n s).clock = s.clock ∧
    (noticeReturned n s).pins = s.pins ∧ (noticeReturned n s).demand = s.demand ∧
    (noticeReturned n s).blend = s.blend ∧ (noticeReturned n s).speed = s.speed ∧
    (noticeReturned n s).slide = s.slide ∧ (noticeReturned n s).output = s.output ∧
    (noticeReturned n s).line = s.line ∧ (noticeReturned n s).roster = s.roster ∧
    (noticeReturned n s).store = s.store ∧ (noticeReturned n s).port = s.port ∧
    (noticeReturned n s).control = s.control := by
  and_intros <;> simp only [noticeReturned] <;> simp

@[simp] theorem enqueueDemand_frame (c : DemandContent) (s : State) :
    (enqueueDemand c s).pending = s.pending ∧ (enqueueDemand c s).clock = s.clock ∧
    (enqueueDemand c s).pins = s.pins ∧ (enqueueDemand c s).demand = s.demand ∧
    (enqueueDemand c s).blend = s.blend ∧ (enqueueDemand c s).speed = s.speed ∧
    (enqueueDemand c s).slide = s.slide ∧ (enqueueDemand c s).output = s.output ∧
    (enqueueDemand c s).roster = s.roster ∧ (enqueueDemand c s).recorder = s.recorder ∧
    (enqueueDemand c s).store = s.store ∧ (enqueueDemand c s).port = s.port ∧
    (enqueueDemand c s).control = s.control := by
  and_intros <;> (simp only [enqueueDemand]; repeat' split) <;> simp

@[simp] theorem enqueueReport_frame (s : State) :
    (enqueueReport s).pending = s.pending ∧ (enqueueReport s).clock = s.clock ∧ (enqueueReport s).pins = s.pins ∧
    (enqueueReport s).demand = s.demand ∧ (enqueueReport s).blend = s.blend ∧ (enqueueReport s).speed = s.speed ∧
    (enqueueReport s).slide = s.slide ∧ (enqueueReport s).output = s.output ∧
    (enqueueReport s).roster = s.roster ∧ (enqueueReport s).recorder = s.recorder ∧
    (enqueueReport s).store = s.store ∧ (enqueueReport s).port = s.port ∧ (enqueueReport s).control = s.control := by
  and_intros <;> (simp only [enqueueReport]; repeat' split) <;> simp

@[simp] theorem enqueueNotice_frame (c : NoticeContent) (s : State) :
    (enqueueNotice c s).pending = s.pending ∧ (enqueueNotice c s).clock = s.clock ∧
    (enqueueNotice c s).pins = s.pins ∧ (enqueueNotice c s).demand = s.demand ∧
    (enqueueNotice c s).blend = s.blend ∧ (enqueueNotice c s).speed = s.speed ∧
    (enqueueNotice c s).slide = s.slide ∧ (enqueueNotice c s).output = s.output ∧
    (enqueueNotice c s).roster = s.roster ∧ (enqueueNotice c s).store = s.store ∧
    (enqueueNotice c s).port = s.port ∧ (enqueueNotice c s).control = s.control := by
  and_intros <;> (simp only [enqueueNotice]; repeat' split) <;> simp

@[simp] theorem beginCommit_frame (s : State) :
    (beginCommit s).pending = s.pending ∧ (beginCommit s).clock = s.clock ∧ (beginCommit s).pins = s.pins ∧
    (beginCommit s).demand = s.demand ∧ (beginCommit s).blend = s.blend ∧ (beginCommit s).speed = s.speed ∧
    (beginCommit s).slide = s.slide ∧ (beginCommit s).output = s.output ∧ (beginCommit s).line = s.line ∧
    (beginCommit s).roster = s.roster ∧ (beginCommit s).recorder = s.recorder ∧ (beginCommit s).port = s.port ∧
    (beginCommit s).control = s.control := by
  and_intros <;> (simp only [beginCommit]; repeat' split) <;> simp

@[simp] theorem offerNotice_frame (s : State) :
    (offerNotice s).pending = s.pending ∧ (offerNotice s).clock = s.clock ∧ (offerNotice s).pins = s.pins ∧
    (offerNotice s).demand = s.demand ∧ (offerNotice s).blend = s.blend ∧ (offerNotice s).speed = s.speed ∧
    (offerNotice s).slide = s.slide ∧ (offerNotice s).output = s.output ∧ (offerNotice s).roster = s.roster ∧
    (offerNotice s).store = s.store ∧ (offerNotice s).port = s.port ∧ (offerNotice s).control = s.control := by
  and_intros <;> (simp only [offerNotice]; repeat' split) <;> simp

@[simp] theorem openIncident_frame (p : Pending) (s : State) :
    (openIncident p s).pending = s.pending ∧ (openIncident p s).clock = s.clock ∧
    (openIncident p s).pins = s.pins ∧ (openIncident p s).demand = s.demand ∧ (openIncident p s).blend = s.blend ∧
    (openIncident p s).speed = s.speed ∧ (openIncident p s).slide = s.slide ∧
    (openIncident p s).output = s.output ∧ (openIncident p s).roster = s.roster ∧
    (openIncident p s).port = s.port ∧ (openIncident p s).control = s.control := by
  and_intros <;> (simp only [openIncident]; repeat' split) <;> simp

@[simp] theorem mergeIntoImage_frame (p : Pending) (s : State) :
    (mergeIntoImage p s).pending = s.pending ∧ (mergeIntoImage p s).clock = s.clock ∧
    (mergeIntoImage p s).pins = s.pins ∧ (mergeIntoImage p s).demand = s.demand ∧
    (mergeIntoImage p s).blend = s.blend ∧ (mergeIntoImage p s).speed = s.speed ∧
    (mergeIntoImage p s).slide = s.slide ∧ (mergeIntoImage p s).output = s.output ∧
    (mergeIntoImage p s).roster = s.roster ∧ (mergeIntoImage p s).store = s.store ∧
    (mergeIntoImage p s).port = s.port ∧ (mergeIntoImage p s).control = s.control := by
  and_intros <;> simp only [mergeIntoImage] <;> simp

@[simp] theorem endFillingOnPower_frame (s : State) :
    (endFillingOnPower s).pending = s.pending ∧ (endFillingOnPower s).clock = s.clock ∧
    (endFillingOnPower s).pins = s.pins ∧ (endFillingOnPower s).demand = s.demand ∧
    (endFillingOnPower s).blend = s.blend ∧ (endFillingOnPower s).speed = s.speed ∧
    (endFillingOnPower s).slide = s.slide ∧ (endFillingOnPower s).output = s.output ∧
    (endFillingOnPower s).line = s.line ∧ (endFillingOnPower s).roster = s.roster ∧
    (endFillingOnPower s).port = s.port ∧ (endFillingOnPower s).control = s.control := by
  and_intros <;> simp only [endFillingOnPower] <;> simp

@[simp] theorem holdFiring_frame (f : Pending) (s : State) :
    (holdFiring f s).pending = s.pending ∧ (holdFiring f s).clock = s.clock ∧ (holdFiring f s).pins = s.pins ∧
    (holdFiring f s).demand = s.demand ∧ (holdFiring f s).blend = s.blend ∧ (holdFiring f s).speed = s.speed ∧
    (holdFiring f s).slide = s.slide ∧ (holdFiring f s).output = s.output ∧ (holdFiring f s).line = s.line ∧
    (holdFiring f s).roster = s.roster ∧ (holdFiring f s).store = s.store ∧ (holdFiring f s).port = s.port ∧
    (holdFiring f s).control = s.control := by
  and_intros <;> (simp only [holdFiring]; repeat' split) <;> simp

@[simp] theorem fire_frame (f : Pending) (s : State) :
    (fire f s).pending = s.pending ∧ (fire f s).clock = s.clock ∧ (fire f s).pins = s.pins ∧
    (fire f s).demand = s.demand ∧ (fire f s).blend = s.blend ∧ (fire f s).speed = s.speed ∧
    (fire f s).slide = s.slide ∧ (fire f s).output = s.output ∧ (fire f s).roster = s.roster ∧
    (fire f s).port = s.port ∧ (fire f s).control = s.control := by
  and_intros <;> (simp only [fire]; repeat' split) <;> simp

@[simp] theorem raiseWith_frame (c : Source) (g : Class) (o : Option Originator) (s : State) :
    (raiseWith c g o s).pending = s.pending ∧ (raiseWith c g o s).clock = s.clock ∧
    (raiseWith c g o s).pins = s.pins ∧ (raiseWith c g o s).demand = s.demand ∧
    (raiseWith c g o s).blend = s.blend ∧ (raiseWith c g o s).speed = s.speed ∧
    (raiseWith c g o s).slide = s.slide ∧ (raiseWith c g o s).output = s.output ∧
    (raiseWith c g o s).roster = s.roster ∧ (raiseWith c g o s).port = s.port ∧
    (raiseWith c g o s).control = s.control := by
  and_intros <;> (simp only [raiseWith]; repeat' split) <;> simp

@[simp] theorem raise_frame (c : Source) (s : State) :
    (raise c s).pending = s.pending ∧ (raise c s).clock = s.clock ∧ (raise c s).pins = s.pins ∧
    (raise c s).demand = s.demand ∧ (raise c s).blend = s.blend ∧ (raise c s).speed = s.speed ∧
    (raise c s).slide = s.slide ∧ (raise c s).output = s.output ∧ (raise c s).roster = s.roster ∧
    (raise c s).port = s.port ∧ (raise c s).control = s.control := by
  and_intros <;> simp only [raise] <;> simp

end Sys2Proof.Machine
end

