-- ==== Sys2Proof/Laws/Effects.lean ====
section
/-!
SUPPORT. What the effect of each command, and each operation it is made of, leaves unchanged.
-/

namespace Sys2Proof.Machine

open Sys2Proof

@[simp] theorem demandRead_frame (raw : BitVec 10) (cab he tl : Bool) (s : State) :
    (demandRead raw cab he tl s).pending = s.pending ∧ (demandRead raw cab he tl s).clock = s.clock ∧
    (demandRead raw cab he tl s).blend = s.blend ∧ (demandRead raw cab he tl s).speed = s.speed ∧
    (demandRead raw cab he tl s).slide = s.slide ∧ (demandRead raw cab he tl s).output = s.output ∧
    (demandRead raw cab he tl s).line = s.line ∧ (demandRead raw cab he tl s).roster = s.roster ∧
    (demandRead raw cab he tl s).recorder = s.recorder ∧ (demandRead raw cab he tl s).store = s.store ∧
    (demandRead raw cab he tl s).port = s.port ∧ (demandRead raw cab he tl s).control = s.control := by
  and_intros <;> simp only [demandRead] <;> simp

@[simp] theorem settleControlling_frame (s : State) :
    (settleControlling s).pending = s.pending ∧ (settleControlling s).clock = s.clock ∧
    (settleControlling s).pins = s.pins ∧ (settleControlling s).blend = s.blend ∧
    (settleControlling s).speed = s.speed ∧ (settleControlling s).slide = s.slide ∧
    (settleControlling s).output = s.output ∧ (settleControlling s).line = s.line ∧
    (settleControlling s).roster = s.roster ∧ (settleControlling s).recorder = s.recorder ∧
    (settleControlling s).store = s.store ∧ (settleControlling s).port = s.port ∧
    (settleControlling s).control = s.control := by
  and_intros <;> (simp only [settleControlling]; repeat' split) <;> simp

@[simp] theorem originateDemand_frame (s : State) :
    (originateDemand s).pending = s.pending ∧ (originateDemand s).clock = s.clock ∧
    (originateDemand s).pins = s.pins ∧ (originateDemand s).blend = s.blend ∧
    (originateDemand s).speed = s.speed ∧ (originateDemand s).slide = s.slide ∧
    (originateDemand s).output = s.output ∧ (originateDemand s).roster = s.roster ∧
    (originateDemand s).recorder = s.recorder ∧ (originateDemand s).store = s.store ∧
    (originateDemand s).port = s.port ∧ (originateDemand s).control = s.control := by
  and_intros <;> simp only [originateDemand] <;> simp

@[simp] theorem immediateDemand_frame (s : State) :
    (immediateDemand s).pending = s.pending ∧ (immediateDemand s).clock = s.clock ∧
    (immediateDemand s).pins = s.pins ∧ (immediateDemand s).blend = s.blend ∧
    (immediateDemand s).speed = s.speed ∧ (immediateDemand s).slide = s.slide ∧
    (immediateDemand s).output = s.output ∧ (immediateDemand s).roster = s.roster ∧
    (immediateDemand s).recorder = s.recorder ∧ (immediateDemand s).store = s.store ∧
    (immediateDemand s).port = s.port ∧ (immediateDemand s).control = s.control := by
  and_intros <;> (simp only [immediateDemand]; repeat' split) <;> simp

@[simp] theorem formDemand_frame (src : List DemandSource) (s : State) :
    (formDemand src s).pending = s.pending ∧ (formDemand src s).clock = s.clock ∧
    (formDemand src s).pins = s.pins ∧ (formDemand src s).blend = s.blend ∧ (formDemand src s).speed = s.speed ∧
    (formDemand src s).slide = s.slide ∧ (formDemand src s).output = s.output ∧ (formDemand src s).line = s.line ∧
    (formDemand src s).roster = s.roster ∧ (formDemand src s).recorder = s.recorder ∧
    (formDemand src s).store = s.store ∧ (formDemand src s).port = s.port ∧
    (formDemand src s).control = s.control := by
  and_intros <;> simp only [formDemand] <;> simp

@[simp] theorem conflictEpisode_frame (src : List DemandSource) (s : State) :
    (conflictEpisode src s).pending = s.pending ∧ (conflictEpisode src s).clock = s.clock ∧
    (conflictEpisode src s).pins = s.pins ∧ (conflictEpisode src s).blend = s.blend ∧
    (conflictEpisode src s).speed = s.speed ∧ (conflictEpisode src s).slide = s.slide ∧
    (conflictEpisode src s).output = s.output ∧ (conflictEpisode src s).roster = s.roster ∧
    (conflictEpisode src s).port = s.port ∧ (conflictEpisode src s).control = s.control := by
  and_intros <;> (simp only [conflictEpisode]; repeat' split) <;> simp

@[simp] theorem lossEpisode_frame (s : State) :
    (lossEpisode s).pending = s.pending ∧ (lossEpisode s).clock = s.clock ∧ (lossEpisode s).pins = s.pins ∧
    (lossEpisode s).blend = s.blend ∧ (lossEpisode s).speed = s.speed ∧ (lossEpisode s).slide = s.slide ∧
    (lossEpisode s).output = s.output ∧ (lossEpisode s).roster = s.roster ∧ (lossEpisode s).port = s.port ∧
    (lossEpisode s).control = s.control := by
  and_intros <;> (simp only [lossEpisode]; repeat' split) <;> simp

@[simp] theorem enterEmergency_frame (s : State) :
    (enterEmergency s).pending = s.pending ∧ (enterEmergency s).clock = s.clock ∧
    (enterEmergency s).pins = s.pins ∧ (enterEmergency s).blend = s.blend ∧ (enterEmergency s).speed = s.speed ∧
    (enterEmergency s).slide = s.slide ∧ (enterEmergency s).output = s.output ∧
    (enterEmergency s).roster = s.roster ∧ (enterEmergency s).port = s.port ∧
    (enterEmergency s).control = s.control := by
  and_intros <;> simp only [enterEmergency] <;> simp

@[simp] theorem exitEmergency_frame (s : State) :
    (exitEmergency s).pending = s.pending ∧ (exitEmergency s).clock = s.clock ∧ (exitEmergency s).pins = s.pins ∧
    (exitEmergency s).blend = s.blend ∧ (exitEmergency s).speed = s.speed ∧ (exitEmergency s).slide = s.slide ∧
    (exitEmergency s).output = s.output ∧ (exitEmergency s).line = s.line ∧ (exitEmergency s).roster = s.roster ∧
    (exitEmergency s).store = s.store ∧ (exitEmergency s).port = s.port ∧ (exitEmergency s).control = s.control := by
  and_intros <;> simp only [exitEmergency] <;> simp

@[simp] theorem emergencyStep_frame (src : List DemandSource) (s : State) :
    (emergencyStep src s).pending = s.pending ∧ (emergencyStep src s).clock = s.clock ∧
    (emergencyStep src s).pins = s.pins ∧ (emergencyStep src s).blend = s.blend ∧
    (emergencyStep src s).speed = s.speed ∧ (emergencyStep src s).slide = s.slide ∧
    (emergencyStep src s).output = s.output ∧ (emergencyStep src s).roster = s.roster ∧
    (emergencyStep src s).port = s.port ∧ (emergencyStep src s).control = s.control := by
  and_intros <;> (simp only [emergencyStep]; repeat' split) <;> simp

@[simp] theorem logDemand_frame (src : List DemandSource) (s : State) :
    (logDemand src s).pending = s.pending ∧ (logDemand src s).clock = s.clock ∧ (logDemand src s).pins = s.pins ∧
    (logDemand src s).blend = s.blend ∧ (logDemand src s).speed = s.speed ∧ (logDemand src s).slide = s.slide ∧
    (logDemand src s).output = s.output ∧ (logDemand src s).line = s.line ∧ (logDemand src s).roster = s.roster ∧
    (logDemand src s).store = s.store ∧ (logDemand src s).port = s.port ∧ (logDemand src s).control = s.control := by
  and_intros <;> (simp only [logDemand]; repeat' split) <;> simp

@[simp] theorem demandFromSources_frame (src : List DemandSource) (s : State) :
    (demandFromSources src s).pending = s.pending ∧ (demandFromSources src s).clock = s.clock ∧
    (demandFromSources src s).pins = s.pins ∧ (demandFromSources src s).blend = s.blend ∧
    (demandFromSources src s).speed = s.speed ∧ (demandFromSources src s).slide = s.slide ∧
    (demandFromSources src s).output = s.output ∧ (demandFromSources src s).roster = s.roster ∧
    (demandFromSources src s).port = s.port ∧ (demandFromSources src s).control = s.control := by
  and_intros <;> simp only [demandFromSources] <;> simp

@[simp] theorem demandSampleEffect_frame (raw : BitVec 10) (cab he tl : Bool) (s : State) :
    (demandSampleEffect raw cab he tl s).pending = s.pending ∧
    (demandSampleEffect raw cab he tl s).clock = s.clock ∧ (demandSampleEffect raw cab he tl s).blend = s.blend ∧
    (demandSampleEffect raw cab he tl s).speed = s.speed ∧ (demandSampleEffect raw cab he tl s).slide = s.slide ∧
    (demandSampleEffect raw cab he tl s).output = s.output ∧
    (demandSampleEffect raw cab he tl s).roster = s.roster ∧ (demandSampleEffect raw cab he tl s).port = s.port ∧
    (demandSampleEffect raw cab he tl s).control = s.control := by
  and_intros <;> (simp only [demandSampleEffect]; repeat' split) <;> simp

@[simp] theorem demandFrameEffect_frame (s : State) :
    (demandFrameEffect s).pending = s.pending ∧ (demandFrameEffect s).clock = s.clock ∧
    (demandFrameEffect s).pins = s.pins ∧ (demandFrameEffect s).blend = s.blend ∧
    (demandFrameEffect s).speed = s.speed ∧ (demandFrameEffect s).slide = s.slide ∧
    (demandFrameEffect s).output = s.output ∧ (demandFrameEffect s).roster = s.roster ∧
    (demandFrameEffect s).recorder = s.recorder ∧ (demandFrameEffect s).store = s.store ∧
    (demandFrameEffect s).port = s.port ∧ (demandFrameEffect s).control = s.control := by
  and_intros <;> (simp only [demandFrameEffect]; repeat' split) <;> simp

@[simp] theorem noteLockout_frame (n : Nat) (s : State) :
    (noteLockout n s).pending = s.pending ∧ (noteLockout n s).clock = s.clock ∧ (noteLockout n s).pins = s.pins ∧
    (noteLockout n s).demand = s.demand ∧ (noteLockout n s).blend = s.blend ∧ (noteLockout n s).speed = s.speed ∧
    (noteLockout n s).output = s.output ∧ (noteLockout n s).roster = s.roster ∧ (noteLockout n s).port = s.port ∧
    (noteLockout n s).control = s.control := by
  and_intros <;> simp only [noteLockout] <;> simp

@[simp] theorem evaluateTruck_frame (n : Nat) (s : State) :
    (evaluateTruck n s).pending = s.pending ∧ (evaluateTruck n s).clock = s.clock ∧
    (evaluateTruck n s).pins = s.pins ∧ (evaluateTruck n s).demand = s.demand ∧
    (evaluateTruck n s).blend = s.blend ∧ (evaluateTruck n s).speed = s.speed ∧
    (evaluateTruck n s).output = s.output ∧ (evaluateTruck n s).roster = s.roster ∧
    (evaluateTruck n s).port = s.port ∧ (evaluateTruck n s).control = s.control := by
  and_intros <;> (simp only [evaluateTruck]; repeat' split) <;> simp

@[simp] theorem takeSlideCommands_frame (s : State) :
    (takeSlideCommands s).pending = s.pending ∧ (takeSlideCommands s).clock = s.clock ∧
    (takeSlideCommands s).pins = s.pins ∧ (takeSlideCommands s).demand = s.demand ∧
    (takeSlideCommands s).blend = s.blend ∧ (takeSlideCommands s).speed = s.speed ∧
    (takeSlideCommands s).slide = s.slide ∧ (takeSlideCommands s).line = s.line ∧
    (takeSlideCommands s).roster = s.roster ∧ (takeSlideCommands s).recorder = s.recorder ∧
    (takeSlideCommands s).store = s.store ∧ (takeSlideCommands s).port = s.port ∧
    (takeSlideCommands s).control = s.control := by
  and_intros <;> simp only [takeSlideCommands] <;> simp

@[simp] theorem slideEvaluation_frame (s : State) :
    (slideEvaluation s).pending = s.pending ∧ (slideEvaluation s).clock = s.clock ∧
    (slideEvaluation s).pins = s.pins ∧ (slideEvaluation s).demand = s.demand ∧
    (slideEvaluation s).blend = s.blend ∧ (slideEvaluation s).speed = s.speed ∧
    (slideEvaluation s).roster = s.roster ∧ (slideEvaluation s).port = s.port ∧
    (slideEvaluation s).control = s.control := by
  and_intros <;> (simp only [slideEvaluation]; repeat' split) <;> simp

@[simp] theorem tachometerEffect_frame (axle : Nat) (s : State) :
    (tachometerEffect axle s).pending = s.pending ∧ (tachometerEffect axle s).clock = s.clock ∧
    (tachometerEffect axle s).pins = s.pins ∧ (tachometerEffect axle s).demand = s.demand ∧
    (tachometerEffect axle s).blend = s.blend ∧ (tachometerEffect axle s).slide = s.slide ∧
    (tachometerEffect axle s).output = s.output ∧ (tachometerEffect axle s).line = s.line ∧
    (tachometerEffect axle s).roster = s.roster ∧ (tachometerEffect axle s).recorder = s.recorder ∧
    (tachometerEffect axle s).store = s.store ∧ (tachometerEffect axle s).port = s.port ∧
    (tachometerEffect axle s).control = s.control := by
  and_intros <;> (simp only [tachometerEffect]; repeat' split) <;> simp

@[simp] theorem speedSweepEffect_frame (s : State) :
    (speedSweepEffect s).pending = s.pending ∧ (speedSweepEffect s).clock = s.clock ∧
    (speedSweepEffect s).pins = s.pins ∧ (speedSweepEffect s).demand = s.demand ∧
    (speedSweepEffect s).blend = s.blend ∧ (speedSweepEffect s).roster = s.roster ∧
    (speedSweepEffect s).port = s.port ∧ (speedSweepEffect s).control = s.control := by
  and_intros <;> (simp only [speedSweepEffect]; repeat' split) <;> simp

@[simp] theorem converterFeedbackEffect_frame (chars : List Byte) (s : State) :
    (converterFeedbackEffect chars s).pending = s.pending ∧ (converterFeedbackEffect chars s).clock = s.clock ∧
    (converterFeedbackEffect chars s).pins = s.pins ∧ (converterFeedbackEffect chars s).demand = s.demand ∧
    (converterFeedbackEffect chars s).blend = s.blend ∧ (converterFeedbackEffect chars s).speed = s.speed ∧
    (converterFeedbackEffect chars s).slide = s.slide ∧ (converterFeedbackEffect chars s).line = s.line ∧
    (converterFeedbackEffect chars s).roster = s.roster ∧
    (converterFeedbackEffect chars s).recorder = s.recorder ∧ (converterFeedbackEffect chars s).store = s.store ∧
    (converterFeedbackEffect chars s).port = s.port ∧ (converterFeedbackEffect chars s).control = s.control := by
  and_intros <;> (simp only [converterFeedbackEffect]; repeat' split) <;> simp

@[simp] theorem stalenessEffect_frame (s : State) :
    (stalenessEffect s).pending = s.pending ∧ (stalenessEffect s).clock = s.clock ∧
    (stalenessEffect s).pins = s.pins ∧ (stalenessEffect s).demand = s.demand ∧
    (stalenessEffect s).blend = s.blend ∧ (stalenessEffect s).speed = s.speed ∧
    (stalenessEffect s).slide = s.slide ∧ (stalenessEffect s).line = s.line ∧
    (stalenessEffect s).roster = s.roster ∧ (stalenessEffect s).recorder = s.recorder ∧
    (stalenessEffect s).store = s.store ∧ (stalenessEffect s).port = s.port ∧
    (stalenessEffect s).control = s.control := by
  and_intros <;> (simp only [stalenessEffect]; repeat' split) <;> simp

@[simp] theorem requestMessageEffect_frame (s : State) :
    (requestMessageEffect s).pending = s.pending ∧ (requestMessageEffect s).clock = s.clock ∧
    (requestMessageEffect s).pins = s.pins ∧ (requestMessageEffect s).demand = s.demand ∧
    (requestMessageEffect s).blend = s.blend ∧ (requestMessageEffect s).speed = s.speed ∧
    (requestMessageEffect s).slide = s.slide ∧ (requestMessageEffect s).line = s.line ∧
    (requestMessageEffect s).roster = s.roster ∧ (requestMessageEffect s).recorder = s.recorder ∧
    (requestMessageEffect s).store = s.store ∧ (requestMessageEffect s).port = s.port ∧
    (requestMessageEffect s).control = s.control := by
  and_intros <;> (simp only [requestMessageEffect]; repeat' split) <;> simp

@[simp] theorem watchTruck_frame (n : Nat) (s : State) :
    (watchTruck n s).pending = s.pending ∧ (watchTruck n s).clock = s.clock ∧ (watchTruck n s).pins = s.pins ∧
    (watchTruck n s).demand = s.demand ∧ (watchTruck n s).blend = s.blend ∧ (watchTruck n s).speed = s.speed ∧
    (watchTruck n s).slide = s.slide ∧ (watchTruck n s).roster = s.roster ∧ (watchTruck n s).port = s.port ∧
    (watchTruck n s).control = s.control := by
  and_intros <;> (simp only [watchTruck]; repeat' split) <;> simp

@[simp] theorem readPressures_frame (p q : BitVec 10) (s : State) :
    (readPressures p q s).pending = s.pending ∧ (readPressures p q s).clock = s.clock ∧
    (readPressures p q s).demand = s.demand ∧ (readPressures p q s).blend = s.blend ∧
    (readPressures p q s).speed = s.speed ∧ (readPressures p q s).slide = s.slide ∧
    (readPressures p q s).line = s.line ∧ (readPressures p q s).roster = s.roster ∧
    (readPressures p q s).recorder = s.recorder ∧ (readPressures p q s).store = s.store ∧
    (readPressures p q s).port = s.port ∧ (readPressures p q s).control = s.control := by
  and_intros <;> simp only [readPressures] <;> simp

@[simp] theorem pressureSampleEffect_frame (p q : BitVec 10) (s : State) :
    (pressureSampleEffect p q s).pending = s.pending ∧ (pressureSampleEffect p q s).clock = s.clock ∧
    (pressureSampleEffect p q s).demand = s.demand ∧ (pressureSampleEffect p q s).blend = s.blend ∧
    (pressureSampleEffect p q s).speed = s.speed ∧ (pressureSampleEffect p q s).slide = s.slide ∧
    (pressureSampleEffect p q s).roster = s.roster ∧ (pressureSampleEffect p q s).port = s.port ∧
    (pressureSampleEffect p q s).control = s.control := by
  and_intros <;> (simp only [pressureSampleEffect]; repeat' split) <;> simp

@[simp] theorem refreshOwn_frame (r : BlendResult) (s : State) :
    (refreshOwn r s).pending = s.pending ∧ (refreshOwn r s).clock = s.clock ∧ (refreshOwn r s).pins = s.pins ∧
    (refreshOwn r s).demand = s.demand ∧ (refreshOwn r s).blend = s.blend ∧ (refreshOwn r s).speed = s.speed ∧
    (refreshOwn r s).slide = s.slide ∧ (refreshOwn r s).output = s.output ∧ (refreshOwn r s).line = s.line ∧
    (refreshOwn r s).recorder = s.recorder ∧ (refreshOwn r s).store = s.store ∧ (refreshOwn r s).port = s.port ∧
    (refreshOwn r s).control = s.control := by
  and_intros <;> simp only [refreshOwn] <;> simp

@[simp] theorem blendHandOff_frame (r : BlendResult) (s : State) :
    (blendHandOff r s).pending = s.pending ∧ (blendHandOff r s).clock = s.clock ∧
    (blendHandOff r s).pins = s.pins ∧ (blendHandOff r s).demand = s.demand ∧ (blendHandOff r s).speed = s.speed ∧
    (blendHandOff r s).slide = s.slide ∧ (blendHandOff r s).line = s.line ∧
    (blendHandOff r s).recorder = s.recorder ∧ (blendHandOff r s).store = s.store ∧
    (blendHandOff r s).port = s.port ∧ (blendHandOff r s).control = s.control := by
  and_intros <;> simp only [blendHandOff] <;> simp

@[simp] theorem shortfallWatch_frame (s : State) :
    (shortfallWatch s).pending = s.pending ∧ (shortfallWatch s).clock = s.clock ∧
    (shortfallWatch s).pins = s.pins ∧ (shortfallWatch s).demand = s.demand ∧ (shortfallWatch s).speed = s.speed ∧
    (shortfallWatch s).slide = s.slide ∧ (shortfallWatch s).output = s.output ∧
    (shortfallWatch s).roster = s.roster ∧ (shortfallWatch s).port = s.port ∧
    (shortfallWatch s).control = s.control := by
  and_intros <;> (simp only [shortfallWatch]; repeat' split) <;> simp

@[simp] theorem blendEffect_frame (s : State) :
    (blendEffect s).pending = s.pending ∧ (blendEffect s).clock = s.clock ∧ (blendEffect s).pins = s.pins ∧
    (blendEffect s).demand = s.demand ∧ (blendEffect s).speed = s.speed ∧ (blendEffect s).slide = s.slide ∧
    (blendEffect s).port = s.port ∧ (blendEffect s).control = s.control := by
  and_intros <;> (simp only [blendEffect]; repeat' split) <;> simp

@[simp] theorem reportTimerEffect_frame (s : State) :
    (reportTimerEffect s).pending = s.pending ∧ (reportTimerEffect s).clock = s.clock ∧
    (reportTimerEffect s).pins = s.pins ∧ (reportTimerEffect s).demand = s.demand ∧
    (reportTimerEffect s).blend = s.blend ∧ (reportTimerEffect s).speed = s.speed ∧
    (reportTimerEffect s).slide = s.slide ∧ (reportTimerEffect s).output = s.output ∧
    (reportTimerEffect s).roster = s.roster ∧ (reportTimerEffect s).recorder = s.recorder ∧
    (reportTimerEffect s).store = s.store ∧ (reportTimerEffect s).port = s.port ∧
    (reportTimerEffect s).control = s.control := by
  and_intros <;> (simp only [reportTimerEffect]; repeat' split) <;> simp

@[simp] theorem noticeOnAir_frame (s : State) :
    (noticeOnAir s).pending = s.pending ∧ (noticeOnAir s).clock = s.clock ∧ (noticeOnAir s).pins = s.pins ∧
    (noticeOnAir s).demand = s.demand ∧ (noticeOnAir s).blend = s.blend ∧ (noticeOnAir s).speed = s.speed ∧
    (noticeOnAir s).slide = s.slide ∧ (noticeOnAir s).output = s.output ∧ (noticeOnAir s).roster = s.roster ∧
    (noticeOnAir s).recorder = s.recorder ∧ (noticeOnAir s).store = s.store ∧ (noticeOnAir s).port = s.port ∧
    (noticeOnAir s).control = s.control := by
  and_intros <;> (simp only [noticeOnAir]; repeat' split) <;> simp

@[simp] theorem demandOnAir_frame (s : State) :
    (demandOnAir s).pending = s.pending ∧ (demandOnAir s).clock = s.clock ∧ (demandOnAir s).pins = s.pins ∧
    (demandOnAir s).demand = s.demand ∧ (demandOnAir s).blend = s.blend ∧ (demandOnAir s).speed = s.speed ∧
    (demandOnAir s).slide = s.slide ∧ (demandOnAir s).output = s.output ∧ (demandOnAir s).roster = s.roster ∧
    (demandOnAir s).recorder = s.recorder ∧ (demandOnAir s).store = s.store ∧ (demandOnAir s).port = s.port ∧
    (demandOnAir s).control = s.control := by
  and_intros <;> (simp only [demandOnAir]; repeat' split) <;> simp

@[simp] theorem reportOnAir_frame (s : State) :
    (reportOnAir s).pending = s.pending ∧ (reportOnAir s).clock = s.clock ∧ (reportOnAir s).pins = s.pins ∧
    (reportOnAir s).demand = s.demand ∧ (reportOnAir s).blend = s.blend ∧ (reportOnAir s).speed = s.speed ∧
    (reportOnAir s).output = s.output ∧ (reportOnAir s).roster = s.roster ∧
    (reportOnAir s).recorder = s.recorder ∧ (reportOnAir s).store = s.store ∧ (reportOnAir s).port = s.port ∧
    (reportOnAir s).control = s.control := by
  and_intros <;> simp only [reportOnAir] <;> simp

@[simp] theorem candidateOnAir_frame (k : FrameKind) (s : State) :
    (candidateOnAir k s).pending = s.pending ∧ (candidateOnAir k s).clock = s.clock ∧
    (candidateOnAir k s).pins = s.pins ∧ (candidateOnAir k s).demand = s.demand ∧
    (candidateOnAir k s).blend = s.blend ∧ (candidateOnAir k s).speed = s.speed ∧
    (candidateOnAir k s).output = s.output ∧ (candidateOnAir k s).roster = s.roster ∧
    (candidateOnAir k s).recorder = s.recorder ∧ (candidateOnAir k s).store = s.store ∧
    (candidateOnAir k s).port = s.port ∧ (candidateOnAir k s).control = s.control := by
  and_intros <;> cases k <;> simp [candidateOnAir]

@[simp] theorem firstGoesOnAirEffect_frame (idle : Nat) (s : State) :
    (firstGoesOnAirEffect idle s).pending = s.pending ∧ (firstGoesOnAirEffect idle s).clock = s.clock ∧
    (firstGoesOnAirEffect idle s).pins = s.pins ∧ (firstGoesOnAirEffect idle s).demand = s.demand ∧
    (firstGoesOnAirEffect idle s).blend = s.blend ∧ (firstGoesOnAirEffect idle s).speed = s.speed ∧
    (firstGoesOnAirEffect idle s).output = s.output ∧ (firstGoesOnAirEffect idle s).roster = s.roster ∧
    (firstGoesOnAirEffect idle s).recorder = s.recorder ∧ (firstGoesOnAirEffect idle s).store = s.store ∧
    (firstGoesOnAirEffect idle s).port = s.port ∧ (firstGoesOnAirEffect idle s).control = s.control := by
  and_intros <;> (simp only [firstGoesOnAirEffect]; repeat' split) <;> simp

@[simp] theorem retryAttemptEffect_frame (idle : Nat) (s : State) :
    (retryAttemptEffect idle s).pending = s.pending ∧ (retryAttemptEffect idle s).clock = s.clock ∧
    (retryAttemptEffect idle s).pins = s.pins ∧ (retryAttemptEffect idle s).demand = s.demand ∧
    (retryAttemptEffect idle s).blend = s.blend ∧ (retryAttemptEffect idle s).speed = s.speed ∧
    (retryAttemptEffect idle s).slide = s.slide ∧ (retryAttemptEffect idle s).output = s.output ∧
    (retryAttemptEffect idle s).roster = s.roster ∧ (retryAttemptEffect idle s).recorder = s.recorder ∧
    (retryAttemptEffect idle s).store = s.store ∧ (retryAttemptEffect idle s).port = s.port ∧
    (retryAttemptEffect idle s).control = s.control := by
  and_intros <;> (simp only [retryAttemptEffect]; repeat' split) <;> simp

@[simp] theorem attemptSuccessEffect_frame (s : State) :
    (attemptSuccessEffect s).pending = s.pending ∧ (attemptSuccessEffect s).clock = s.clock ∧
    (attemptSuccessEffect s).pins = s.pins ∧ (attemptSuccessEffect s).demand = s.demand ∧
    (attemptSuccessEffect s).blend = s.blend ∧ (attemptSuccessEffect s).speed = s.speed ∧
    (attemptSuccessEffect s).slide = s.slide ∧ (attemptSuccessEffect s).output = s.output ∧
    (attemptSuccessEffect s).roster = s.roster ∧ (attemptSuccessEffect s).recorder = s.recorder ∧
    (attemptSuccessEffect s).store = s.store ∧ (attemptSuccessEffect s).port = s.port ∧
    (attemptSuccessEffect s).control = s.control := by
  and_intros <;> (simp only [attemptSuccessEffect]; repeat' split) <;> simp

@[simp] theorem collisionEffect_frame (s : State) :
    (collisionEffect s).pending = s.pending ∧ (collisionEffect s).clock = s.clock ∧
    (collisionEffect s).pins = s.pins ∧ (collisionEffect s).demand = s.demand ∧
    (collisionEffect s).blend = s.blend ∧ (collisionEffect s).speed = s.speed ∧
    (collisionEffect s).slide = s.slide ∧ (collisionEffect s).output = s.output ∧
    (collisionEffect s).roster = s.roster ∧ (collisionEffect s).recorder = s.recorder ∧
    (collisionEffect s).store = s.store ∧ (collisionEffect s).port = s.port ∧
    (collisionEffect s).control = s.control := by
  and_intros <;> (simp only [collisionEffect]; repeat' split) <;> simp

@[simp] theorem giveUp_frame (c : FrameContent) (s : State) :
    (giveUp c s).pending = s.pending ∧ (giveUp c s).clock = s.clock ∧ (giveUp c s).pins = s.pins ∧
    (giveUp c s).demand = s.demand ∧ (giveUp c s).blend = s.blend ∧ (giveUp c s).speed = s.speed ∧
    (giveUp c s).slide = s.slide ∧ (giveUp c s).output = s.output ∧ (giveUp c s).roster = s.roster ∧
    (giveUp c s).store = s.store ∧ (giveUp c s).port = s.port ∧ (giveUp c s).control = s.control := by
  and_intros <;> (simp only [giveUp]; repeat' split) <;> simp

@[simp] theorem jamEndEffect_frame (s : State) :
    (jamEndEffect s).pending = s.pending ∧ (jamEndEffect s).clock = s.clock ∧ (jamEndEffect s).pins = s.pins ∧
    (jamEndEffect s).demand = s.demand ∧ (jamEndEffect s).blend = s.blend ∧ (jamEndEffect s).speed = s.speed ∧
    (jamEndEffect s).slide = s.slide ∧ (jamEndEffect s).output = s.output ∧ (jamEndEffect s).roster = s.roster ∧
    (jamEndEffect s).store = s.store ∧ (jamEndEffect s).port = s.port ∧ (jamEndEffect s).control = s.control := by
  and_intros <;> (simp only [jamEndEffect]; repeat' split) <;> simp

/-- Returning notices as not sent touches the Recorder alone. -/
theorem foldl_noticeReturned (cs : List NoticeContent) (s : State) :
    ∃ r, cs.foldl (fun t c => noticeReturned c.number t) s = s.setRecorder r := by
  induction cs generalizing s with
  | nil => exact ⟨s.recorder, rfl⟩
  | cons c cs ih =>
    obtain ⟨r, hr⟩ := ih (noticeReturned c.number s)
    exact ⟨r, by rw [List.foldl_cons, hr]; rfl⟩

@[simp] theorem lineToSafe_frame (s : State) :
    (lineToSafe s).pending = s.pending ∧ (lineToSafe s).clock = s.clock ∧ (lineToSafe s).pins = s.pins ∧
    (lineToSafe s).demand = s.demand ∧ (lineToSafe s).blend = s.blend ∧ (lineToSafe s).speed = s.speed ∧
    (lineToSafe s).slide = s.slide ∧ (lineToSafe s).output = s.output ∧ (lineToSafe s).roster = s.roster ∧
    (lineToSafe s).store = s.store ∧ (lineToSafe s).port = s.port ∧ (lineToSafe s).control = s.control := by
  obtain ⟨r, hr⟩ := foldl_noticeReturned s.line.noticesTaken (s.setLine s.line.toSafe)
  simp [lineToSafe, hr]

@[simp] theorem evalUnheard_frame (s : State) :
    (evalUnheard s).pending = s.pending ∧ (evalUnheard s).clock = s.clock ∧ (evalUnheard s).pins = s.pins ∧
    (evalUnheard s).demand = s.demand ∧ (evalUnheard s).blend = s.blend ∧ (evalUnheard s).speed = s.speed ∧
    (evalUnheard s).slide = s.slide ∧ (evalUnheard s).output = s.output ∧ (evalUnheard s).line = s.line ∧
    (evalUnheard s).recorder = s.recorder ∧ (evalUnheard s).store = s.store ∧ (evalUnheard s).port = s.port ∧
    (evalUnheard s).control = s.control := by
  and_intros <;> (simp only [evalUnheard]; repeat' split) <;> simp

@[simp] theorem unheardExpiryEffect_frame (s : State) :
    (unheardExpiryEffect s).pending = s.pending ∧ (unheardExpiryEffect s).clock = s.clock ∧
    (unheardExpiryEffect s).pins = s.pins ∧ (unheardExpiryEffect s).demand = s.demand ∧
    (unheardExpiryEffect s).blend = s.blend ∧ (unheardExpiryEffect s).speed = s.speed ∧
    (unheardExpiryEffect s).slide = s.slide ∧ (unheardExpiryEffect s).output = s.output ∧
    (unheardExpiryEffect s).port = s.port ∧ (unheardExpiryEffect s).control = s.control := by
  and_intros <;> (simp only [unheardExpiryEffect]; repeat' split) <;> simp

@[simp] theorem changeEntry_frame (n : Nat) (a b : Entry) (s : State) :
    (changeEntry n a b s).pending = s.pending ∧ (changeEntry n a b s).clock = s.clock ∧
    (changeEntry n a b s).pins = s.pins ∧ (changeEntry n a b s).demand = s.demand ∧
    (changeEntry n a b s).blend = s.blend ∧ (changeEntry n a b s).speed = s.speed ∧
    (changeEntry n a b s).slide = s.slide ∧ (changeEntry n a b s).output = s.output ∧
    (changeEntry n a b s).port = s.port ∧ (changeEntry n a b s).control = s.control := by
  and_intros <;> (simp only [changeEntry]; repeat' split) <;> simp

@[simp] theorem noticeArrival_frame (n : Nat) (k : BitVec 16) (s : State) :
    (noticeArrival n k s).pending = s.pending ∧ (noticeArrival n k s).clock = s.clock ∧
    (noticeArrival n k s).pins = s.pins ∧ (noticeArrival n k s).demand = s.demand ∧
    (noticeArrival n k s).blend = s.blend ∧ (noticeArrival n k s).speed = s.speed ∧
    (noticeArrival n k s).slide = s.slide ∧ (noticeArrival n k s).output = s.output ∧
    (noticeArrival n k s).port = s.port ∧ (noticeArrival n k s).control = s.control := by
  and_intros <;> (simp only [noticeArrival]; repeat' split) <;> simp

@[simp] theorem reportArrival_frame (n : Nat) (q : Byte) (p : ReportPayload) (s : State) :
    (reportArrival n q p s).pending = s.pending ∧ (reportArrival n q p s).clock = s.clock ∧
    (reportArrival n q p s).pins = s.pins ∧ (reportArrival n q p s).demand = s.demand ∧
    (reportArrival n q p s).blend = s.blend ∧ (reportArrival n q p s).speed = s.speed ∧
    (reportArrival n q p s).slide = s.slide ∧ (reportArrival n q p s).output = s.output ∧
    (reportArrival n q p s).port = s.port ∧ (reportArrival n q p s).control = s.control := by
  and_intros <;> (simp only [reportArrival]; repeat' split) <;> simp

@[simp] theorem demandArrival_frame (n : Nat) (p : List Byte) (s : State) :
    (demandArrival n p s).pending = s.pending ∧ (demandArrival n p s).clock = s.clock ∧
    (demandArrival n p s).pins = s.pins ∧ (demandArrival n p s).demand = s.demand ∧
    (demandArrival n p s).blend = s.blend ∧ (demandArrival n p s).speed = s.speed ∧
    (demandArrival n p s).slide = s.slide ∧ (demandArrival n p s).output = s.output ∧
    (demandArrival n p s).line = s.line ∧ (demandArrival n p s).recorder = s.recorder ∧
    (demandArrival n p s).store = s.store ∧ (demandArrival n p s).port = s.port ∧
    (demandArrival n p s).control = s.control := by
  and_intros <;> (simp only [demandArrival]; repeat' split) <;> simp

@[simp] theorem duplicateArrival_frame (s : State) :
    (duplicateArrival s).pending = s.pending ∧ (duplicateArrival s).clock = s.clock ∧
    (duplicateArrival s).pins = s.pins ∧ (duplicateArrival s).demand = s.demand ∧
    (duplicateArrival s).blend = s.blend ∧ (duplicateArrival s).speed = s.speed ∧
    (duplicateArrival s).slide = s.slide ∧ (duplicateArrival s).output = s.output ∧
    (duplicateArrival s).port = s.port ∧ (duplicateArrival s).control = s.control := by
  and_intros <;> (simp only [duplicateArrival]; repeat' split) <;> simp

@[simp] theorem duplicateExpiryEffect_frame (s : State) :
    (duplicateExpiryEffect s).pending = s.pending ∧ (duplicateExpiryEffect s).clock = s.clock ∧
    (duplicateExpiryEffect s).pins = s.pins ∧ (duplicateExpiryEffect s).demand = s.demand ∧
    (duplicateExpiryEffect s).blend = s.blend ∧ (duplicateExpiryEffect s).speed = s.speed ∧
    (duplicateExpiryEffect s).slide = s.slide ∧ (duplicateExpiryEffect s).output = s.output ∧
    (duplicateExpiryEffect s).line = s.line ∧ (duplicateExpiryEffect s).recorder = s.recorder ∧
    (duplicateExpiryEffect s).store = s.store ∧ (duplicateExpiryEffect s).port = s.port ∧
    (duplicateExpiryEffect s).control = s.control := by
  and_intros <;> (simp only [duplicateExpiryEffect]; repeat' split) <;> simp

@[simp] theorem silenceExpiryEffect_frame (n : Nat) (s : State) :
    (silenceExpiryEffect n s).pending = s.pending ∧ (silenceExpiryEffect n s).clock = s.clock ∧
    (silenceExpiryEffect n s).pins = s.pins ∧ (silenceExpiryEffect n s).demand = s.demand ∧
    (silenceExpiryEffect n s).blend = s.blend ∧ (silenceExpiryEffect n s).speed = s.speed ∧
    (silenceExpiryEffect n s).slide = s.slide ∧ (silenceExpiryEffect n s).output = s.output ∧
    (silenceExpiryEffect n s).port = s.port ∧ (silenceExpiryEffect n s).control = s.control := by
  and_intros <;> (simp only [silenceExpiryEffect]; repeat' split) <;> simp

@[simp] theorem framerIdleEffect_frame (s : State) :
    (framerIdleEffect s).pending = s.pending ∧ (framerIdleEffect s).clock = s.clock ∧
    (framerIdleEffect s).pins = s.pins ∧ (framerIdleEffect s).demand = s.demand ∧
    (framerIdleEffect s).blend = s.blend ∧ (framerIdleEffect s).speed = s.speed ∧
    (framerIdleEffect s).slide = s.slide ∧ (framerIdleEffect s).output = s.output ∧
    (framerIdleEffect s).roster = s.roster ∧ (framerIdleEffect s).recorder = s.recorder ∧
    (framerIdleEffect s).store = s.store ∧ (framerIdleEffect s).port = s.port ∧
    (framerIdleEffect s).control = s.control := by
  and_intros <;> (simp only [framerIdleEffect]; repeat' split) <;> simp

@[simp] theorem frameDiscardedEffect_frame (c : DiscardCause) (s : State) :
    (frameDiscardedEffect c s).pending = s.pending ∧ (frameDiscardedEffect c s).clock = s.clock ∧
    (frameDiscardedEffect c s).pins = s.pins ∧ (frameDiscardedEffect c s).demand = s.demand ∧
    (frameDiscardedEffect c s).blend = s.blend ∧ (frameDiscardedEffect c s).speed = s.speed ∧
    (frameDiscardedEffect c s).slide = s.slide ∧ (frameDiscardedEffect c s).output = s.output ∧
    (frameDiscardedEffect c s).roster = s.roster ∧ (frameDiscardedEffect c s).recorder = s.recorder ∧
    (frameDiscardedEffect c s).store = s.store ∧ (frameDiscardedEffect c s).port = s.port ∧
    (frameDiscardedEffect c s).control = s.control := by
  and_intros <;> (simp only [frameDiscardedEffect]; repeat' split) <;> simp

@[simp] theorem dispatchFrame_frame (f : ReceivedFrame) (s : State) :
    (dispatchFrame f s).pending = s.pending ∧ (dispatchFrame f s).clock = s.clock ∧
    (dispatchFrame f s).pins = s.pins ∧ (dispatchFrame f s).demand = s.demand ∧
    (dispatchFrame f s).blend = s.blend ∧ (dispatchFrame f s).speed = s.speed ∧
    (dispatchFrame f s).slide = s.slide ∧ (dispatchFrame f s).output = s.output ∧
    (dispatchFrame f s).port = s.port ∧ (dispatchFrame f s).control = s.control := by
  and_intros <;> (simp only [dispatchFrame]; repeat' split) <;> simp

@[simp] theorem frameCompleteEffect_frame (chars : List Byte) (s : State) :
    (frameCompleteEffect chars s).pending = s.pending ∧ (frameCompleteEffect chars s).clock = s.clock ∧
    (frameCompleteEffect chars s).pins = s.pins ∧ (frameCompleteEffect chars s).demand = s.demand ∧
    (frameCompleteEffect chars s).blend = s.blend ∧ (frameCompleteEffect chars s).speed = s.speed ∧
    (frameCompleteEffect chars s).slide = s.slide ∧ (frameCompleteEffect chars s).output = s.output ∧
    (frameCompleteEffect chars s).port = s.port ∧ (frameCompleteEffect chars s).control = s.control := by
  and_intros <;> (simp only [frameCompleteEffect, frameCompleted]; repeat' split) <;> simp

@[simp] theorem snapshotEffect_frame (s : State) :
    (snapshotEffect s).pending = s.pending ∧ (snapshotEffect s).clock = s.clock ∧
    (snapshotEffect s).pins = s.pins ∧ (snapshotEffect s).demand = s.demand ∧ (snapshotEffect s).blend = s.blend ∧
    (snapshotEffect s).speed = s.speed ∧ (snapshotEffect s).slide = s.slide ∧
    (snapshotEffect s).output = s.output ∧ (snapshotEffect s).line = s.line ∧
    (snapshotEffect s).roster = s.roster ∧ (snapshotEffect s).port = s.port ∧
    (snapshotEffect s).control = s.control := by
  and_intros <;> (simp only [snapshotEffect]; repeat' split) <;> simp

@[simp] theorem openPending_frame (p : Option Pending) (s : State) :
    (openPending p s).pending = s.pending ∧ (openPending p s).clock = s.clock ∧ (openPending p s).pins = s.pins ∧
    (openPending p s).demand = s.demand ∧ (openPending p s).blend = s.blend ∧ (openPending p s).speed = s.speed ∧
    (openPending p s).slide = s.slide ∧ (openPending p s).output = s.output ∧
    (openPending p s).roster = s.roster ∧ (openPending p s).port = s.port ∧
    (openPending p s).control = s.control := by
  and_intros <;> (simp only [openPending]; repeat' split) <;> simp

@[simp] theorem writeCompleteEffect_frame (rb : ReadBack) (s : State) :
    (writeCompleteEffect rb s).pending = s.pending ∧ (writeCompleteEffect rb s).clock = s.clock ∧
    (writeCompleteEffect rb s).pins = s.pins ∧ (writeCompleteEffect rb s).demand = s.demand ∧
    (writeCompleteEffect rb s).blend = s.blend ∧ (writeCompleteEffect rb s).speed = s.speed ∧
    (writeCompleteEffect rb s).slide = s.slide ∧ (writeCompleteEffect rb s).output = s.output ∧
    (writeCompleteEffect rb s).roster = s.roster ∧ (writeCompleteEffect rb s).port = s.port ∧
    (writeCompleteEffect rb s).control = s.control := by
  and_intros <;> (simp only [writeCompleteEffect]; repeat' split) <;> simp

@[simp] theorem eraseCompleteEffect_frame (clear : Bool) (s : State) :
    (eraseCompleteEffect clear s).pending = s.pending ∧ (eraseCompleteEffect clear s).clock = s.clock ∧
    (eraseCompleteEffect clear s).pins = s.pins ∧ (eraseCompleteEffect clear s).demand = s.demand ∧
    (eraseCompleteEffect clear s).blend = s.blend ∧ (eraseCompleteEffect clear s).speed = s.speed ∧
    (eraseCompleteEffect clear s).slide = s.slide ∧ (eraseCompleteEffect clear s).output = s.output ∧
    (eraseCompleteEffect clear s).line = s.line ∧ (eraseCompleteEffect clear s).roster = s.roster ∧
    (eraseCompleteEffect clear s).recorder = s.recorder ∧ (eraseCompleteEffect clear s).port = s.port ∧
    (eraseCompleteEffect clear s).control = s.control := by
  and_intros <;> (simp only [eraseCompleteEffect]; repeat' split) <;> simp

@[simp] theorem lockCompleteEffect_frame (m : MarkReading) (s : State) :
    (lockCompleteEffect m s).pending = s.pending ∧ (lockCompleteEffect m s).clock = s.clock ∧
    (lockCompleteEffect m s).pins = s.pins ∧ (lockCompleteEffect m s).demand = s.demand ∧
    (lockCompleteEffect m s).blend = s.blend ∧ (lockCompleteEffect m s).speed = s.speed ∧
    (lockCompleteEffect m s).slide = s.slide ∧ (lockCompleteEffect m s).output = s.output ∧
    (lockCompleteEffect m s).line = s.line ∧ (lockCompleteEffect m s).roster = s.roster ∧
    (lockCompleteEffect m s).recorder = s.recorder ∧ (lockCompleteEffect m s).port = s.port ∧
    (lockCompleteEffect m s).control = s.control := by
  and_intros <;> (simp only [lockCompleteEffect]; repeat' split) <;> simp

@[simp] theorem unlockCompleteEffect_frame (m : MarkReading) (s : State) :
    (unlockCompleteEffect m s).pending = s.pending ∧ (unlockCompleteEffect m s).clock = s.clock ∧
    (unlockCompleteEffect m s).pins = s.pins ∧ (unlockCompleteEffect m s).demand = s.demand ∧
    (unlockCompleteEffect m s).blend = s.blend ∧ (unlockCompleteEffect m s).speed = s.speed ∧
    (unlockCompleteEffect m s).slide = s.slide ∧ (unlockCompleteEffect m s).output = s.output ∧
    (unlockCompleteEffect m s).line = s.line ∧ (unlockCompleteEffect m s).roster = s.roster ∧
    (unlockCompleteEffect m s).recorder = s.recorder ∧ (unlockCompleteEffect m s).port = s.port ∧
    (unlockCompleteEffect m s).control = s.control := by
  and_intros <;> (simp only [unlockCompleteEffect]; repeat' split) <;> simp

@[simp] theorem changeMode_frame (m : Mode) (s : State) :
    (changeMode m s).pending = s.pending ∧ (changeMode m s).clock = s.clock ∧ (changeMode m s).pins = s.pins ∧
    (changeMode m s).demand = s.demand ∧ (changeMode m s).blend = s.blend ∧ (changeMode m s).speed = s.speed ∧
    (changeMode m s).slide = s.slide ∧ (changeMode m s).output = s.output ∧ (changeMode m s).line = s.line ∧
    (changeMode m s).roster = s.roster ∧ (changeMode m s).store = s.store ∧ (changeMode m s).port = s.port := by
  and_intros <;> simp only [changeMode] <;> simp

@[simp] theorem ownToSafe_frame (s : State) :
    (ownToSafe s).pending = s.pending ∧ (ownToSafe s).clock = s.clock ∧ (ownToSafe s).pins = s.pins ∧
    (ownToSafe s).demand = s.demand ∧ (ownToSafe s).blend = s.blend ∧ (ownToSafe s).speed = s.speed ∧
    (ownToSafe s).slide = s.slide ∧ (ownToSafe s).output = s.output ∧ (ownToSafe s).line = s.line ∧
    (ownToSafe s).recorder = s.recorder ∧ (ownToSafe s).store = s.store ∧ (ownToSafe s).port = s.port ∧
    (ownToSafe s).control = s.control := by
  and_intros <;> (simp only [ownToSafe]; repeat' split) <;> simp

@[simp] theorem blocksToSafe_frame (s : State) :
    (blocksToSafe s).pending = s.pending ∧ (blocksToSafe s).clock = s.clock ∧ (blocksToSafe s).pins = s.pins ∧
    (blocksToSafe s).speed = s.speed ∧ (blocksToSafe s).line = s.line ∧ (blocksToSafe s).recorder = s.recorder ∧
    (blocksToSafe s).store = s.store ∧ (blocksToSafe s).port = s.port ∧ (blocksToSafe s).control = s.control := by
  and_intros <;> simp only [blocksToSafe] <;> simp

@[simp] theorem enterSafe_frame (s : State) :
    (enterSafe s).pending = s.pending ∧ (enterSafe s).clock = s.clock ∧ (enterSafe s).pins = s.pins ∧
    (enterSafe s).speed = s.speed ∧ (enterSafe s).store = s.store ∧ (enterSafe s).port = s.port := by
  and_intros <;> simp only [enterSafe] <;> simp

@[simp] theorem powerFail_frame (s : State) :
    (powerFail s).pending = s.pending ∧ (powerFail s).clock = s.clock ∧ (powerFail s).pins = s.pins ∧
    (powerFail s).speed = s.speed ∧ (powerFail s).port = s.port := by
  and_intros <;> simp only [powerFail] <;> simp

@[simp] theorem startWork_frame (s : State) :
    (startWork s).pending = s.pending ∧ (startWork s).clock = s.clock ∧ (startWork s).pins = s.pins ∧
    (startWork s).blend = s.blend ∧ (startWork s).slide = s.slide ∧ (startWork s).store = s.store ∧
    (startWork s).port = s.port := by
  and_intros <;> simp only [startWork] <;> simp

@[simp] theorem runOutputs_frame (s : State) :
    (runOutputs s).pending = s.pending ∧ (runOutputs s).clock = s.clock ∧ (runOutputs s).pins = s.pins ∧
    (runOutputs s).demand = s.demand ∧ (runOutputs s).speed = s.speed ∧ (runOutputs s).slide = s.slide ∧
    (runOutputs s).line = s.line ∧ (runOutputs s).recorder = s.recorder ∧ (runOutputs s).store = s.store ∧
    (runOutputs s).port = s.port ∧ (runOutputs s).control = s.control := by
  and_intros <;> simp only [runOutputs] <;> simp

@[simp] theorem warningAtEntry_frame (s : State) :
    (warningAtEntry s).pending = s.pending ∧ (warningAtEntry s).clock = s.clock ∧
    (warningAtEntry s).pins = s.pins ∧ (warningAtEntry s).speed = s.speed ∧ (warningAtEntry s).port = s.port := by
  and_intros <;> (simp only [warningAtEntry]; repeat' split) <;> simp

@[simp] theorem enterRun_frame (fresh : Bool) (s : State) :
    (enterRun fresh s).pending = s.pending ∧ (enterRun fresh s).clock = s.clock ∧
    (enterRun fresh s).pins = s.pins ∧ (enterRun fresh s).port = s.port := by
  and_intros <;> (simp only [enterRun]; repeat' split) <;> simp

@[simp] theorem warningAssertedEffect_frame (s : State) :
    (warningAssertedEffect s).pending = s.pending ∧ (warningAssertedEffect s).clock = s.clock ∧
    (warningAssertedEffect s).pins = s.pins ∧ (warningAssertedEffect s).speed = s.speed ∧
    (warningAssertedEffect s).port = s.port := by
  and_intros <;> (simp only [warningAssertedEffect]; repeat' split) <;> simp

@[simp] theorem warningDeassertedEffect_frame (s : State) :
    (warningDeassertedEffect s).pending = s.pending ∧ (warningDeassertedEffect s).clock = s.clock ∧
    (warningDeassertedEffect s).pins = s.pins ∧ (warningDeassertedEffect s).demand = s.demand ∧
    (warningDeassertedEffect s).blend = s.blend ∧ (warningDeassertedEffect s).speed = s.speed ∧
    (warningDeassertedEffect s).slide = s.slide ∧ (warningDeassertedEffect s).output = s.output ∧
    (warningDeassertedEffect s).line = s.line ∧ (warningDeassertedEffect s).roster = s.roster ∧
    (warningDeassertedEffect s).recorder = s.recorder ∧ (warningDeassertedEffect s).store = s.store ∧
    (warningDeassertedEffect s).port = s.port := by
  and_intros <;> (simp only [warningDeassertedEffect]; repeat' split) <;> simp

@[simp] theorem releaseTimerEffect_frame (s : State) :
    (releaseTimerEffect s).pending = s.pending ∧ (releaseTimerEffect s).clock = s.clock ∧
    (releaseTimerEffect s).pins = s.pins ∧ (releaseTimerEffect s).port = s.port := by
  and_intros <;> (simp only [releaseTimerEffect]; repeat' split) <;> simp

@[simp] theorem recheckEffect_frame (s : State) :
    (recheckEffect s).pending = s.pending ∧ (recheckEffect s).clock = s.clock ∧ (recheckEffect s).pins = s.pins ∧
    (recheckEffect s).speed = s.speed ∧ (recheckEffect s).store = s.store ∧ (recheckEffect s).port = s.port := by
  and_intros <;> (simp only [recheckEffect]; repeat' split) <;> simp

@[simp] theorem settleRecord_frame (s : State) :
    (settleRecord s).pending = s.pending ∧ (settleRecord s).clock = s.clock ∧ (settleRecord s).pins = s.pins ∧
    (settleRecord s).demand = s.demand ∧ (settleRecord s).blend = s.blend ∧ (settleRecord s).slide = s.slide ∧
    (settleRecord s).output = s.output ∧ (settleRecord s).line = s.line ∧ (settleRecord s).roster = s.roster ∧
    (settleRecord s).recorder = s.recorder ∧ (settleRecord s).store = s.store ∧ (settleRecord s).port = s.port := by
  and_intros <;> (simp only [settleRecord]; repeat' split) <;> simp

@[simp] theorem scanEndEffect_frame (m : MarkReading) (s : State) :
    (scanEndEffect m s).pending = s.pending ∧ (scanEndEffect m s).clock = s.clock ∧
    (scanEndEffect m s).pins = s.pins ∧ (scanEndEffect m s).port = s.port := by
  and_intros <;> (simp only [scanEndEffect]; repeat' split) <;> simp

@[simp] theorem selectAssertedEffect_frame (s : State) :
    (selectAssertedEffect s).pending = s.pending ∧ (selectAssertedEffect s).clock = s.clock ∧
    (selectAssertedEffect s).demand = s.demand ∧ (selectAssertedEffect s).blend = s.blend ∧
    (selectAssertedEffect s).speed = s.speed ∧ (selectAssertedEffect s).slide = s.slide ∧
    (selectAssertedEffect s).output = s.output ∧ (selectAssertedEffect s).line = s.line ∧
    (selectAssertedEffect s).roster = s.roster ∧ (selectAssertedEffect s).recorder = s.recorder ∧
    (selectAssertedEffect s).store = s.store ∧ (selectAssertedEffect s).control = s.control := by
  and_intros <;> (simp only [selectAssertedEffect]; repeat' split) <;> simp

@[simp] theorem selectReleasedEffect_frame (s : State) :
    (selectReleasedEffect s).pending = s.pending ∧ (selectReleasedEffect s).clock = s.clock ∧
    (selectReleasedEffect s).demand = s.demand ∧ (selectReleasedEffect s).blend = s.blend ∧
    (selectReleasedEffect s).speed = s.speed ∧ (selectReleasedEffect s).slide = s.slide ∧
    (selectReleasedEffect s).output = s.output ∧ (selectReleasedEffect s).line = s.line ∧
    (selectReleasedEffect s).roster = s.roster ∧ (selectReleasedEffect s).recorder = s.recorder ∧
    (selectReleasedEffect s).store = s.store ∧ (selectReleasedEffect s).control = s.control := by
  and_intros <;> simp only [selectReleasedEffect] <;> simp

@[simp] theorem respond_frame (c : ResultCode) (d : List Byte) (s : State) :
    (respond c d s).pending = s.pending ∧ (respond c d s).clock = s.clock ∧ (respond c d s).pins = s.pins ∧
    (respond c d s).demand = s.demand ∧ (respond c d s).blend = s.blend ∧ (respond c d s).speed = s.speed ∧
    (respond c d s).slide = s.slide ∧ (respond c d s).output = s.output ∧ (respond c d s).line = s.line ∧
    (respond c d s).roster = s.roster ∧ (respond c d s).recorder = s.recorder ∧ (respond c d s).store = s.store ∧
    (respond c d s).control = s.control := by
  and_intros <;> (simp only [respond]; repeat' split) <;> simp

@[simp] theorem refuse_frame (c : ResultCode) (s : State) :
    (refuse c s).pending = s.pending ∧ (refuse c s).clock = s.clock ∧ (refuse c s).pins = s.pins ∧
    (refuse c s).demand = s.demand ∧ (refuse c s).blend = s.blend ∧ (refuse c s).speed = s.speed ∧
    (refuse c s).slide = s.slide ∧ (refuse c s).output = s.output ∧ (refuse c s).line = s.line ∧
    (refuse c s).roster = s.roster ∧ (refuse c s).recorder = s.recorder ∧ (refuse c s).store = s.store ∧
    (refuse c s).control = s.control := by
  and_intros <;> simp only [refuse] <;> simp

@[simp] theorem getStatusEffect_frame (p : List Byte) (s : State) :
    (getStatusEffect p s).pending = s.pending ∧ (getStatusEffect p s).clock = s.clock ∧
    (getStatusEffect p s).pins = s.pins ∧ (getStatusEffect p s).demand = s.demand ∧
    (getStatusEffect p s).blend = s.blend ∧ (getStatusEffect p s).speed = s.speed ∧
    (getStatusEffect p s).slide = s.slide ∧ (getStatusEffect p s).output = s.output ∧
    (getStatusEffect p s).line = s.line ∧ (getStatusEffect p s).roster = s.roster ∧
    (getStatusEffect p s).recorder = s.recorder ∧ (getStatusEffect p s).store = s.store ∧
    (getStatusEffect p s).control = s.control := by
  and_intros <;> (simp only [getStatusEffect, takeCommand, withLength]; repeat' split) <;> simp

@[simp] theorem getRosterEffect_frame (p : List Byte) (s : State) :
    (getRosterEffect p s).pending = s.pending ∧ (getRosterEffect p s).clock = s.clock ∧
    (getRosterEffect p s).pins = s.pins ∧ (getRosterEffect p s).demand = s.demand ∧
    (getRosterEffect p s).blend = s.blend ∧ (getRosterEffect p s).speed = s.speed ∧
    (getRosterEffect p s).slide = s.slide ∧ (getRosterEffect p s).output = s.output ∧
    (getRosterEffect p s).line = s.line ∧ (getRosterEffect p s).roster = s.roster ∧
    (getRosterEffect p s).recorder = s.recorder ∧ (getRosterEffect p s).store = s.store ∧
    (getRosterEffect p s).control = s.control := by
  and_intros <;> (simp only [getRosterEffect, takeCommand, withLength]; repeat' split) <;> simp

@[simp] theorem loadConfigEffect_frame (p : List Byte) (s : State) :
    (loadConfigEffect p s).pending = s.pending ∧ (loadConfigEffect p s).clock = s.clock ∧
    (loadConfigEffect p s).pins = s.pins ∧ (loadConfigEffect p s).demand = s.demand ∧
    (loadConfigEffect p s).blend = s.blend ∧ (loadConfigEffect p s).speed = s.speed ∧
    (loadConfigEffect p s).slide = s.slide ∧ (loadConfigEffect p s).output = s.output ∧
    (loadConfigEffect p s).line = s.line ∧ (loadConfigEffect p s).roster = s.roster ∧
    (loadConfigEffect p s).recorder = s.recorder ∧ (loadConfigEffect p s).store = s.store := by
  and_intros <;> (simp only [loadConfigEffect, takeCommand, withLength, answerLoadConfig, loadRecord]; repeat' split) <;> simp

@[simp] theorem activate_frame (l : LoadedRecord) (s : State) :
    (activate l s).pending = s.pending ∧ (activate l s).clock = s.clock ∧ (activate l s).pins = s.pins ∧
    (activate l s).demand = s.demand ∧ (activate l s).blend = s.blend ∧ (activate l s).slide = s.slide ∧
    (activate l s).output = s.output ∧ (activate l s).line = s.line ∧ (activate l s).roster = s.roster ∧
    (activate l s).recorder = s.recorder ∧ (activate l s).store = s.store ∧ (activate l s).port = s.port := by
  and_intros <;> simp only [activate] <;> simp

@[simp] theorem startEffect_frame (p : List Byte) (s : State) :
    (startEffect p s).pending = s.pending ∧ (startEffect p s).clock = s.clock ∧ (startEffect p s).pins = s.pins := by
  and_intros <;> (simp only [startEffect, takeCommand, withLength, answerStart]; repeat' split) <;> simp

@[simp] theorem getDirectoryEffect_frame (p : List Byte) (s : State) :
    (getDirectoryEffect p s).pending = s.pending ∧ (getDirectoryEffect p s).clock = s.clock ∧
    (getDirectoryEffect p s).pins = s.pins ∧ (getDirectoryEffect p s).demand = s.demand ∧
    (getDirectoryEffect p s).blend = s.blend ∧ (getDirectoryEffect p s).speed = s.speed ∧
    (getDirectoryEffect p s).slide = s.slide ∧ (getDirectoryEffect p s).output = s.output ∧
    (getDirectoryEffect p s).line = s.line ∧ (getDirectoryEffect p s).roster = s.roster ∧
    (getDirectoryEffect p s).recorder = s.recorder ∧ (getDirectoryEffect p s).store = s.store ∧
    (getDirectoryEffect p s).control = s.control := by
  and_intros <;> (simp only [getDirectoryEffect, takeCommand, withLength, answerDirectory]; repeat' split) <;> simp

@[simp] theorem readIncidentEffect_frame (p : List Byte) (s : State) :
    (readIncidentEffect p s).pending = s.pending ∧ (readIncidentEffect p s).clock = s.clock ∧
    (readIncidentEffect p s).pins = s.pins ∧ (readIncidentEffect p s).demand = s.demand ∧
    (readIncidentEffect p s).blend = s.blend ∧ (readIncidentEffect p s).speed = s.speed ∧
    (readIncidentEffect p s).slide = s.slide ∧ (readIncidentEffect p s).output = s.output ∧
    (readIncidentEffect p s).line = s.line ∧ (readIncidentEffect p s).roster = s.roster ∧
    (readIncidentEffect p s).recorder = s.recorder ∧ (readIncidentEffect p s).store = s.store ∧
    (readIncidentEffect p s).control = s.control := by
  and_intros <;> (simp only [readIncidentEffect, takeCommand, withLength, answerRead]; repeat' split) <;> simp

@[simp] theorem readEventsEffect_frame (p : List Byte) (s : State) :
    (readEventsEffect p s).pending = s.pending ∧ (readEventsEffect p s).clock = s.clock ∧
    (readEventsEffect p s).pins = s.pins ∧ (readEventsEffect p s).demand = s.demand ∧
    (readEventsEffect p s).blend = s.blend ∧ (readEventsEffect p s).speed = s.speed ∧
    (readEventsEffect p s).slide = s.slide ∧ (readEventsEffect p s).output = s.output ∧
    (readEventsEffect p s).line = s.line ∧ (readEventsEffect p s).roster = s.roster ∧
    (readEventsEffect p s).recorder = s.recorder ∧ (readEventsEffect p s).store = s.store ∧
    (readEventsEffect p s).control = s.control := by
  and_intros <;> (simp only [readEventsEffect, takeCommand, withLength, answerRead]; repeat' split) <;> simp

@[simp] theorem readHistoryEffect_frame (p : List Byte) (s : State) :
    (readHistoryEffect p s).pending = s.pending ∧ (readHistoryEffect p s).clock = s.clock ∧
    (readHistoryEffect p s).pins = s.pins ∧ (readHistoryEffect p s).demand = s.demand ∧
    (readHistoryEffect p s).blend = s.blend ∧ (readHistoryEffect p s).speed = s.speed ∧
    (readHistoryEffect p s).slide = s.slide ∧ (readHistoryEffect p s).output = s.output ∧
    (readHistoryEffect p s).line = s.line ∧ (readHistoryEffect p s).roster = s.roster ∧
    (readHistoryEffect p s).recorder = s.recorder ∧ (readHistoryEffect p s).store = s.store ∧
    (readHistoryEffect p s).control = s.control := by
  and_intros <;> (simp only [readHistoryEffect, takeCommand, withLength, answerHistory]; repeat' split) <;> simp

@[simp] theorem lockSlotEffect_frame (p : List Byte) (s : State) :
    (lockSlotEffect p s).pending = s.pending ∧ (lockSlotEffect p s).clock = s.clock ∧
    (lockSlotEffect p s).pins = s.pins ∧ (lockSlotEffect p s).demand = s.demand ∧
    (lockSlotEffect p s).blend = s.blend ∧ (lockSlotEffect p s).speed = s.speed ∧
    (lockSlotEffect p s).slide = s.slide ∧ (lockSlotEffect p s).output = s.output ∧
    (lockSlotEffect p s).line = s.line ∧ (lockSlotEffect p s).roster = s.roster ∧
    (lockSlotEffect p s).recorder = s.recorder ∧ (lockSlotEffect p s).control = s.control := by
  and_intros <;> (simp only [lockSlotEffect, takeCommand, withLength, answerRequest]; repeat' split) <;> simp

@[simp] theorem unlockSlotEffect_frame (p : List Byte) (m : Bool) (s : State) :
    (unlockSlotEffect p m s).pending = s.pending ∧ (unlockSlotEffect p m s).clock = s.clock ∧
    (unlockSlotEffect p m s).demand = s.demand ∧ (unlockSlotEffect p m s).blend = s.blend ∧
    (unlockSlotEffect p m s).speed = s.speed ∧ (unlockSlotEffect p m s).slide = s.slide ∧
    (unlockSlotEffect p m s).output = s.output ∧ (unlockSlotEffect p m s).line = s.line ∧
    (unlockSlotEffect p m s).roster = s.roster ∧ (unlockSlotEffect p m s).recorder = s.recorder ∧
    (unlockSlotEffect p m s).control = s.control := by
  and_intros <;> (simp only [unlockSlotEffect, takeCommand, withLength, answerRequest]; repeat' split) <;> simp

@[simp] theorem eraseSlotEffect_frame (p : List Byte) (s : State) :
    (eraseSlotEffect p s).pending = s.pending ∧ (eraseSlotEffect p s).clock = s.clock ∧
    (eraseSlotEffect p s).pins = s.pins ∧ (eraseSlotEffect p s).demand = s.demand ∧
    (eraseSlotEffect p s).blend = s.blend ∧ (eraseSlotEffect p s).speed = s.speed ∧
    (eraseSlotEffect p s).slide = s.slide ∧ (eraseSlotEffect p s).output = s.output ∧
    (eraseSlotEffect p s).line = s.line ∧ (eraseSlotEffect p s).roster = s.roster ∧
    (eraseSlotEffect p s).recorder = s.recorder ∧ (eraseSlotEffect p s).control = s.control := by
  and_intros <;> (simp only [eraseSlotEffect, takeCommand, withLength, answerRequest]; repeat' split) <;> simp

@[simp] theorem markEffect_frame (p : List Byte) (s : State) :
    (markEffect p s).pending = s.pending ∧ (markEffect p s).clock = s.clock ∧ (markEffect p s).pins = s.pins ∧
    (markEffect p s).demand = s.demand ∧ (markEffect p s).blend = s.blend ∧ (markEffect p s).speed = s.speed ∧
    (markEffect p s).slide = s.slide ∧ (markEffect p s).output = s.output ∧ (markEffect p s).roster = s.roster ∧
    (markEffect p s).control = s.control := by
  and_intros <;> (simp only [markEffect, takeCommand, withLength, answerMark]; repeat' split) <;> simp

@[simp] theorem unknownCommandEffect_frame (c : Byte) (p : List Byte) (s : State) :
    (unknownCommandEffect c p s).pending = s.pending ∧ (unknownCommandEffect c p s).clock = s.clock := by
  and_intros <;> (simp only [unknownCommandEffect, takeCommand]; repeat' split) <;> simp

@[simp] theorem resetAssertedEffect_frame (i : ResetInput) (s : State) :
    (resetAssertedEffect i s).pending = s.pending ∧ (resetAssertedEffect i s).clock = s.clock ∧
    (resetAssertedEffect i s).demand = s.demand ∧ (resetAssertedEffect i s).blend = s.blend ∧
    (resetAssertedEffect i s).speed = s.speed ∧ (resetAssertedEffect i s).slide = s.slide ∧
    (resetAssertedEffect i s).output = s.output ∧ (resetAssertedEffect i s).roster = s.roster ∧
    (resetAssertedEffect i s).recorder = s.recorder := by
  and_intros <;> (simp only [resetAssertedEffect]; repeat' split) <;> simp

@[simp] theorem resetReleased_frame (b : Bool) (v : ReleaseLevels) (s : State) :
    (resetReleased b v s).pending = s.pending := by
  simp only [resetReleased, powerOnRelease, hardRelease, releaseCommon]
  repeat' split
  all_goals simp

end Sys2Proof.Machine
end

