-- ==== Sys2Proof/Laws/Control.lean ====
section
/-!
SUPPORT. What the entries to RUN and SAFE do to the Mode Controller, and to each block.
-/

namespace Sys2Proof.Machine

open Sys2Proof

@[simp] theorem changeMode_control (m : Mode) (s : State) :
    (changeMode m s).control = { s.control with mode := m } := by simp [changeMode]

@[simp] theorem changeMode_recorder (m : Mode) (s : State) :
    (changeMode m s).recorder = s.recorder.log ⟨s.now, .mode s.control.mode m⟩ := by
  simp [changeMode, logEvent, State.now]

@[simp] theorem lineToSafe_line (s : State) : (lineToSafe s).line = s.line.toSafe := by
  obtain ⟨r, hr⟩ := foldl_noticeReturned s.line.noticesTaken (s.setLine s.line.toSafe)
  simp [lineToSafe, hr]

@[simp] theorem enterSafe_control (s : State) :
    (enterSafe s).control = { s.control with mode := .safe } := by simp [enterSafe]

@[simp] theorem enterSafe_demand (s : State) : (enterSafe s).demand = s.demand.endControlling := by
  simp [enterSafe, blocksToSafe]

@[simp] theorem enterSafe_blend (s : State) : (enterSafe s).blend = s.blend.toSafe := by
  simp [enterSafe, blocksToSafe]

@[simp] theorem enterSafe_slide (s : State) : (enterSafe s).slide = s.slide.toNormal := by
  simp [enterSafe, blocksToSafe]

@[simp] theorem enterSafe_output (s : State) : (enterSafe s).output = s.output.toSafe := by
  simp [enterSafe, blocksToSafe]

@[simp] theorem enterSafe_line (s : State) : (enterSafe s).line = s.line.toSafe := by
  simp [enterSafe]

@[simp] theorem powerFail_control (s : State) :
    (powerFail s).control = { s.control with mode := .safe } := by simp [powerFail]

@[simp] theorem powerFail_demand (s : State) : (powerFail s).demand = s.demand.endControlling := by simp [powerFail]

@[simp] theorem powerFail_blend (s : State) : (powerFail s).blend = s.blend.toSafe := by simp [powerFail]

@[simp] theorem powerFail_slide (s : State) : (powerFail s).slide = s.slide.toNormal := by simp [powerFail]

@[simp] theorem powerFail_output (s : State) : (powerFail s).output = s.output.toSafe := by simp [powerFail]

@[simp] theorem startWork_control (s : State) :
    (startWork s).control = { s.control with recheckTimer := some s.now } := by
  simp [startWork, State.now]

/-- Of the entry to RUN from INIT or CONFIG, the Mode Controller's part. -/
theorem enterRun_control_fresh (s : State) :
    (enterRun true s).control =
      if s.control.warning then
        { s.control with mode := .safe, recheckTimer := some s.now, releaseTimer := none }
      else { s.control with mode := .run, recheckTimer := some s.now } := by
  simp only [enterRun, warningAtEntry]
  split <;> split <;> simp_all [State.now]

/-- Of a return from SAFE to RUN, the Mode Controller's part. -/
theorem enterRun_control_return (s : State) :
    (enterRun false s).control =
      if s.control.warning then { s.control with mode := .safe, releaseTimer := none }
      else { s.control with mode := .run } := by
  simp only [enterRun, warningAtEntry]
  split <;> split <;> simp_all

end Sys2Proof.Machine
end

