-- ==== Sys2Proof/Laws/Views.lean ====
section
/-!
SUPPORT. What the derived readings of the state (the parameters in force, the two counters, whether a reset is asserted) make of
each update. All true by rfl.
-/

namespace Sys2Proof.Machine

open Sys2Proof

/-- The parameters in force are the active record's alone. -/
theorem params_congr {s t : State} (h : t.control.active = s.control.active) : t.params = s.params := by
  simp only [State.params, h]

/-- A device is held in reset by its two reset pins alone. -/
theorem heldInReset_congr {s t : State} (h : t.pins = s.pins) : t.heldInReset = s.heldInReset := by
  simp only [State.heldInReset, h]

@[simp] theorem State.setPending_params (s : State) (v) : (s.setPending v).params = s.params := rfl
@[simp] theorem State.setClock_params (s : State) (v) : (s.setClock v).params = s.params := rfl
@[simp] theorem State.setPins_params (s : State) (v) : (s.setPins v).params = s.params := rfl
@[simp] theorem State.setDemand_params (s : State) (v) : (s.setDemand v).params = s.params := rfl
@[simp] theorem State.setBlend_params (s : State) (v) : (s.setBlend v).params = s.params := rfl
@[simp] theorem State.setSpeed_params (s : State) (v) : (s.setSpeed v).params = s.params := rfl
@[simp] theorem State.setSlide_params (s : State) (v) : (s.setSlide v).params = s.params := rfl
@[simp] theorem State.setOutput_params (s : State) (v) : (s.setOutput v).params = s.params := rfl
@[simp] theorem State.setLine_params (s : State) (v) : (s.setLine v).params = s.params := rfl
@[simp] theorem State.setRoster_params (s : State) (v) : (s.setRoster v).params = s.params := rfl
@[simp] theorem State.setRecorder_params (s : State) (v) : (s.setRecorder v).params = s.params := rfl
@[simp] theorem State.setStore_params (s : State) (v) : (s.setStore v).params = s.params := rfl
@[simp] theorem State.setPort_params (s : State) (v) : (s.setPort v).params = s.params := rfl

@[simp] theorem State.setPending_now (s : State) (v) : (s.setPending v).now = s.now := rfl
@[simp] theorem State.setPins_now (s : State) (v) : (s.setPins v).now = s.now := rfl
@[simp] theorem State.setDemand_now (s : State) (v) : (s.setDemand v).now = s.now := rfl
@[simp] theorem State.setBlend_now (s : State) (v) : (s.setBlend v).now = s.now := rfl
@[simp] theorem State.setSpeed_now (s : State) (v) : (s.setSpeed v).now = s.now := rfl
@[simp] theorem State.setSlide_now (s : State) (v) : (s.setSlide v).now = s.now := rfl
@[simp] theorem State.setOutput_now (s : State) (v) : (s.setOutput v).now = s.now := rfl
@[simp] theorem State.setLine_now (s : State) (v) : (s.setLine v).now = s.now := rfl
@[simp] theorem State.setRoster_now (s : State) (v) : (s.setRoster v).now = s.now := rfl
@[simp] theorem State.setRecorder_now (s : State) (v) : (s.setRecorder v).now = s.now := rfl
@[simp] theorem State.setStore_now (s : State) (v) : (s.setStore v).now = s.now := rfl
@[simp] theorem State.setPort_now (s : State) (v) : (s.setPort v).now = s.now := rfl
@[simp] theorem State.setControl_now (s : State) (v) : (s.setControl v).now = s.now := rfl

@[simp] theorem State.setPending_micros (s : State) (v) : (s.setPending v).micros = s.micros := rfl
@[simp] theorem State.setPins_micros (s : State) (v) : (s.setPins v).micros = s.micros := rfl
@[simp] theorem State.setDemand_micros (s : State) (v) : (s.setDemand v).micros = s.micros := rfl
@[simp] theorem State.setBlend_micros (s : State) (v) : (s.setBlend v).micros = s.micros := rfl
@[simp] theorem State.setSpeed_micros (s : State) (v) : (s.setSpeed v).micros = s.micros := rfl
@[simp] theorem State.setSlide_micros (s : State) (v) : (s.setSlide v).micros = s.micros := rfl
@[simp] theorem State.setOutput_micros (s : State) (v) : (s.setOutput v).micros = s.micros := rfl
@[simp] theorem State.setLine_micros (s : State) (v) : (s.setLine v).micros = s.micros := rfl
@[simp] theorem State.setRoster_micros (s : State) (v) : (s.setRoster v).micros = s.micros := rfl
@[simp] theorem State.setRecorder_micros (s : State) (v) : (s.setRecorder v).micros = s.micros := rfl
@[simp] theorem State.setStore_micros (s : State) (v) : (s.setStore v).micros = s.micros := rfl
@[simp] theorem State.setPort_micros (s : State) (v) : (s.setPort v).micros = s.micros := rfl
@[simp] theorem State.setControl_micros (s : State) (v) : (s.setControl v).micros = s.micros := rfl

@[simp] theorem State.setPending_heldInReset (s : State) (v) : (s.setPending v).heldInReset = s.heldInReset := rfl
@[simp] theorem State.setClock_heldInReset (s : State) (v) : (s.setClock v).heldInReset = s.heldInReset := rfl
@[simp] theorem State.setDemand_heldInReset (s : State) (v) : (s.setDemand v).heldInReset = s.heldInReset := rfl
@[simp] theorem State.setBlend_heldInReset (s : State) (v) : (s.setBlend v).heldInReset = s.heldInReset := rfl
@[simp] theorem State.setSpeed_heldInReset (s : State) (v) : (s.setSpeed v).heldInReset = s.heldInReset := rfl
@[simp] theorem State.setSlide_heldInReset (s : State) (v) : (s.setSlide v).heldInReset = s.heldInReset := rfl
@[simp] theorem State.setOutput_heldInReset (s : State) (v) : (s.setOutput v).heldInReset = s.heldInReset := rfl
@[simp] theorem State.setLine_heldInReset (s : State) (v) : (s.setLine v).heldInReset = s.heldInReset := rfl
@[simp] theorem State.setRoster_heldInReset (s : State) (v) : (s.setRoster v).heldInReset = s.heldInReset := rfl
@[simp] theorem State.setRecorder_heldInReset (s : State) (v) : (s.setRecorder v).heldInReset = s.heldInReset := rfl
@[simp] theorem State.setStore_heldInReset (s : State) (v) : (s.setStore v).heldInReset = s.heldInReset := rfl
@[simp] theorem State.setPort_heldInReset (s : State) (v) : (s.setPort v).heldInReset = s.heldInReset := rfl
@[simp] theorem State.setControl_heldInReset (s : State) (v) : (s.setControl v).heldInReset = s.heldInReset := rfl

@[simp] theorem State.setPending_lacksRecord (s : State) (v) : (s.setPending v).lacksRecord = s.lacksRecord := rfl
@[simp] theorem State.setClock_lacksRecord (s : State) (v) : (s.setClock v).lacksRecord = s.lacksRecord := rfl
@[simp] theorem State.setPins_lacksRecord (s : State) (v) : (s.setPins v).lacksRecord = s.lacksRecord := rfl
@[simp] theorem State.setDemand_lacksRecord (s : State) (v) : (s.setDemand v).lacksRecord = s.lacksRecord := rfl
@[simp] theorem State.setBlend_lacksRecord (s : State) (v) : (s.setBlend v).lacksRecord = s.lacksRecord := rfl
@[simp] theorem State.setSpeed_lacksRecord (s : State) (v) : (s.setSpeed v).lacksRecord = s.lacksRecord := rfl
@[simp] theorem State.setSlide_lacksRecord (s : State) (v) : (s.setSlide v).lacksRecord = s.lacksRecord := rfl
@[simp] theorem State.setOutput_lacksRecord (s : State) (v) : (s.setOutput v).lacksRecord = s.lacksRecord := rfl
@[simp] theorem State.setLine_lacksRecord (s : State) (v) : (s.setLine v).lacksRecord = s.lacksRecord := rfl
@[simp] theorem State.setRoster_lacksRecord (s : State) (v) : (s.setRoster v).lacksRecord = s.lacksRecord := rfl
@[simp] theorem State.setRecorder_lacksRecord (s : State) (v) : (s.setRecorder v).lacksRecord = s.lacksRecord := rfl
@[simp] theorem State.setStore_lacksRecord (s : State) (v) : (s.setStore v).lacksRecord = s.lacksRecord := rfl
@[simp] theorem State.setPort_lacksRecord (s : State) (v) : (s.setPort v).lacksRecord = s.lacksRecord := rfl

end Sys2Proof.Machine
end

