-- ==== Sys2Proof/Laws/Exec.lean ====
section
/-!
SUPPORT. One form for all commands: time passes, then the command's effect takes place.
-/

namespace Sys2Proof.Machine

open Sys2Proof

/-- The commands of the reset inputs, which take place while a reset is asserted too. -/
def resetCommand : Instr → Bool
  | .powerOnResetRelease _ _ => true
  | .hardResetRelease _ _ => true
  | .resetAsserted _ _ => true
  | _ => false

/-- The effect of a command on the state that its time has brought about. -/
def effectOf : Instr → State → State
  | .powerOnResetRelease _ levels => powerOnReleaseEffect levels
  | .hardResetRelease _ levels => hardReleaseEffect levels
  | .resetAsserted _ input => resetAssertedEffect input
  | .scanEnd _ cutMark => scanEndEffect cutMark
  | .powerFailWarningAsserted _ => warningAssertedEffect
  | .powerFailWarningDeasserted _ => warningDeassertedEffect
  | .releaseTimerExpiry _ => releaseTimerEffect
  | .configurationRecheck _ => recheckEffect
  | .demandSample _ handle cab handleEmergency trainLine => demandSampleEffect handle cab handleEmergency trainLine
  | .demandFrameTimerExpiry _ => demandFrameEffect
  | .speedSweep _ => speedSweepEffect
  | .tachometerEdge _ axle => tachometerEffect axle
  | .blendComputation _ => blendEffect
  | .converterFeedback _ chars => converterFeedbackEffect chars
  | .stalenessExpiry _ => stalenessEffect
  | .requestMessage _ => requestMessageEffect
  | .pressureSample _ truck1 truck2 => pressureSampleEffect truck1 truck2
  | .reportTimerExpiry _ => reportTimerEffect
  | .firstGoesOnAir _ idle => firstGoesOnAirEffect idle
  | .retryAttempt _ idle => retryAttemptEffect idle
  | .attemptSuccess _ => attemptSuccessEffect
  | .collision _ => collisionEffect
  | .jamEnd _ => jamEndEffect
  | .framerIdle _ => framerIdleEffect
  | .frameComplete _ chars => frameCompleteEffect chars
  | .silenceExpiry _ station => silenceExpiryEffect station
  | .unheardExpiry _ => unheardExpiryEffect
  | .duplicateExpiry _ => duplicateExpiryEffect
  | .snapshot _ => snapshotEffect
  | .writeComplete _ readBack => writeCompleteEffect readBack
  | .eraseComplete _ clear => eraseCompleteEffect clear
  | .lockComplete _ mark => lockCompleteEffect mark
  | .unlockComplete _ mark => unlockCompleteEffect mark
  | .selectAsserted _ => selectAssertedEffect
  | .selectReleased _ => selectReleasedEffect
  | .unknownCommand _ code params => unknownCommandEffect code params
  | .getStatus _ params => getStatusEffect params
  | .getRoster _ params => getRosterEffect params
  | .loadConfig _ params => loadConfigEffect params
  | .start _ params => startEffect params
  | .getDirectory _ params => getDirectoryEffect params
  | .readIncident _ params => readIncidentEffect params
  | .readEvents _ params => readEventsEffect params
  | .readHistory _ params => readHistoryEffect params
  | .lockSlot _ params => lockSlotEffect params
  | .unlockSlot _ params maintenance => unlockSlotEffect params maintenance
  | .eraseSlot _ params => eraseSlotEffect params
  | .mark _ params => markEffect params
  | .frameDiscarded _ cause => frameDiscardedEffect cause

/-- Every command but those of the resets enters by `perform`. -/
theorem exec_eq_perform {c : Instr} (hc : resetCommand c = false) (s : State) :
    exec c s = perform c.dt (effectOf c) s := by
  cases c <;> first | rfl | cases hc

/-- A command that answers a next state either had its effect after its time had passed, or met a device held in reset. -/
theorem exec_cases {c : Instr} {s t : State} (h : exec c s = .next t) :
    t = effectOf c (s.advance c.dt) ∧ (resetCommand c = true ∨ (s.heldInReset = false ∧ s.lacksRecord = false)) ∨
    t = s.advance c.dt ∧ s.heldInReset = true := by
  by_cases hc : resetCommand c = true
  · left
    refine ⟨?_, .inl hc⟩
    cases c <;> first | (cases h; rfl) | cases hc
  · rw [exec_eq_perform (by simpa using hc)] at h
    obtain ⟨hr, rfl⟩ | ⟨hr, hl, rfl⟩ := perform_cases h
    · exact .inr ⟨rfl, hr⟩
    · exact .inl ⟨rfl, .inr ⟨hr, hl⟩⟩

/-- A device that works answers every command with its effect. -/
theorem exec_next {c : Instr} {s : State} (hr : s.heldInReset = false) (hl : s.lacksRecord = false) :
    exec c s = .next (effectOf c (s.advance c.dt)) := by
  by_cases hc : resetCommand c = true
  · cases c <;> first | rfl | cases hc
  · rw [exec_eq_perform (by simpa using hc), perform_next hr hl]

end Sys2Proof.Machine
end

