-- ==== Sys2Proof/Laws/PerInstr.lean ====
section
/-!
SUPPORT. A statement about every command as syntax: the passage that a command carries is free. One lemma for each
constructor.
-/

namespace Sys2Proof.Laws.TimePasses

open Sys2Proof

/-- A command with another passage before it. -/
def after (dt : Passage) : Instr → Instr
  | .powerOnResetRelease _ levels => .powerOnResetRelease dt levels
  | .hardResetRelease _ levels => .hardResetRelease dt levels
  | .resetAsserted _ input => .resetAsserted dt input
  | .scanEnd _ cutMark => .scanEnd dt cutMark
  | .powerFailWarningAsserted _ => .powerFailWarningAsserted dt
  | .powerFailWarningDeasserted _ => .powerFailWarningDeasserted dt
  | .releaseTimerExpiry _ => .releaseTimerExpiry dt
  | .configurationRecheck _ => .configurationRecheck dt
  | .demandSample _ handle cab handleEmergency trainLine => .demandSample dt handle cab handleEmergency trainLine
  | .demandFrameTimerExpiry _ => .demandFrameTimerExpiry dt
  | .speedSweep _ => .speedSweep dt
  | .tachometerEdge _ axle => .tachometerEdge dt axle
  | .blendComputation _ => .blendComputation dt
  | .converterFeedback _ chars => .converterFeedback dt chars
  | .stalenessExpiry _ => .stalenessExpiry dt
  | .requestMessage _ => .requestMessage dt
  | .pressureSample _ truck1 truck2 => .pressureSample dt truck1 truck2
  | .reportTimerExpiry _ => .reportTimerExpiry dt
  | .firstGoesOnAir _ idle => .firstGoesOnAir dt idle
  | .retryAttempt _ idle => .retryAttempt dt idle
  | .attemptSuccess _ => .attemptSuccess dt
  | .collision _ => .collision dt
  | .jamEnd _ => .jamEnd dt
  | .framerIdle _ => .framerIdle dt
  | .frameComplete _ chars => .frameComplete dt chars
  | .silenceExpiry _ station => .silenceExpiry dt station
  | .unheardExpiry _ => .unheardExpiry dt
  | .duplicateExpiry _ => .duplicateExpiry dt
  | .snapshot _ => .snapshot dt
  | .writeComplete _ readBack => .writeComplete dt readBack
  | .eraseComplete _ clear => .eraseComplete dt clear
  | .lockComplete _ mark => .lockComplete dt mark
  | .unlockComplete _ mark => .unlockComplete dt mark
  | .selectAsserted _ => .selectAsserted dt
  | .selectReleased _ => .selectReleased dt
  | .unknownCommand _ code params => .unknownCommand dt code params
  | .getStatus _ params => .getStatus dt params
  | .getRoster _ params => .getRoster dt params
  | .loadConfig _ params => .loadConfig dt params
  | .start _ params => .start dt params
  | .getDirectory _ params => .getDirectory dt params
  | .readIncident _ params => .readIncident dt params
  | .readEvents _ params => .readEvents dt params
  | .readHistory _ params => .readHistory dt params
  | .lockSlot _ params => .lockSlot dt params
  | .unlockSlot _ params maintenance => .unlockSlot dt params maintenance
  | .eraseSlot _ params => .eraseSlot dt params
  | .mark _ params => .mark dt params
  | .frameDiscarded _ cause => .frameDiscarded dt cause

/-- Every passage is possible before a command, whatever its operands, and a command is well formed when its passage and its
operands are, each for itself. -/
def Statement (c : Instr) : Prop :=
  ∀ dt, (after dt c).dt = dt ∧ (after dt c).wellFormed = (dt.wellFormed && c.operandsWellFormed) ∧ after c.dt c = c

theorem powerOnResetRelease (dt : Passage) (levels : ReleaseLevels) :
    Statement (.powerOnResetRelease dt levels) :=
  fun _ => ⟨rfl, rfl, rfl⟩

theorem hardResetRelease (dt : Passage) (levels : ReleaseLevels) : Statement (.hardResetRelease dt levels) :=
  fun _ => ⟨rfl, rfl, rfl⟩

theorem resetAsserted (dt : Passage) (input : ResetInput) : Statement (.resetAsserted dt input) :=
  fun _ => ⟨rfl, rfl, rfl⟩

theorem scanEnd (dt : Passage) (cutMark : MarkReading) : Statement (.scanEnd dt cutMark) :=
  fun _ => ⟨rfl, rfl, rfl⟩

theorem powerFailWarningAsserted (dt : Passage) : Statement (.powerFailWarningAsserted dt) :=
  fun _ => ⟨rfl, rfl, rfl⟩

theorem powerFailWarningDeasserted (dt : Passage) : Statement (.powerFailWarningDeasserted dt) :=
  fun _ => ⟨rfl, rfl, rfl⟩

theorem releaseTimerExpiry (dt : Passage) : Statement (.releaseTimerExpiry dt) := fun _ => ⟨rfl, rfl, rfl⟩

theorem configurationRecheck (dt : Passage) : Statement (.configurationRecheck dt) := fun _ => ⟨rfl, rfl, rfl⟩

theorem demandSample (dt : Passage) (handle : BitVec 10) (cab handleEmergency trainLine : Bool) :
    Statement (.demandSample dt handle cab handleEmergency trainLine) :=
  fun _ => ⟨rfl, rfl, rfl⟩

theorem demandFrameTimerExpiry (dt : Passage) : Statement (.demandFrameTimerExpiry dt) := fun _ => ⟨rfl, rfl, rfl⟩

theorem speedSweep (dt : Passage) : Statement (.speedSweep dt) := fun _ => ⟨rfl, rfl, rfl⟩

theorem tachometerEdge (dt : Passage) (axle : Nat) : Statement (.tachometerEdge dt axle) :=
  fun _ => ⟨rfl, rfl, rfl⟩

theorem blendComputation (dt : Passage) : Statement (.blendComputation dt) := fun _ => ⟨rfl, rfl, rfl⟩

theorem converterFeedback (dt : Passage) (chars : List Byte) : Statement (.converterFeedback dt chars) :=
  fun _ => ⟨rfl, rfl, rfl⟩

theorem stalenessExpiry (dt : Passage) : Statement (.stalenessExpiry dt) := fun _ => ⟨rfl, rfl, rfl⟩

theorem requestMessage (dt : Passage) : Statement (.requestMessage dt) := fun _ => ⟨rfl, rfl, rfl⟩

theorem pressureSample (dt : Passage) (truck1 truck2 : BitVec 10) :
    Statement (.pressureSample dt truck1 truck2) :=
  fun _ => ⟨rfl, rfl, rfl⟩

theorem reportTimerExpiry (dt : Passage) : Statement (.reportTimerExpiry dt) := fun _ => ⟨rfl, rfl, rfl⟩

theorem firstGoesOnAir (dt : Passage) (idle : Nat) : Statement (.firstGoesOnAir dt idle) := fun _ => ⟨rfl, rfl, rfl⟩

theorem retryAttempt (dt : Passage) (idle : Nat) : Statement (.retryAttempt dt idle) := fun _ => ⟨rfl, rfl, rfl⟩

theorem attemptSuccess (dt : Passage) : Statement (.attemptSuccess dt) := fun _ => ⟨rfl, rfl, rfl⟩

theorem collision (dt : Passage) : Statement (.collision dt) := fun _ => ⟨rfl, rfl, rfl⟩

theorem jamEnd (dt : Passage) : Statement (.jamEnd dt) := fun _ => ⟨rfl, rfl, rfl⟩

theorem framerIdle (dt : Passage) : Statement (.framerIdle dt) := fun _ => ⟨rfl, rfl, rfl⟩

theorem frameComplete (dt : Passage) (chars : List Byte) : Statement (.frameComplete dt chars) :=
  fun _ => ⟨rfl, rfl, rfl⟩

theorem silenceExpiry (dt : Passage) (station : Nat) : Statement (.silenceExpiry dt station) :=
  fun _ => ⟨rfl, rfl, rfl⟩

theorem unheardExpiry (dt : Passage) : Statement (.unheardExpiry dt) := fun _ => ⟨rfl, rfl, rfl⟩

theorem duplicateExpiry (dt : Passage) : Statement (.duplicateExpiry dt) := fun _ => ⟨rfl, rfl, rfl⟩

theorem snapshot (dt : Passage) : Statement (.snapshot dt) := fun _ => ⟨rfl, rfl, rfl⟩

theorem writeComplete (dt : Passage) (readBack : ReadBack) : Statement (.writeComplete dt readBack) :=
  fun _ => ⟨rfl, rfl, rfl⟩

theorem eraseComplete (dt : Passage) (clear : Bool) : Statement (.eraseComplete dt clear) :=
  fun _ => ⟨rfl, rfl, rfl⟩

theorem lockComplete (dt : Passage) (mark : MarkReading) : Statement (.lockComplete dt mark) :=
  fun _ => ⟨rfl, rfl, rfl⟩

theorem unlockComplete (dt : Passage) (mark : MarkReading) : Statement (.unlockComplete dt mark) :=
  fun _ => ⟨rfl, rfl, rfl⟩

theorem selectAsserted (dt : Passage) : Statement (.selectAsserted dt) := fun _ => ⟨rfl, rfl, rfl⟩

theorem selectReleased (dt : Passage) : Statement (.selectReleased dt) := fun _ => ⟨rfl, rfl, rfl⟩

theorem unknownCommand (dt : Passage) (code : Byte) (params : List Byte) :
    Statement (.unknownCommand dt code params) :=
  fun _ => ⟨rfl, rfl, rfl⟩

theorem getStatus (dt : Passage) (params : List Byte) : Statement (.getStatus dt params) :=
  fun _ => ⟨rfl, rfl, rfl⟩

theorem getRoster (dt : Passage) (params : List Byte) : Statement (.getRoster dt params) :=
  fun _ => ⟨rfl, rfl, rfl⟩

theorem loadConfig (dt : Passage) (params : List Byte) : Statement (.loadConfig dt params) :=
  fun _ => ⟨rfl, rfl, rfl⟩

theorem start (dt : Passage) (params : List Byte) : Statement (.start dt params) := fun _ => ⟨rfl, rfl, rfl⟩

theorem getDirectory (dt : Passage) (params : List Byte) : Statement (.getDirectory dt params) :=
  fun _ => ⟨rfl, rfl, rfl⟩

theorem readIncident (dt : Passage) (params : List Byte) : Statement (.readIncident dt params) :=
  fun _ => ⟨rfl, rfl, rfl⟩

theorem readEvents (dt : Passage) (params : List Byte) : Statement (.readEvents dt params) :=
  fun _ => ⟨rfl, rfl, rfl⟩

theorem readHistory (dt : Passage) (params : List Byte) : Statement (.readHistory dt params) :=
  fun _ => ⟨rfl, rfl, rfl⟩

theorem lockSlot (dt : Passage) (params : List Byte) : Statement (.lockSlot dt params) := fun _ => ⟨rfl, rfl, rfl⟩

theorem unlockSlot (dt : Passage) (params : List Byte) (maintenance : Bool) :
    Statement (.unlockSlot dt params maintenance) :=
  fun _ => ⟨rfl, rfl, rfl⟩

theorem eraseSlot (dt : Passage) (params : List Byte) : Statement (.eraseSlot dt params) :=
  fun _ => ⟨rfl, rfl, rfl⟩

theorem mark (dt : Passage) (params : List Byte) : Statement (.mark dt params) := fun _ => ⟨rfl, rfl, rfl⟩

theorem frameDiscarded (dt : Passage) (cause : DiscardCause) : Statement (.frameDiscarded dt cause) := by
  intro n; cases cause <;> exact ⟨rfl, rfl, rfl⟩

end Sys2Proof.Laws.TimePasses
end

