-- ==== Sys2Proof/Laws/Port.lean ====
section
/-!
SUPPORT. The taking and answering of a service command.
-/

namespace Sys2Proof.Machine

open Sys2Proof

/-- The commands of a device that accepts them have their effect. -/
theorem exec_accepted {c : Instr} {s : State} (h : Accepts s) : exec c s = .next (effectOf c (s.advance c.dt)) :=
  exec_next h.released h.record

/-- The state in which a taken command is answered. -/
def State.taken (code : Byte) (params : List Byte) (s : State) : State :=
  s.setPort { s.port with framer := .answering, buffer := commandBytes code params, bitCount := 0, shift := 0 }

/-- A command that the device hears is taken and answered. -/
theorem takeCommand_heard {dt : Passage} {code : Byte} {params : List Byte} {answer : State → State} {s : State}
    (h : s.hears dt code params) :
    takeCommand code params answer (s.advance dt) = answer ((s.advance dt).taken code params) := by
  rw [takeCommand, if_pos ⟨by simpa using h.receiving, h.begun⟩, State.taken]

/-- A command that the device does not hear has no effect. -/
theorem takeCommand_unheard {dt : Passage} {code : Byte} {params : List Byte} {answer : State → State} {s : State}
    (h : ¬ s.hears dt code params) : takeCommand code params answer (s.advance dt) = s.advance dt := by
  rw [takeCommand, if_neg]
  rintro ⟨hr, hb⟩
  exact h ⟨by simpa using hr, hb⟩

/-- An OK response to a taken command. -/
theorem respond_ok_taken (dt : Passage) (code : Byte) (params data : List Byte) (s : State) :
    respond .ok data ((s.advance dt).taken code params) = s.answered dt code params (0 :: data) := by
  simp [respond, State.taken, State.answered, commandBytes, ResultCode.code]

/-- A refusal of a taken command. -/
theorem refuse_taken (dt : Passage) (code : Byte) (params : List Byte) {r : ResultCode} (h : r ≠ .ok) (s : State) :
    refuse r ((s.advance dt).taken code params) = s.answered dt code params [r.code] := by
  simp [refuse, respond, State.taken, State.answered, commandBytes, h]

/-- A command with the wrong parameter length is answered FORMAT. -/
theorem takeCommand_format {dt : Passage} {code : Byte} {params : List Byte} {want : Nat} {answer : State → State} {s : State}
    (hf : s.hears dt code params) (hl : params.length ≠ want) :
    takeCommand code params (withLength want params answer) (s.advance dt) = s.answered dt code params [3] := by
  rw [takeCommand_heard hf, withLength, if_neg hl, refuse_taken dt code params (by simp)]; rfl

/-! ### The clocks keep the port's relations -/

/-- One more bit takes one more place. -/
theorem shiftIn_lt {bits : Byte} {k : Nat} (h : bits.toNat < 2 ^ k) (bit : Bool) :
    (shiftIn bit bits).toNat < 2 ^ (k + 1) := by
  rw [shiftIn, BitVec.toNat_or]
  refine Nat.or_lt_two_pow ?_ ?_
  · rw [BitVec.toNat_shiftLeft, Nat.shiftLeft_eq]
    have := Nat.mod_le (bits.toNat * 2 ^ 1) (2 ^ 8)
    omega
  · have : (flagByte bit).toNat ≤ 1 := by cases bit <;> decide
    have := Nat.one_lt_two_pow_iff.mpr (Nat.succ_ne_zero k)
    omega

/-- One clock keeps the relations of the Service Port. -/
theorem PortSafe.clock {s : State} (h : PortSafe s) (bit : Bool) : PortSafe (s.setPort (s.port.clock bit)) := by
  obtain ⟨response, position, count, shift, unread, receiving, dataOut⟩ := h
  unfold ServicePort.clock
  split
  · rename_i hf
    unfold ServicePort.clockIn
    split
    · exact ⟨response, position, by simp; omega, shiftIn_lt shift bit, by simp [hf], receiving, dataOut⟩
    · split
      · exact ⟨response, position, count, shift, unread, receiving, dataOut⟩
      · exact ⟨response, position, by simp, by simp, by simp, by simp_all, dataOut⟩
  · rename_i hf
    unfold ServicePort.clockOut
    split
    · exact ⟨response, position, count, shift, unread, receiving, dataOut⟩
    · rename_i r hr
      constructor
      · simp [hf]
      · intro x hx
        simp only [State.setPort_port, Option.some.injEq] at hx
        subst hx
        split
        · exact position r hr
        · exact Nat.min_le_right _ _
      · simp only [State.setPort_port]; split <;> omega
      · simp only [State.setPort_port, unread (by simp [hf])]; exact Nat.two_pow_pos _
      · exact unread
      · simp [hf]
      · simp [hf]
  · exact ⟨response, position, count, shift, unread, receiving, dataOut⟩
  · exact ⟨response, position, count, shift, unread, receiving, dataOut⟩

/-- Clocks keep the relations of the Service Port. -/
theorem PortSafe.clocked {s : State} (h : PortSafe s) (bits : List Bool) :
    PortSafe (s.setPort (s.port.clocked bits)) := by
  induction bits generalizing s with
  | nil => exact h
  | cons bit bits ih => simpa [clocked_cons] using ih (h.clock bit)

end Sys2Proof.Machine
end

