-- ==== Sys2Proof/Laws/Tables.lean ====
section
/-!
SUPPORT. The lists of the state: rings, roster entries, store slots, and the masks over the eight stations.
-/

namespace Sys2Proof.Machine

open Sys2Proof

/-! ### Rings -/

/-- A push into a ring of at least one place keeps a tail of the old items and adds the new one at the end. -/
theorem pushRing_eq {α : Type} {n : Nat} (hn : 0 < n) (x : α) (ring : List α) :
    pushRing n x ring = ring.drop (ring.length + 1 - n) ++ [x] := by
  rw [pushRing, List.drop_append, show ring.length + 1 - n - ring.length = 0 by omega, List.drop_zero]

/-- The item pushed is the newest. -/
theorem pushRing_getLast {α : Type} {n : Nat} (hn : 0 < n) (x : α) (ring : List α) :
    (pushRing n x ring).getLast? = some x := by
  rw [pushRing_eq hn, List.getLast?_append]; rfl

/-- The item pushed stands in the ring. -/
theorem mem_pushRing {α : Type} {n : Nat} (hn : 0 < n) (x : α) (ring : List α) : x ∈ pushRing n x ring := by
  rw [pushRing_eq hn]; simp

/-- A ring never holds more than its size. -/
theorem pushRing_length {α : Type} {n : Nat} (x : α) (ring : List α) :
    (pushRing n x ring).length ≤ n := by
  simp [pushRing]; omega

/-! ### Roster entries -/

theorem Roster.entry?_eq_some {r : Roster} {n : Nat} {e : Entry} :
    r.entry? n = some e ↔ 1 ≤ n ∧ r.entries[n - 1]? = some e := by
  unfold Roster.entry?; split
  · constructor
    · intro h; cases h
    · rintro ⟨h, -⟩; omega
  · exact ⟨fun h => ⟨by omega, h⟩, And.right⟩

/-- A station that has an entry numbers at most as many as there are. -/
theorem Roster.entry?_bound {r : Roster} {n : Nat} {e : Entry} (h : r.entry? n = some e) :
    1 ≤ n ∧ n ≤ r.entries.length ∧ e ∈ r.entries := by
  obtain ⟨h1, h2⟩ := Roster.entry?_eq_some.1 h
  obtain ⟨hl, he⟩ := List.getElem?_eq_some_iff.1 h2
  exact ⟨h1, by omega, he ▸ List.getElem_mem hl⟩

theorem Roster.setEntry_entry?_same {r : Roster} {n : Nat} {x : Entry} (h1 : 1 ≤ n) (h2 : n ≤ r.entries.length) :
    (r.setEntry n x).entry? n = some x := by
  simp only [Roster.entry?, Roster.setEntry]
  rw [if_neg (by omega), List.getElem?_set, if_pos rfl, if_pos (by omega)]

theorem Roster.setEntry_entry?_other {r : Roster} {n m : Nat} {x : Entry} (h1 : 1 ≤ n) (h : m ≠ n) :
    (r.setEntry n x).entry? m = r.entry? m := by
  simp only [Roster.entry?, Roster.setEntry]; split
  · rfl
  · rw [List.getElem?_set, if_neg (by omega)]

/-! ### Slots -/

theorem Store.slot?_eq_some {st : Store} {n : Nat} {x : Slot} :
    st.slot? n = some x ↔ 1 ≤ n ∧ st.slots[n - 1]? = some x := by
  unfold Store.slot?; split
  · constructor
    · intro h; cases h
    · rintro ⟨h, -⟩; omega
  · exact ⟨fun h => ⟨by omega, h⟩, And.right⟩

theorem Store.setSlot_slot?_same {st : Store} {n : Nat} {x : Slot} (h1 : 1 ≤ n) (h2 : n ≤ st.slots.length) :
    (st.setSlot n x).slot? n = some x := by
  simp only [Store.slot?, Store.setSlot]
  rw [if_neg (by omega), List.getElem?_set, if_pos rfl, if_pos (by omega)]

theorem Store.setSlot_slot?_other {st : Store} {n m : Nat} {x : Slot} (h1 : 1 ≤ n) (h : m ≠ n) :
    (st.setSlot n x).slot? m = st.slot? m := by
  simp only [Store.slot?, Store.setSlot]; split
  · rfl
  · rw [List.getElem?_set, if_neg (by omega)]

/-! ### Masks -/

/-- The bits of a byte made of eight of them. -/
theorem byteOfBits_bit (b0 b1 b2 b3 b4 b5 b6 b7 : Bool) : ∀ i : Fin 8,
    (byteOfBits [b0, b1, b2, b3, b4, b5, b6, b7]).getLsbD i.val = [b0, b1, b2, b3, b4, b5, b6, b7].getD i.val false := by
  revert b0 b1 b2 b3 b4 b5 b6 b7; decide +kernel

/-- A mask of an eight-entry roster names the stations whose entries are in the state. -/
theorem Roster.maskOf_bit {r : Roster} {st : EntryState} {n : Nat} {e : Entry} (hl : r.entries.length = 8) (hn : n ≤ 8)
    (he : r.entry? n = some e) : (r.maskOf st).getLsbD (n - 1) = true ↔ e.state = st := by
  obtain ⟨h1, h2⟩ := Roster.entry?_eq_some.1 he
  have bits : ∀ bits : List Bool, bits.length = 8 → ∀ i, i < 8 → (byteOfBits bits).getLsbD i = bits.getD i false := by
    intro bits h i hi
    rcases bits with _ | ⟨b0, _ | ⟨b1, _ | ⟨b2, _ | ⟨b3, _ | ⟨b4, _ | ⟨b5, _ | ⟨b6, _ | ⟨b7, _ | ⟨b8, l⟩⟩⟩⟩⟩⟩⟩⟩⟩ <;>
      simp at h
    exact byteOfBits_bit b0 b1 b2 b3 b4 b5 b6 b7 ⟨i, hi⟩
  rw [Roster.maskOf, bits _ (by simp [hl]) _ (by omega), List.getD_eq_getElem?_getD, List.getElem?_map, h2]
  simp

end Sys2Proof.Machine
end

