-- ==== Sys2Proof/Laws/Raise.lean ====
section
/-!
SUPPORT. What logging an event and raising a source do to the Recorder and the Line Controller, and what they leave: the history
ring, the snapshot timer, and every other block (`RaisedFrom`).
-/

namespace Sys2Proof.Machine

open Sys2Proof

/-! ### The parts of a firing -/

/-- Offering a NOTICE changes nothing of the Recorder but the image, and of the line it adds at most one NOTICE to the queue. -/
theorem offerNotice_spec (s : State) : ∃ image ns,
    (offerNotice s).recorder = { s.recorder with image := image } ∧
    (offerNotice s).line = s.line.withQueue { s.line.queue with notices := s.line.queue.notices ++ ns } := by
  have same : s.line = s.line.withQueue { s.line.queue with notices := s.line.queue.notices ++ [] } := by
    simp [LineController.withQueue]
  unfold offerNotice; split
  · exact ⟨s.recorder.image, [], rfl, same⟩
  · rename_i img _
    split
    · unfold enqueueNotice; split
      · exact ⟨_, [⟨img.number, img.cause, img.cls⟩], rfl, rfl⟩
      · exact ⟨_, [], rfl, same⟩
    · exact ⟨s.recorder.image, [], rfl, same⟩

/-- A commit begins a WRITE in an idle store or leaves the store. -/
theorem beginCommit_store (s : State) : (beginCommit s).store = s.store ∨
    s.store.op = .none ∧ ∃ n img, s.store.chooseSlot = some n ∧ (beginCommit s).store = s.store.beginWrite n img := by
  unfold beginCommit; split
  · rename_i img _ _ ho
    split
    · exact .inr ⟨ho, _, img, ‹_›, rfl⟩
    · exact .inl rfl
  · exact .inl rfl

/-- A firing changes of the Recorder the image, the capture, the pending trigger and the last opened number, and logs at most one
event; of the line it adds at most one NOTICE to the queue; of the store it begins at most a WRITE. -/
theorem fire_spec (f : Pending) (s : State) : ∃ image capture pending opened events ns,
    (fire f s).recorder = { s.recorder with
      image := image, capture := capture, pendingTrigger := pending, lastOpened := opened, events := events } ∧
    (events = s.recorder.events ∨ ∃ e, e.time = s.now ∧ events = pushRing 32 e s.recorder.events) ∧
    (fire f s).line = s.line.withQueue { s.line.queue with notices := s.line.queue.notices ++ ns } ∧
    ((fire f s).store = s.store ∨
      s.store.op = .none ∧ ∃ n img, s.store.chooseSlot = some n ∧ (fire f s).store = s.store.beginWrite n img) := by
  have merge : ∃ image events ns, (mergeIntoImage f s).recorder = { s.recorder with image := image, events := events } ∧
      (events = s.recorder.events ∨ ∃ e, e.time = s.now ∧ events = pushRing 32 e s.recorder.events) ∧
      (mergeIntoImage f s).line = s.line.withQueue { s.line.queue with notices := s.line.queue.notices ++ ns } := by
    unfold mergeIntoImage
    obtain ⟨image, ns, hr, hl⟩ := offerNotice_spec
      ((logEvent (.secondaryTrigger f.cause f.cls) s).setRecorder
        { (logEvent (.secondaryTrigger f.cause f.cls) s).recorder with
          image := (logEvent (.secondaryTrigger f.cause f.cls) s).recorder.image.map (Image.merge f.cls) })
    exact ⟨image, _, ns, hr, .inr ⟨_, rfl, rfl⟩, by simpa using hl⟩
  unfold fire; split
  · unfold openIncident
    obtain ⟨image, ns, hr, hl⟩ := offerNotice_spec (s.setRecorder { s.recorder with
      image := some (s.openedImage f), lastOpened := (s.openedImage f).number
      capture := if f.power then .committing else .filling })
    refine ⟨image, if f.power then .committing else .filling, s.recorder.pendingTrigger, (s.openedImage f).number,
      s.recorder.events, ns, ?_, .inl rfl, ?_, ?_⟩
    · simp only [beginCommit_frame]; exact hr
    · simp only [beginCommit_frame]; simpa using hl
    · simpa using beginCommit_store (offerNotice (s.setRecorder { s.recorder with
        image := some (s.openedImage f), lastOpened := (s.openedImage f).number
        capture := if f.power then .committing else .filling }))
  · obtain ⟨image, events, ns, hr, he, hl⟩ := merge
    split
    · unfold endFillingOnPower
      refine ⟨(mergeIntoImage f s).recorder.image.map fun img => { img with flags := { img.flags with power := true } },
        .committing, s.recorder.pendingTrigger, s.recorder.lastOpened, events, ns, ?_, he, by simp [hl], ?_⟩
      · simp only [beginCommit_frame, State.setRecorder_recorder, hr]
      · simpa using beginCommit_store ((mergeIntoImage f s).setRecorder { (mergeIntoImage f s).recorder with
          image := (mergeIntoImage f s).recorder.image.map fun img => { img with flags := { img.flags with power := true } }
          capture := .committing })
    · exact ⟨image, s.recorder.capture, s.recorder.pendingTrigger, s.recorder.lastOpened, events, ns, hr, he, hl,
        .inl (by simp)⟩
  · unfold holdFiring; split
    · exact ⟨s.recorder.image, s.recorder.capture, _, s.recorder.lastOpened, s.recorder.events, [], rfl, .inl rfl,
        by simp [LineController.withQueue], .inl rfl⟩
    · exact ⟨_, s.recorder.capture, _, s.recorder.lastOpened, _, [], rfl, .inr ⟨_, rfl, rfl⟩,
        by simp [LineController.withQueue], .inl rfl⟩

/-! ### Raising -/

/-- Everything that a raising does to the Recorder, the line and the store: the source's last occurrence time is set, and the rest
is a firing's. -/
theorem raiseWith_spec (c : Source) (g : Machine.Class) (o : Option Originator) (s : State) :
    ∃ image capture pending opened events ns,
      (raiseWith c g o s).recorder = { s.recorder with
        image := image, capture := capture, pendingTrigger := pending, lastOpened := opened, events := events
        lastOccurrence := s.recorder.lastOccurrence.set (c.codeNat - 1) (some s.now) } ∧
      (events = s.recorder.events ∨ ∃ e, e.time = s.now ∧ events = pushRing 32 e s.recorder.events) ∧
      (raiseWith c g o s).line = s.line.withQueue { s.line.queue with notices := s.line.queue.notices ++ ns } ∧
      ((raiseWith c g o s).store = s.store ∨
        s.store.op = .none ∧ ∃ n img, s.store.chooseSlot = some n ∧
          (raiseWith c g o s).store = s.store.beginWrite n img) := by
  unfold raiseWith; simp only []; split
  · obtain ⟨i, k, p, n, e, ns, hr, he, hl, hs⟩ := fire_spec _ (s.setRecorder { s.recorder with
      lastOccurrence := s.recorder.lastOccurrence.set (c.codeNat - 1) (some s.now) })
    exact ⟨i, k, p, n, e, ns, hr, he, hl, hs⟩
  · exact ⟨s.recorder.image, s.recorder.capture, s.recorder.pendingTrigger, s.recorder.lastOpened, s.recorder.events, [],
      rfl, .inl rfl, by simp [LineController.withQueue], .inl rfl⟩

@[simp] theorem raiseWith_history (c : Source) (g : Machine.Class) (o : Option Originator) (s : State) :
    (raiseWith c g o s).recorder.history = s.recorder.history := by
  obtain ⟨_, _, _, _, _, _, h, _⟩ := raiseWith_spec c g o s; rw [h]

@[simp] theorem raiseWith_snapshotTimer (c : Source) (g : Machine.Class) (o : Option Originator) (s : State) :
    (raiseWith c g o s).recorder.snapshotTimer = s.recorder.snapshotTimer := by
  obtain ⟨_, _, _, _, _, _, h, _⟩ := raiseWith_spec c g o s; rw [h]

@[simp] theorem raiseWith_lastOccurrence (c : Source) (g : Machine.Class) (o : Option Originator) (s : State) :
    (raiseWith c g o s).recorder.lastOccurrence = s.recorder.lastOccurrence.set (c.codeNat - 1) (some s.now) := by
  obtain ⟨_, _, _, _, _, _, h, _⟩ := raiseWith_spec c g o s; rw [h]

/-- A raising logs at most one event, at the present time. -/
theorem raiseWith_events (c : Source) (g : Machine.Class) (o : Option Originator) (s : State) :
    (raiseWith c g o s).recorder.events = s.recorder.events ∨
    ∃ e, e.time = s.now ∧ (raiseWith c g o s).recorder.events = pushRing 32 e s.recorder.events := by
  obtain ⟨_, _, _, _, _, _, h, he, _⟩ := raiseWith_spec c g o s; rw [h]; exact he

/-- A raising sets the last occurrence time of its own source and of no other. -/
theorem raiseWith_lastOccurrenceOf (c : Source) (g : Machine.Class) (o : Option Originator) {s : State} {n : Nat}
    (hl : s.recorder.lastOccurrence.length = 12) (hn : 1 ≤ n) :
    (raiseWith c g o s).recorder.lastOccurrenceOf n =
      if n = c.codeNat then some s.now else s.recorder.lastOccurrenceOf n := by
  have hc : 1 ≤ c.codeNat ∧ c.codeNat ≤ 12 := by cases c <;> decide
  simp only [Recorder.lastOccurrenceOf, raiseWith_lastOccurrence, List.getD_eq_getElem?_getD, List.getElem?_set]
  by_cases h : n = c.codeNat
  · subst h; rw [if_pos rfl, if_pos rfl, if_pos (by omega)]; rfl
  · rw [if_neg h, if_neg (by omega)]

/-! ### What raising and logging leave -/

/-- Two states that agree but for NOTICEs added to the queue, events of this moment, occurrences of this moment, the rest of the
Recorder's capture, and a WRITE begun. -/
theorem RaisedFrom.of_blocks {s t : State} (ns : List NoticeContent) (es : List Event)
    (line : t.line = s.line.withQueue { s.line.queue with notices := s.line.queue.notices ++ ns })
    (history : t.recorder.history = s.recorder.history) (timer : t.recorder.snapshotTimer = s.recorder.snapshotTimer)
    (events : t.recorder.events = es.foldl (fun ring e => pushRing 32 e ring) s.recorder.events)
    (times : ∀ e ∈ es, e.time = s.now)
    (occurrence : ∀ n, t.recorder.lastOccurrenceOf n = s.recorder.lastOccurrenceOf n ∨
      t.recorder.lastOccurrenceOf n = some s.now)
    (store : t.store = s.store ∨
      s.store.op = .none ∧ ∃ n img, s.store.chooseSlot = some n ∧ t.store = s.store.beginWrite n img)
    (others : t.pending = s.pending ∧ t.clock = s.clock ∧ t.pins = s.pins ∧ t.demand = s.demand ∧ t.blend = s.blend ∧
      t.speed = s.speed ∧ t.slide = s.slide ∧ t.output = s.output ∧ t.roster = s.roster ∧ t.port = s.port ∧
      t.control = s.control) : RaisedFrom s t :=
  ⟨t.recorder, t.store, ns, es, by apply State.ext_blocks <;> simp [*], history, timer, events, times, occurrence, store⟩

theorem RaisedFrom.refl (s : State) : RaisedFrom s s :=
  .of_blocks [] [] (by simp [LineController.withQueue]) rfl rfl rfl (by simp) (fun _ => .inl rfl) (.inl rfl)
    (by simp)

theorem RaisedFrom.trans {s t u : State} (h : RaisedFrom s t) (k : RaisedFrom t u) : RaisedFrom s u := by
  obtain ⟨r, st, ns, es, rfl, hh, ht, he, htm, ho, hs⟩ := h
  obtain ⟨r', st', ns', es', rfl, hh', ht', he', htm', ho', hs'⟩ := k
  simp only [State.setLine_recorder, State.setStore_recorder, State.setRecorder_recorder, State.setLine_store,
    State.setStore_store, State.setLine_now, State.setStore_now, State.setRecorder_now] at he' htm' ho' hs' hh' ht'
  refine ⟨r', st', ns ++ ns', es ++ es', ?_, hh'.trans hh, ht'.trans ht, ?_, ?_, ?_, ?_⟩
  · apply State.ext_blocks <;> simp [LineController.withQueue]
  · rw [he', he, List.foldl_append]
  · intro e hm
    rcases List.mem_append.1 hm with h | h
    · exact htm e h
    · exact htm' e h
  · intro n
    rcases ho' n with h | h
    · rw [h]; exact ho n
    · exact .inr h
  · rcases hs with rfl | ⟨hi, n, img, hc, rfl⟩
    · exact hs'
    · rcases hs' with rfl | ⟨hi', _⟩
      · exact .inr ⟨hi, n, img, hc, rfl⟩
      · cases hi'

theorem raisedFrom_logEvent (k : EventKind) (s : State) : RaisedFrom s (logEvent k s) :=
  .of_blocks [] [⟨s.now, k⟩] (by simp [LineController.withQueue]) (by simp [logEvent, Recorder.log])
    (by simp [logEvent, Recorder.log]) (by simp [logEvent, Recorder.log]) (by simp) (fun _ => .inl rfl) (.inl (by simp))
    (by simp)

theorem raisedFrom_raiseWith (c : Source) (g : Machine.Class) (o : Option Originator) (s : State) :
    RaisedFrom s (raiseWith c g o s) := by
  obtain ⟨_, _, _, _, _, ns, hr, he, hl, hs⟩ := raiseWith_spec c g o s
  have occ : ∀ n, (raiseWith c g o s).recorder.lastOccurrenceOf n = s.recorder.lastOccurrenceOf n ∨
      (raiseWith c g o s).recorder.lastOccurrenceOf n = some s.now := by
    intro n
    simp only [Recorder.lastOccurrenceOf, raiseWith_lastOccurrence, List.getD_eq_getElem?_getD, List.getElem?_set]
    split
    · split
      · exact .inr rfl
      · rw [List.getElem?_eq_none (by omega)]; exact .inl rfl
    · exact .inl rfl
  rcases raiseWith_events c g o s with h | ⟨e, ht, h⟩
  · exact .of_blocks ns [] hl (by simp) (by simp) h (by simp) occ hs (by simp)
  · exact .of_blocks ns [e] hl (by simp) (by simp) h (by simpa using ht) occ hs (by simp)

end Sys2Proof.Machine
end

