-- ==== Sys2Proof/Tests/Slice0.lean ====
section
/-!
SUPPORT. The tests: the checks of WellFormed refuse ill-formed terms, the worked cases of the manual come out as it gives them,
and for every statement of Certificates/Slice0 a concrete state meets its premises. The expected values are the manual's own.
-/

namespace Sys2Proof.Tests

open Sys2Proof Sys2Proof.Machine

set_option Elab.async false

/-! ### WellFormed -/

theorem test_wf_axle_above_six : (Instr.tachometerEdge (.quiet 0) 7).wellFormed = false := by decide
theorem test_wf_axle_zero : (Instr.tachometerEdge (.quiet 0) 0).wellFormed = false := by decide
theorem test_wf_axle_six : (Instr.tachometerEdge (.quiet 0) 6).wellFormed = true := by decide
theorem test_wf_station_zero : (Instr.silenceExpiry (.quiet 0) 0).wellFormed = false := by decide
theorem test_wf_station_nine : (Instr.silenceExpiry (.quiet 0) 9).wellFormed = false := by decide
theorem test_wf_known_code : (Instr.unknownCommand (.quiet 0) 12 []).wellFormed = false := by decide
theorem test_wf_unknown_code : (Instr.unknownCommand (.quiet 0) 13 []).wellFormed = true := by decide
theorem test_wf_start_mark : (Instr.frameDiscarded (.quiet 0) (.wrongStartMark 0xA7)).wellFormed = false := by decide
theorem test_wf_params_too_long : (Instr.mark (.quiet 0) (List.replicate 65536 0)).wellFormed = false := by
  simp only [Instr.wellFormed, Instr.operandsWellFormed, paramsWellFormed, List.length_replicate]; decide
theorem test_wf_dominant_before_the_passage : (Instr.snapshot ⟨5, [], some 6, []⟩).wellFormed = false := by decide
theorem test_wf_character_without_a_dominant_bit : (Instr.snapshot ⟨40, [], none, [.character 0xFF]⟩).wellFormed = false := by
  decide
theorem test_wf_dominant_at_its_beginning : (Instr.snapshot ⟨5, [], some 5, []⟩).wellFormed = true := by decide

/-! ### States for the tests -/

/-- The configuration of the worked case of section 2.12: ratings 450 and 380, five curve points, J 4, pressures 70, 450 and
520, six wheels of 1067 mm, 100 teeth, and the slide and hold defaults. Source 7 is qualified by source 1 within 5 s. -/
def testBytes : List Byte :=
  [0x01, 0xC2, 0x01, 0x7C, 5, 0, 0, 0, 0, 0x03, 0xE8, 0x01, 0x2C, 0x0B, 0xB8, 0x01, 0xA4, 0x17, 0x70, 0x01, 0xA4,
    0x27, 0x10, 0x01, 0x04, 0, 0, 0, 0, 0, 0, 0, 0, 0, 0, 0, 0, 4, 0, 70, 0x01, 0xC2, 0x02, 0x08] ++
  [0x04, 0x2B, 0x04, 0x2B, 0x04, 0x2B, 0x04, 0x2B, 0x04, 0x2B, 0x04, 0x2B, 100, 2, 3, 0, 40, 0, 100, 8, 0x0F, 0xA0,
    0, 0, 0xEA, 0x60] ++
  [1, 1, 0, 0, 1, 1, 0, 0, 1, 0, 0, 0, 1, 1, 0, 0, 1, 0, 0, 0, 1, 0, 0, 0, 1, 0, 1, 5, 1, 0, 0, 0, 1, 0, 0, 0, 0, 0, 0, 0]

/-- The record with its check value. -/
def testRecord : ConfigRecord := ⟨testBytes, 0x2E08⟩

/-- Bytes whose check value agrees (R191's own example). -/
def goodRecord : ConfigRecord := ⟨[0x31, 0x32, 0x33, 0x34, 0x35, 0x36, 0x37, 0x38, 0x39], 0x29B1⟩

/-- Bytes whose check value does not agree. -/
def badRecord : ConfigRecord := ⟨[0x31, 0x32, 0x33, 0x34, 0x35, 0x36, 0x37, 0x38, 0x39], 0x29B0⟩

/-- Station 1, six axles, in RUN at local time 10000 with every timer due and nothing else under way. -/
def running : State :=
  { State.reset with
    clock := ⟨10000, 10000000, 0⟩
    control := { ModeController.reset with
      mode := .run, axleCount := 6, active := some testRecord, recheckTimer := some 0 }
    demand := { DemandUnit.reset with sampleTimer := some 0 }
    blend := { BlendUnit.reset with timer := some 0 }
    speed := { SpeedUnit.reset with constants := some (List.replicate 6 33521), sweepTimer := some 0 }
    output := { OutputStage.reset with valid := true, pressureTimer := some 0 }
    line := { LineController.reset with framer := .idle, reportTimer := some 0 }
    roster := { Roster.reset with
      entries := Entry.ownSelf (ownFields .air 450 0 0 0 0) :: List.replicate 7 Entry.reset }
    recorder := { Recorder.reset with snapshotTimer := some 0 }
    store := { Store.reset with op := .none, nextNumber := 1 } }



/-- The state a command gives; the state before where it stops. -/
def after (c : Instr) (s : State) : State :=
  match exec c s with
  | .next t => t
  | _ => s

/-- The check value of `testBytes`, computed outside the model and here in four parts. -/
theorem test_record_check : checkValue testBytes = 0x2E08 := by
  have split : testBytes = ((testBytes.take 30 ++ (testBytes.drop 30).take 30) ++ (testBytes.drop 60).take 30) ++ testBytes.drop 90 := by
    decide
  have h1 : (testBytes.take 30).foldl checkByte 0xFFFF#16 = 0x7AEE#16 := by decide +kernel
  have h2 : ((testBytes.drop 30).take 30).foldl checkByte 0x7AEE#16 = 0xE776#16 := by decide +kernel
  have h3 : ((testBytes.drop 60).take 30).foldl checkByte 0xE776#16 = 0x026D#16 := by decide +kernel
  have h4 : (testBytes.drop 90).foldl checkByte 0x026D#16 = 0x2E08#16 := by decide +kernel
  rw [checkValue, split, List.foldl_append, List.foldl_append, List.foldl_append, h1, h2, h3, h4]
  rfl

theorem testRecord_valid : testRecord.valid 6 = true := by
  simp only [ConfigRecord.valid, ConfigRecord.checks, testRecord, test_record_check, beq_self_eq_true, Bool.true_and]
  decide

theorem running_record {r : ConfigRecord} (h : running.control.active = some r) : r.valid 6 = true := by
  cases h; exact testRecord_valid

theorem blank_safe : SlotSafe Slot.blank := by constructor <;> simp [Slot.blank]

theorem running_entry {n : Nat} {e : Entry} (h : running.roster.entry? n = some e) :
    (n = 1 ∧ e = Entry.ownSelf (ownFields .air 450 0 0 0 0)) ∨ e = Entry.reset := by
  unfold Roster.entry? at h
  split at h
  · cases h
  · match n with
    | 1 => exact .inl ⟨rfl, by cases h; rfl⟩
    | n + 2 => exact .inr (List.mem_replicate.1 (List.mem_of_getElem? (l := List.replicate 7 Entry.reset) h)).2

theorem running_slot {n : Nat} {x : Slot} (h : running.store.slot? n = some x) : x = Slot.blank := by
  unfold Store.slot? at h
  split at h
  · cases h
  · exact (List.mem_replicate.1 (List.mem_of_getElem? h)).2

theorem running_mode : ModeSafe running :=
  ⟨by decide, by decide, fun _ h => running_record h, nofun, by decide, nofun, by decide, by decide, by decide, by decide⟩

theorem running_demand : DemandSafe running := by constructor <;> decide

theorem axle_safe : AxleSafe Axle.reset := by constructor <;> decide

theorem running_speed : SpeedSafe running :=
  ⟨by decide, fun _ h => (List.mem_replicate.1 h).2 ▸ axle_safe, by decide, by decide⟩

theorem truck_safe : TruckSafe 4000 Truck.reset := ⟨⟨rfl, rfl, rfl⟩, by decide, by decide, by decide, by decide⟩

theorem running_slide : SlideSafe running := ⟨truck_safe, truck_safe, by decide, by decide, by decide⟩

theorem running_output : OutputSafe running := by
  constructor
  case truck1 => constructor <;> decide
  case truck2 => constructor <;> decide
  all_goals decide

theorem running_line : LineSafe running :=
  ⟨by decide, by decide, by decide, by decide, by decide, nofun, by decide, by decide⟩

theorem reset_entry_safe : EntrySafe Entry.reset := ⟨⟨rfl, rfl, rfl, rfl⟩, by decide⟩

theorem running_roster : RosterSafe running := by
  refine ⟨by decide, ?_, ?_, ?_, by decide, by decide⟩
  · intro e h
    rcases List.mem_cons.1 h with h | h
    · subst h; exact ⟨⟨rfl, rfl, rfl, rfl, rfl, rfl⟩, by decide⟩
    · rw [(List.mem_replicate.1 h).2]; exact reset_entry_safe
  · intro e h; cases h; decide
  · intro n e hn h
    rcases running_entry h with ⟨k, -⟩ | k
    · exact absurd k hn
    · rw [k]; decide

theorem running_recorder : RecorderSafe running where
  history := by decide
  events := by decide
  occurrences := by decide
  image := by decide
  each := by intro img h; cases h
  filling := by intro h; cases h
  pending := by intro h; cases h
  merged := by intro p h; cases h
  timer := by decide
  opened := by decide

theorem running_store : StoreSafe running where
  slots := by decide
  each := fun x h => (List.mem_replicate.1 h).2 ▸ blank_safe
  locked := by decide
  scan := by decide
  scanning := by decide
  busy := by intro st h; cases h
  marking := by intro h; rcases h with h | h <;> cases h
  marks := by intro _ n x h k; rw [running_slot h] at k; cases k
  working := by intro _ n x h k; rw [running_slot h] at k; rcases k with k | k <;> cases k
  next := by intro _; exact ⟨by decide, by decide⟩

theorem running_commit : CommitSafe running where
  commit := by intro _ h; cases h
  write := by intro n l r h; cases h
  writing := by intro n l r img x h; cases h
  expected := by intro _ _ img h; cases h
  kept := by intro h; cases h

/-- A port at its reset values meets its relations. -/
theorem reset_port_safe {s : State} (h : s.port = ServicePort.reset) : PortSafe s := by
  constructor <;> simp [h, ServicePort.reset]

/-- The device in RUN meets every invariant. -/
theorem running_safe : Safe running :=
  ⟨running_mode, running_demand, running_speed, running_slide, running_output, running_line, running_roster, running_recorder,
    running_store, running_commit, reset_port_safe rfl⟩

theorem witness_invariants : Safe running ∧ ∃ t, step (running.setPending [.speedSweep (.quiet 0)]) = .next t := ⟨running_safe, _, rfl⟩

/-! ### Machine, resets and modes -/

theorem witness_StepTakesTheFrontCommand : ∃ t, exec (.snapshot (.quiet 5)) State.reset = .next t := ⟨_, rfl⟩

/-- Power-on reset is asserted. -/
def held : State := running.setPins { Pins.reset with powerOnReset := true }

theorem witness_ResetAssertionCutsOffAndHolds : held.heldInReset = true ∧
    (∀ dt levels, Instr.snapshot (.quiet 5) ≠ .powerOnResetRelease dt levels) ∧
    (∀ dt levels, Instr.snapshot (.quiet 5) ≠ .hardResetRelease dt levels) ∧ (∀ dt input, Instr.snapshot (.quiet 5) ≠ .resetAsserted dt input) ∧
    exec (.snapshot (.quiet 5)) held = .next (held.advance (.quiet 5)) := ⟨by decide, nofun, nofun, nofun, rfl⟩

/-- R191's own example. -/
theorem test_check_value : checkValue [0x31, 0x32, 0x33, 0x34, 0x35, 0x36, 0x37, 0x38, 0x39] = 0x29B1 := by decide +kernel
theorem test_check_value_of_nothing : checkValue [] = 0xFFFF := by decide

theorem witness_FramesReadBackAsSent :
    parseFrame (frameBytes 8 255 (.demand ⟨1000, true⟩)) = some ⟨.demand, 8, 255, [3, 0xE8, 1, 0]⟩ ∧
    parseFrame (frameBytes 1 0 (.notice ⟨65535, .power, .severe⟩)) = some ⟨.notice, 1, 0, [255, 255, 12, 1, 0, 0]⟩ := by
  decide +kernel

/-- Straps and inputs all high at a release. -/
def highLevels : ReleaseLevels := ⟨7, true, true, true⟩

theorem witness_ReleaseEndsTheReset :
    running.pins.hardReset = false ∧ running.pins.powerOnReset = false ∧ running.control.powerOnDue = false ∧
    (running.setControl { running.control with powerOnDue := true }).control.powerOnDue = true ∧
    (running.setPins { Pins.reset with hardReset := true }).pins.hardReset = true ∧ held.pins.powerOnReset = true := by decide

/-- R182, R170: straps 7 are station 8, six axles; select asserted at the release leaves the framer IGNORING. -/
theorem test_power_on_release : ((after (.powerOnResetRelease (.quiet 0) highLevels) running).control.station = 8 ∧
    (after (.powerOnResetRelease (.quiet 0) highLevels) running).control.axleCount = 6 ∧
    (after (.powerOnResetRelease (.quiet 0) highLevels) running).control.warning = true ∧
    (after (.powerOnResetRelease (.quiet 0) highLevels) running).port.framer = .ignoring) := by decide

/-- R190: a hard reset keeps the record. -/
theorem test_hard_release : (after (.hardResetRelease (.quiet 0) highLevels) running).control.active.isSome = true ∧
    (after (.hardResetRelease (.quiet 0) highLevels) running).control.mode = .init := by decide

theorem test_reset_assertion : (after (.resetAsserted (.quiet 0) .hard) running).heldInReset = true := by decide

/-- A header under a number. -/
def header (n : Nat) : Header :=
  ⟨n, .manual, .note, 0, 0, 1, 0, none, 0, ⟨false, false, false, false, false, false⟩, 64, 32, 17⟩

/-- A slot that holds an incident. -/
def held? (st : SlotState) (n : Nat) (mark : Option MarkReading) : Slot :=
  { Slot.blank with state := st, header := some (header n), mark := mark, clear := false }

/-- The scan runs over a tagged slot, three with headers and marks of each kind, a clear one and one that is not clear, with a
kept record that fails its check. -/
def scanning : State :=
  { State.reset with
    control := { ModeController.reset with axleCount := 6, active := some badRecord }
    store := { Store.reset with slots :=
      [{ Slot.blank with state := .writing, tag := true }, held? .locked 1 (some .unlocked), held? .stored 2 none,
        held? .stored 3 (some .locked), Slot.blank, { Slot.blank with clear := false }] ++ List.replicate 10 Slot.blank } }

theorem badRecord_fails : checkValue badRecord.bytes ≠ badRecord.check := by decide +kernel
theorem goodRecord_checks : checkValue goodRecord.bytes = goodRecord.check := by decide +kernel

theorem badRecord_invalid : badRecord.valid 6 = false := by
  simp only [ConfigRecord.valid, ConfigRecord.checks, beq_eq_false_iff_ne.2 badRecord_fails, Bool.false_and]

theorem witness_ScanClassifiesEverySlot : Accepts scanning ∧ scanning.control.mode = .init ∧ scanning.store.op = .scan ∧
    scanning.recorder.capture = .idle ∧ ∀ r, scanning.control.active = some r → r.valid scanning.control.axleCount = false :=
  ⟨⟨by decide, by decide⟩, by decide, by decide, by decide, fun _ h => by cases h; exact badRecord_invalid⟩

/-- R165's table. -/
theorem test_scan_states : ((scanning.store.scanDone .unclear).slots.take 6).map Slot.state =
    [.damaged, .stored, .locked, .locked, .free, .damaged] := by decide

/-- R164: 65535 is followed by 1. -/
theorem test_recovery_wraps : ({ Store.reset with slots := [held? .stored 65535 none] } : Store).recoveredNext = 1 := by decide

theorem witness_RecoveryTakesTheHighestNumber : ∀ st, st = ({ Store.reset with slots :=
      [held? .stored 1 none, held? .locked 65535 none, held? .damaged 7 none] } : Store) →
    (∀ a ∈ st.numbersFound, 1 ≤ a ∧ a ≤ 65535) ∧ st.numbersFound = [1, 65535] ∧ st.recoveredNext = 2 := by
  intro st h; subst h; decide

/-- Three numbers, each ahead of one other: the largest stands (R164's second clause). -/
theorem test_recovery_of_a_ring : ({ Store.reset with slots :=
    [held? .stored 1 none, held? .stored 21846 none, held? .stored 43691 none] } : Store).recoveredNext = 43692 := by decide

/-- INIT with a valid kept record. -/
def initKept : State :=
  { State.reset with control := { ModeController.reset with axleCount := 6, active := some testRecord } }

/-- The same with the power-fail warning standing. -/
def initWarned : State := initKept.setControl { initKept.control with warning := true }

theorem witness_InitWithARecordEndsInRun : Accepts initKept ∧ initKept.roster.entries.length = 8 ∧ 1 ≤ initKept.control.station ∧
    initKept.control.station ≤ 8 ∧ initKept.control.mode = .init ∧ initKept.store.op = .scan ∧ initKept.recorder.capture = .idle ∧
    initKept.control.active = some testRecord ∧ testRecord.valid initKept.control.axleCount = true ∧
    initKept.control.warning = false ∧ (initWarned.control.warning = true ∧ initWarned.recorder.lastOccurrence.length = 12 ∧
      Accepts initWarned ∧ initWarned.store.op = .scan ∧ initWarned.control.active = some testRecord) :=
  ⟨⟨by decide, by decide⟩, by decide, by decide, by decide, by decide, by decide, by decide, rfl, testRecord_valid, by decide,
    by decide, by decide, ⟨by decide, by decide⟩, by decide, rfl⟩

/-- An image under a number. -/
def image (n : Nat) (power kept : Bool) : Image :=
  { number := n, cause := .power, cls := .note, triggerTime := 0, openingTime := 0, station := 1, configCheck := 0, originator := none
    secondary := 0, flags := ⟨false, false, false, power, false, false⟩, noticeEnqueued := false, pre := [], post := [], events := []
    kept := kept }

theorem image_safe (n : Nat) (power kept : Bool) (h : 1 ≤ n ∧ n ≤ 65535) : ImageSafe (image n power kept) :=
  { number := h, pre := Nat.zero_le _, post := Nat.zero_le _, events := Nat.zero_le _, secondary := Nat.zero_le _
    noticed := by intro h; cases h
    unnoticed := fun _ => rfl }

/-- INIT with a valid kept record and a kept image that was FILLING. -/
def initImage : State := initKept.setRecorder { Recorder.reset with capture := .filling, image := some (image 65535 false true) }

theorem initImage_slot {n : Nat} {x : Slot} (h : initImage.store.slot? n = some x) : x = Slot.blank := by
  unfold Store.slot? at h
  split at h
  · cases h
  · exact (List.mem_replicate.1 (List.mem_of_getElem? h)).2

theorem initImage_entry {n : Nat} {e : Entry} (h : initImage.roster.entry? n = some e) : e = Entry.reset := by
  unfold Roster.entry? at h
  split at h
  · cases h
  · exact (List.mem_replicate.1 (List.mem_of_getElem? h)).2

theorem initImage_mode : ModeSafe initImage where
  station := by decide
  axles := by decide
  active := by intro r h; cases h; exact testRecord_valid
  loaded := by intro l h; cases h
  works := by decide
  config := by decide
  loadedIn := by decide
  failed := by decide
  releasing := by decide
  recheck := by decide

theorem initImage_line : LineSafe initImage where
  notices := by decide
  attempts := by decide
  idle := by decide
  outsideRun := by decide
  silent := by decide
  safeAir := by intro h; cases h
  timer := by decide
  init := by decide

theorem initImage_roster : RosterSafe initImage where
  entries := by decide
  each := fun _ h => (List.mem_replicate.1 h).2 ▸ reset_entry_safe
  own := by intro e h; rw [initImage_entry h]; decide
  peers := by intro n e _ h; rw [initImage_entry h]; decide
  unheard := by decide
  duplicate := by decide

theorem initImage_recorder : RecorderSafe initImage where
  history := by decide
  events := by decide
  occurrences := by decide
  image := by decide
  each := by intro img h; cases h; exact image_safe 65535 false true (by decide)
  filling := by intro _ img h; cases h; decide
  pending := by decide
  merged := by intro p h; cases h
  timer := by decide
  opened := by decide

theorem initImage_store : StoreSafe initImage where
  slots := by decide
  each := fun x h => (List.mem_replicate.1 h).2 ▸ blank_safe
  locked := by decide
  scan := by decide
  scanning := by decide
  busy := by intro st h; cases h
  marking := by intro h; rcases h with h | h <;> cases h
  marks := by intro _ n x h k; rw [initImage_slot h] at k; cases k
  working := by intro _ n x h k; rw [initImage_slot h] at k; rcases k with k | k <;> cases k
  next := by intro h; exact absurd rfl h

theorem initImage_commit : CommitSafe initImage where
  commit := by intro h; exact absurd rfl h.2
  write := by intro n l r h; cases h
  writing := by intro n l r img x h; cases h
  expected := by intro h; exact absurd rfl h.2
  kept := by intro _ img h; cases h; rfl

theorem initImage_output : OutputSafe initImage := by
  constructor
  case truck1 => constructor <;> decide
  case truck2 => constructor <;> decide
  all_goals decide

theorem initImage_safe : Safe initImage :=
  ⟨initImage_mode, by constructor <;> decide, ⟨by decide, fun _ h => (List.mem_replicate.1 h).2 ▸ axle_safe, by decide, by decide⟩,
    ⟨truck_safe, truck_safe, by decide, by decide, by decide⟩, initImage_output, initImage_line, initImage_roster,
    initImage_recorder, initImage_store, initImage_commit, reset_port_safe rfl⟩

theorem witness_KeptImageIsWrittenAgain : Safe initImage ∧ initImage.heldInReset = false ∧ initImage.control.mode = .init ∧
    initImage.recorder.image = some (image 65535 false true) := ⟨initImage_safe, by decide, by decide, rfl⟩

/-- Section 9.8, case A: the WRITE of the kept image begins at the end of the scan under its own number, here without a record. -/
theorem test_kept_image :
    (after (.scanEnd (.quiet 0) .unlocked) (initImage.setControl ModeController.reset)).store.op = .write 1 false false ∧
    (after (.scanEnd (.quiet 0) .unlocked) (initImage.setControl ModeController.reset)).store.nextNumber = 1 := by decide

/-- CONFIG, with select asserted and no byte received yet. -/
def inConfig : State :=
  { State.reset with
    control := { ModeController.reset with mode := .config, axleCount := 6 }
    store := { Store.reset with op := .none, nextNumber := 1 }
    port := { ServicePort.reset with framer := .receiving } }

theorem witness_LoadConfigTestsInOrder : Accepts inConfig ∧ inConfig.hears (.quiet 0) 0x03 (testBytes ++ [0x2E, 0x08]) ∧
    (testBytes ++ [0x2E, 0x08]).length = 112 := ⟨⟨by decide, by decide⟩, ⟨by decide, by decide⟩, by decide⟩

/-- R174: the record with its check value is OK, and with another one CHECK; outside CONFIG the answer is STATE. -/
theorem test_load_config : loadConfigResult (carriedRecord (testBytes ++ [0x2E, 0x08])) inConfig = .ok ∧
    loadConfigResult (carriedRecord (testBytes ++ [0x2E, 0x09])) inConfig = .check ∧
    (after (.loadConfig (.quiet 0) (testBytes ++ [0x2E, 0x08])) (running.setPort inConfig.port)).port.response = some ⟨[5], 0⟩ := by
  have h : ∀ w, (ConfigRecord.mk testBytes w).checks = (0x2E08#16 == w) := fun w => by
    rw [ConfigRecord.checks, test_record_check]; rfl
  refine ⟨?_, ?_, by decide⟩
  · show loadConfigResult ⟨testBytes, 0x2E08⟩ inConfig = .ok
    unfold loadConfigResult; rw [h]; decide
  · show loadConfigResult ⟨testBytes, 0x2E09⟩ inConfig = .check
    unfold loadConfigResult; rw [h]; decide

/-- `testBytes` with a parameter of one byte, or of two, changed. -/
def with1 (i v : Nat) : List Byte := testBytes.set i (byteOf v)
def with2 (i v : Nat) : List Byte := (testBytes.set i (byteOf (v / 256))).set (i + 1) (byteOf v)

/-- Whether a record of these bytes is within its ranges on a device of six axles. -/
def inRange (bs : List Byte) : Bool := (Params.ofBytes bs).valid 6

theorem witness_RecordIsReadAndTestedByItsTable : inRange testBytes = true ∧ 0 < (Params.ofBytes testBytes).teeth ∧
    (800 ≤ 1067 ∧ 1067 ≤ 1300) ∧ 5 < 6 ∧ (Params.ofBytes testBytes).wheels[5]? = some 1067 := by decide

/-- R189 at its limits: R_own, R_air, p_take, p_max, one wheel; J, the teeth, the limits of V_ref, the deceleration of WATCH. -/
theorem test_record_ranges :
    ([(0, 1, 800), (2, 50, 600), (38, 20, 150), (40, 200, 500), (54, 800, 1300)].map fun (i, lo, hi) =>
      [lo - 1, lo, hi, hi + 1].map fun v => inRange (with2 i v)) = List.replicate 5 [false, true, true, false] ∧
    ([(37, 1, 50), (56, 40, 200), (57, 1, 10), (58, 1, 20), (63, 2, 30)].map fun (i, lo, hi) =>
      [lo - 1, lo, hi, hi + 1].map fun v => inRange (with1 i v)) = List.replicate 5 [false, true, true, false] := by decide +kernel

/-- R189: the point count, the rise of the speeds, p_max at most p_emer, s_relieve at least s_watch + 10, the grid of T_lockout, and
source 1 qualified by itself, by source 12 without a window, and with a window but no qualifier. -/
theorem test_record_conditions : [with1 4 1, with1 4 2, with1 4 6, with2 9 0, with2 42 449, with2 42 450, with2 61 49, with2 61 50,
    with2 64 1000, with2 64 1001, with1 72 1, with1 72 12, with1 73 1].map inRange =
    [false, true, false, false, false, true, false, true, true, false, false, false, false] := by decide +kernel

theorem witness_ItemsStandAtTheirOffsets : (header 7).originator = none ∧
    ({ header 7 with originator := some ⟨2, 700⟩ } : Header).originator = some ⟨2, 700⟩ ∧ Entry.reset.held = none ∧
    Entry.reset.latestDemand = none ∧ Slot.blank.state = .free ∧ (held? .locked 7 none).state = .locked ∧
    (held? .locked 7 none).header = some (header 7) ∧ (held? .writing 7 none).state = .writing := by decide

/-- R196, R193: a header, an event and a request message written out from their tables; the check value is computed outside the
model. -/
theorem test_item_bytes :
    ({ header 700 with originator := some ⟨2, 701⟩, station := 8, configCheck := 0x2E08 } : Header).bytes =
      [2, 188, 11, 0, 0, 0, 0, 0, 0, 0, 0, 0, 8, 0x2E, 0x08, 2, 2, 189, 0, 0, 64, 32, 17] ∧
    (Event.mk 0x01020304 (.demand 600 true 2)).bytes = [1, 2, 3, 4, 2, 2, 88, 1, 2] ∧
    (RequestMessage.mk 374 true 0).bytes = [0x5A, 1, 118, 1, 0x49, 0x72] := by decide +kernel

/-- CONFIG with a record loaded. -/
def loaded (warning : Bool) : State :=
  inConfig.setControl { inConfig.control with loaded := some ⟨testRecord, List.replicate 6 33521⟩, warning := warning }

theorem witness_StartEntersRun : ∀ w, Accepts (loaded w) ∧ (loaded w).hears (.quiet 0) 0x04 [] ∧
    (loaded w).control.mode = .config ∧ (loaded w).control.loaded = some ⟨testRecord, List.replicate 6 33521⟩ ∧
    (loaded w).roster.entries.length = 8 ∧ 1 ≤ (loaded w).control.station ∧ (loaded w).control.station ≤ 8 ∧
    (loaded w).recorder.lastOccurrence.length = 12 ∧ (loaded w).control.warning = w ∧ inConfig.control.loaded = none ∧
    (running.setPort inConfig.port).control.mode ≠ .config :=
  fun w => ⟨⟨rfl, rfl⟩, ⟨rfl, by cases w <;> decide⟩, rfl, rfl, rfl, Nat.le_refl 1, by show 1 ≤ 8; decide, rfl, rfl, rfl, by decide⟩

/-- R175, R185: START enters RUN, and with the warning standing SAFE at once. -/
theorem test_start : (after (.start (.quiet 0) []) (loaded false)).control.mode = .run ∧
    (after (.start (.quiet 0) []) (loaded true)).control.mode = .safe ∧
    (after (.start (.quiet 0) []) inConfig).port.response = some ⟨[5], 0⟩ := by decide

theorem witness_PowerFailInRunEntersSafe : Safe running ∧ running.heldInReset = false ∧ running.control.mode = .run ∧
    running.recorder.capture ≠ .committing := ⟨running_safe, by decide, by decide, by decide⟩

/-- R186, R144: the warning in RUN opens a POWER incident that is committed at once. -/
theorem test_power_fail : (after (.powerFailWarningAsserted (.quiet 0)) running).control.mode = .safe ∧
    (after (.powerFailWarningAsserted (.quiet 0)) running).recorder.capture = .committing ∧
    (after (.powerFailWarningAsserted (.quiet 0)) running).store.op = .write 1 true false := by decide

/-- RUN with an incident being written in slot 1, whose NOTICE is still queued. -/
def committing : State :=
  ((running.setLine { running.line with queue := ⟨[⟨1, .power, .severe⟩], none, false⟩ }).setRecorder
    { running.recorder with capture := .committing, image := some (image 1 false false) }).setStore
    ⟨{ Slot.blank with state := .writing, tag := true, clear := false, writing := 1 } :: List.replicate 15 Slot.blank, 2,
      .write 1 false false, none⟩

theorem committing_slot {n : Nat} {x : Slot} (h : committing.store.slot? n = some x) :
    (n = 1 ∧ x = { Slot.blank with state := .writing, tag := true, clear := false, writing := 1 }) ∨ x = Slot.blank := by
  unfold Store.slot? at h
  split at h
  · cases h
  · match n with
    | 1 => exact .inl ⟨rfl, by cases h; rfl⟩
    | n + 2 => exact .inr (List.mem_replicate.1 (List.mem_of_getElem? (l := List.replicate 15 Slot.blank) h)).2

theorem committing_store : StoreSafe committing where
  slots := by decide
  each := by
    intro x h
    rcases List.mem_cons.1 h with h | h
    · rw [h]; exact ⟨⟨rfl, rfl⟩, by intro h k; cases k⟩
    · exact (List.mem_replicate.1 h).2 ▸ blank_safe
  locked := by decide
  scan := by decide
  scanning := by decide
  busy := by intro st h; cases h; exact ⟨_, rfl, rfl⟩
  marking := by intro h; rcases h with h | h <;> cases h
  marks := by intro _ n x h k; rcases committing_slot h with ⟨-, g⟩ | g <;> rw [g] at k <;> cases k
  working := by
    intro _ n x h k
    rcases committing_slot h with ⟨e, g⟩ | g
    · rw [e, g]; decide
    · rw [g] at k; rcases k with k | k <;> cases k
  next := by decide

theorem committing_commit : CommitSafe committing where
  commit := by intro _ _ h; cases h
  write := by intro _ _ _ _; rfl
  writing := by
    intro n l r img x h i hx
    cases h; cases i; cases hx; rfl
  expected := by intro _ h; exact absurd rfl (h 1 false false)
  kept := by intro h; cases h

theorem committing_recorder : RecorderSafe committing where
  history := by decide
  events := by decide
  occurrences := by decide
  image := by decide
  each := by intro img h; cases h; exact image_safe 1 false false (by decide)
  filling := by decide
  pending := by decide
  merged := by intro p h; cases h
  timer := by decide
  opened := by decide

theorem committing_roster : RosterSafe committing where
  entries := running_roster.entries
  each := running_roster.each
  own := running_roster.own
  peers := running_roster.peers
  unheard := running_roster.unheard
  duplicate := running_roster.duplicate

theorem committing_output : OutputSafe committing := by
  constructor
  case truck1 => constructor <;> decide
  case truck2 => constructor <;> decide
  all_goals decide

/-- A commit under way: the second clause of the power failure, R146. -/
theorem witness_PowerFailWhileCommitting : Safe committing ∧ committing.heldInReset = false ∧ committing.control.mode = .run ∧
    committing.recorder.capture = .committing ∧ committing.recorder.image = some (image 1 false false) ∧
    (True ↔ (∃ c ∈ committing.line.queue.notices, c.number = (image 1 false false).number) ∨
      ∃ c seq phase, committing.line.onAir = some ⟨.notice c, seq, phase⟩ ∧ c.number = (image 1 false false).number) ∧
    (False ↔ committing.recorder.capture = .filling ∧ (image 1 false false).cause ≠ .peerNotice ∧
      (image 1 false false).noticeEnqueued = false) :=
  ⟨⟨⟨by decide, by decide, fun _ h => running_record h, (by intro l h; cases h), by decide, by decide, by decide, by decide,
      by decide, by decide⟩, by constructor <;> decide,
    ⟨by decide, fun _ h => (List.mem_replicate.1 h).2 ▸ axle_safe, by decide, by decide⟩,
    ⟨truck_safe, truck_safe, by decide, by decide, by decide⟩, committing_output,
    ⟨by decide, by decide, by decide, by decide, by decide, (by intro h; cases h), by decide, by decide⟩, committing_roster,
    committing_recorder, committing_store, committing_commit, reset_port_safe rfl⟩, by decide, by decide, by decide, rfl,
    ⟨fun _ => .inl ⟨_, List.mem_singleton_self _, rfl⟩, fun _ => trivial⟩, ⟨False.elim, fun h => absurd h.1 (by decide)⟩⟩

/-- R113, R140: a NOTICE taken from the queue, or from the line, comes back as not sent; one of another number does not. -/
theorem test_notice_returned :
    ([committing, committing.setLine { running.line with onAir := some ⟨.notice ⟨1, .power, .severe⟩, 0, .waiting⟩ },
      committing.setLine { running.line with onAir := some ⟨.notice ⟨2, .power, .severe⟩, 0, .waiting⟩ }].map fun s =>
        (after (.powerFailWarningAsserted (.quiet 0)) s).recorder.image.map fun i => i.flags.noticeNotSent) =
      [some true, some true, some false] := by decide +kernel

/-- SAFE with a record, the release timer started at `since` and every other timer of SAFE due. -/
def safed (r : ConfigRecord) (failed : Bool) (since : Option Time) : State :=
  running.setControl { running.control with mode := .safe, active := some r, recheckFailed := failed, releaseTimer := since }

/-- R187: the release timer expires at 500 ms and not at 499. -/
theorem witness_WarningAndReleaseTimerGovernSafe : Accepts (safed testRecord false none) ∧ (safed testRecord false none).control.mode = .safe ∧
    Accepts inConfig ∧ inConfig.control.mode ≠ .run ∧ inConfig.control.mode ≠ .safe ∧
    Accepts (safed goodRecord false (some 9500)) ∧
    (safed goodRecord false (some 9500)).control.mode = .safe ∧
    timerDue (some 9500) 500 ((safed goodRecord false (some 9500)).advance (.quiet 0)).now = true ∧
    timerDue (some 9501) 500 ((safed goodRecord false (some 9501)).advance (.quiet 0)).now = false ∧
    (safed goodRecord true (some 9500)).control.recheckFailed = true ∧
    (safed goodRecord false (some 9500)).control.active = some goodRecord ∧
    checkValue goodRecord.bytes = goodRecord.check ∧ checkValue badRecord.bytes ≠ badRecord.check ∧
    (safed goodRecord false (some 9500)).control.warning = false := by
  and_intros <;> first | decide +kernel | (constructor <;> decide +kernel)

theorem test_release_timer : (after (.releaseTimerExpiry (.quiet 0)) (safed goodRecord false (some 9500))).control.mode = .run ∧
    (after (.releaseTimerExpiry (.quiet 0)) (safed goodRecord true (some 9500))).control.mode = .safe ∧
    (after (.releaseTimerExpiry (.quiet 0)) (safed badRecord false (some 9500))).control.recheckFailed = true := by decide +kernel

/-- RUN with a record that fails its check, and an incident being written. -/
def corrupted : State := committing.setControl { committing.control with active := some badRecord }

theorem witness_RecheckGuardsTheRecord : Accepts (safed goodRecord false none) ∧ (safed goodRecord false none).control.active = some goodRecord ∧
    timerDue running.control.recheckTimer 1000 (running.advance (.quiet 0)).now = true ∧ checkValue goodRecord.bytes = goodRecord.check ∧
    checkValue badRecord.bytes ≠ badRecord.check ∧ (safed badRecord false none).control.active = some badRecord ∧
    (safed badRecord false none).control.mode ≠ .run ∧
    (corrupted.control.mode = .run ∧ corrupted.control.active = some badRecord ∧ corrupted.roster.entries.length = 8 ∧
      1 ≤ corrupted.control.station ∧ corrupted.control.station ≤ 8 ∧
      corrupted.recorder.image = some (image 1 false false) ∧
      (true = true ↔ (∃ c ∈ corrupted.line.queue.notices, c.number = 1) ∨
        ∃ c seq phase, corrupted.line.onAir = some ⟨.notice c, seq, phase⟩ ∧ c.number = 1) ∧
      running.recorder.image = none) :=
  ⟨⟨by decide, by decide⟩, rfl, by decide, goodRecord_checks, badRecord_fails, rfl, by decide, by decide, rfl, by decide, by decide,
    by decide, rfl, ⟨fun _ => .inl ⟨_, List.mem_singleton_self _, rfl⟩, fun _ => rfl⟩, rfl⟩

theorem test_recheck : (after (.configurationRecheck (.quiet 0)) (running.setControl { running.control with active := some badRecord })).control.mode
    = .safe ∧ (after (.configurationRecheck (.quiet 0)) (running.setControl { running.control with active := some goodRecord })).control.mode
    = .run := by decide +kernel

theorem test_warning_deasserted : (after (.powerFailWarningDeasserted (.quiet 0)) (safed goodRecord false none)).control.releaseTimer =
    some 10000 := by decide

/-! ### Demand Unit -/

/-- RUN with a latest demand of station 2. -/
def heard (arrival : Time) (d : BitVec 16) (em : Bool) : State :=
  running.setRoster (running.roster.setEntry 2 { Entry.reset with latestDemand := some ⟨d, em, arrival⟩ })

/-- R10 at its limits: a demand 300 ms old is fresh and its value is taken as at most 1000; one of 301 ms is not. -/
theorem witness_FreshSourcesAreRecentDemands : (heard 9700 1001 true).roster.entries.length = 8 ∧
    1 ≤ (heard 9700 1001 true).control.station ∧ (heard 9700 1001 true).control.station ≤ 8 ∧
    (heard 9700 1001 true).freshSources = [⟨2, 1000, true⟩] ∧ (heard 9699 1001 true).freshSources = [] := by decide

/-- A controlling station whose last enqueued demand is 600. -/
def controlling (frame : Time) : State :=
  running.setDemand { running.demand with
    handle := 600, controlling := true, lastEnqueued := some ⟨600, false⟩, frameTimer := some frame
    state := .fresh, dEff := 600, lastLogged := 600 }

/-- A demand sample is due in `s`. -/
abbrev SampleDue (s : State) : Prop :=
  s.recorder.lastOccurrence.length = 12 ∧ timerDue s.demand.sampleTimer 10 (s.advance (.quiet 0)).now = true

theorem controlling_demand : DemandSafe (controlling 9990) := by constructor <;> decide

/-- R7 at its limit: 50 ms and 49 ms. -/
theorem witness_DemandFramesAreOriginated : Accepts running ∧ DemandSafe running ∧ SampleDue running ∧
    Accepts (controlling 9990) ∧ DemandSafe (controlling 9990) ∧ SampleDue (controlling 9990) ∧
    Accepts (controlling 9950) ∧ (controlling 9950).control.mode = .run ∧
    timerDue (controlling 9950).demand.frameTimer 50 ((controlling 9950).advance (.quiet 0)).now = true ∧
    timerDue (controlling 9951).demand.frameTimer 50 ((controlling 9951).advance (.quiet 0)).now = false :=
  ⟨⟨by decide, by decide⟩, running_demand, by decide, ⟨by decide, by decide⟩, controlling_demand, by decide,
    ⟨by decide, by decide⟩, by decide, by decide, by decide⟩

/-- R8 at its limit: a move of 10 enqueues a frame, one of 9 does not, and a station not controlling enqueues none. -/
theorem test_demand_origination :
    (after (.demandSample (.quiet 0) 610 true false false) (controlling 9990)).line.queue.demand = some ⟨610, false⟩ ∧
    (after (.demandSample (.quiet 0) 609 true false false) (controlling 9990)).line.queue.demand = none ∧
    (after (.demandSample (.quiet 0) 700 false false false) (controlling 9990)).line.queue.demand = none := by decide +kernel

/-- R5's conversion at its limits. -/
theorem test_handle_conversion : [19, 20, 1000, 1001].map handleDemand = [0, 20, 1000, 1000] := by decide

/-- R11, without and with fresh sources, in each demand state. -/
theorem witness_DemandFollowsTheFreshSources : Accepts running ∧ SampleDue running ∧
    ((after (.demandSample (.quiet 0) 0 false false false) running).freshSources = [] ∧ running.demand.state = .none) ∧
    ((after (.demandSample (.quiet 0) 0 false false false) (controlling 9990)).freshSources = [] ∧
      (controlling 9990).demand.state = .fresh ∧
      (after (.demandSample (.quiet 0) 0 false false false) (controlling 9990)).demand.state = .held ∧
      (after (.demandSample (.quiet 0) 0 false false false) (controlling 9990)).demand.dEff = 600) ∧
    ((after (.demandSample (.quiet 0) 0 false false false) (heard 9700 400 false)).freshSources = [⟨2, 400, false⟩] ∧
      (after (.demandSample (.quiet 0) 500 true false false) (heard 9700 400 false)).demand.dEff = 500) :=
  ⟨⟨by decide, by decide⟩, by decide, by decide +kernel, by decide +kernel, by decide +kernel⟩

/-- HELD since `since`. -/
def holding (since : Time) : State :=
  running.setDemand { running.demand with state := .held, dEff := 300, heldSince := since, lastLogged := 300 }

/-- R13 at its limit: 3000 ms of HELD lose the demand, 2999 ms do not. -/
theorem test_demand_lost : (holding 7000).demand.state = .held ∧
    (after (.demandSample (.quiet 0) 0 false false false) (holding 7000)).demand.lossOpen = true ∧
    (after (.demandSample (.quiet 0) 0 false false false) (holding 7000)).recorder.lastOccurrenceOf 4 = some 10000 ∧
    (after (.demandSample (.quiet 0) 0 false false false) (holding 7001)).demand.lossOpen = false := by decide +kernel

/-- EMERGENCY since time 0 with the latch set, at local time `now`, a fresh demand `d` of station 2 just heard. -/
def emergency (now : Time) (d : BitVec 16) : State :=
  ((running.setClock ⟨now, 0, 0⟩).setDemand { running.demand with emergency := .emergency, latch := true }).setRoster
    (running.roster.setEntry 2 { Entry.reset with latestDemand := some ⟨d, false, now⟩ })

/-- R15, R17, R18: a peer's flag enters EMERGENCY and sets the latch; EMERGENCY ends at 60000 ms and not at 59999 ms, and not
while a demand stands. -/
theorem witness_EmergencyEntersHoldsAndEnds :
    (Accepts (heard 9700 0 true) ∧ SampleDue (heard 9700 0 true) ∧ (heard 9700 0 true).demand.emergency = .clear) ∧
    ((after (.demandSample (.quiet 0) 0 false false false) (heard 9700 0 true)).demand.emergency = .emergency ∧
      (after (.demandSample (.quiet 0) 0 false false false) (heard 9700 0 true)).demand.latch = true) ∧
    (after (.demandSample (.quiet 0) 0 false false true) running).demand.emergency = .emergency ∧
    (after (.demandSample (.quiet 0) 0 true true false) running).demand.emergency = .emergency ∧
    (after (.demandSample (.quiet 0) 0 false false false) running).demand.emergency = .clear ∧
    (after (.demandSample (.quiet 0) 0 false false false) (emergency 60000 0)).demand.emergency = .clear ∧
    (after (.demandSample (.quiet 0) 0 false false false) (emergency 60000 0)).demand.latch = false ∧
    (after (.demandSample (.quiet 0) 0 false false false) (emergency 59999 0)).demand.emergency = .emergency ∧
    (after (.demandSample (.quiet 0) 0 false false false) (emergency 59999 0)).demand.latch = true ∧
    (after (.demandSample (.quiet 0) 0 false false false) (emergency 60000 1)).demand.emergency = .emergency := by
  and_intros <;> first | decide +kernel | (constructor <;> decide)

/-- R12, R14 at their limits: two sources conflict, one does not; a change of 50 is logged, one of 49 is not. -/
theorem witness_DemandEpisodesAndEvent : Accepts (heard 9700 400 false) ∧ SampleDue (heard 9700 400 false) ∧
    (after (.demandSample (.quiet 0) 50 true false false) (heard 9700 49 false)).demand.conflictOpen = true ∧
    (after (.demandSample (.quiet 0) 50 true false false) (heard 9700 49 false)).recorder.lastOccurrenceOf 5 = some 10000 ∧
    (after (.demandSample (.quiet 0) 50 true false false) running).demand.conflictOpen = false ∧
    (after (.demandSample (.quiet 0) 50 true false false) running).demand.lastLogged = 50 ∧
    (after (.demandSample (.quiet 0) 49 true false false) running).demand.lastLogged = 0 ∧
    (after (.demandSample (.quiet 0) 49 true false false) running).recorder.events = [] := by
  refine ⟨⟨by decide, by decide⟩, ?_⟩
  and_intros <;> decide +kernel

theorem test_demand_frame_timer : (after (.demandFrameTimerExpiry (.quiet 0)) (controlling 9950)).line.queue.demand =
    some ⟨600, false⟩ := by decide +kernel

/-! ### Speed Unit -/

/-- RUN with six axles at a reference speed. -/
def rolling (axles : List Axle) (vRef : Nat) : State :=
  running.setSpeed { running.speed with axles := axles, vRef := vRef }

/-- An OK axle without a new edge. -/
def steady (speed : Nat) : Axle := ⟨0, none, none, some 9990000, speed, speed, .ok, none⟩

/-- R50: axle 6 is served, axles 0 and 7 are not; the edge count stops at 100. -/
theorem witness_EdgesAreCapturedOnServedAxles : Accepts running ∧ running.speed.sweepTimer ≠ none ∧
    running.speed.axles[6 - 1]? = some Axle.reset ∧ Axle.reset.edgeCount ≤ 100 ∧ 6 ≤ running.control.axleCount ∧
    running.control.axleCount < 7 ∧ inConfig.speed.sweepTimer = none ∧
    (after (.tachometerEdge (.quiet 5) 6) (rolling (List.replicate 6 { steady 0 with
      edgeCount := 100, newestEdge := some 1, firstNewEdge := some 1 }) 0)).speed.axles[5]?.map Axle.edgeCount = some 100 ∧
    (after (.tachometerEdge (.quiet 5) 6) running).speed.axles[5]?.map Axle.firstNewEdge = some (some 10000005) := by
  refine ⟨⟨by decide, by decide⟩, ?_⟩
  and_intros <;> decide

/-- Section 3.8.1; two edges at one moment; three first edges; one first edge; 250000 µs and 249999 µs without an edge. -/
def sixCases : List Axle :=
  [⟨4, some 20008754, some 20000000, some 19999100, 4990, 4990, .ok, none⟩, ⟨1, some 5, some 5, some 5, 0, 0, .ok, none⟩,
    ⟨3, some 5827, some 1000, none, 0, 0, .noEdge, none⟩, ⟨1, some 9, some 9, none, 0, 0, .noEdge, none⟩,
    ⟨0, none, none, some 9750000, 112, 112, .ok, none⟩, ⟨0, none, none, some 9750001, 112, 112, .ok, none⟩]

theorem sixCases_safe : ∀ a ∈ sixCases, AxleSafe a := by
  simp only [sixCases, List.forall_mem_cons, List.not_mem_nil, false_implies, implies_true, and_true]
  refine ⟨?_, ?_, ?_, ?_, ?_, ?_⟩ <;> constructor <;> decide

theorem witness_SweepMeasuresEveryServedAxle : Accepts (rolling sixCases 0) ∧
    (rolling sixCases 0).speed.constants = some (List.replicate 6 33521) ∧
    timerDue (rolling sixCases 0).speed.sweepTimer 10 ((rolling sixCases 0).advance (.quiet 0)).now = true ∧
    (∀ a ∈ sixCases, AxleSafe a) ∧ (rolling sixCases 0).control.axleCount = 6 := by
  exact ⟨⟨by decide, by decide⟩, by decide, by decide, sixCases_safe, by decide⟩

theorem test_measured_speeds :
    (after (.speedSweep (.quiet 0)) (rolling sixCases 0)).speed.axles.map Axle.speed = [5000, 16000, 5000, 0, 0, 112] ∧
    (after (.speedSweep (.quiet 0)) (rolling sixCases 0)).speed.axles.map Axle.lastEdge =
      [some 20008754, some 5, some 5827, some 9, none, some 9750001] := by decide +kernel

/-- Section 3.8.1: the axle constant of a wheel of 1067 mm with 100 teeth. -/
theorem test_axle_constant : axleConstant 1067 100 = 33521 := by decide

/-- Section 3.8.3: five axles at 4990, and axle 3 with four edges in `dt` µs (9811 µs are 4920, 9791 µs 4930, 10270 µs 4700). -/
def glitch (st : AxleStatus) (since : Option Time) (dt : Time) : State :=
  rolling [steady 4990, steady 4990, ⟨4, some (9990000 + dt), some 9991000, some 9990000, 4990, 4990, st, since⟩, steady 4990,
    steady 4990, steady 4990] 4990

/-- Axle 3's status and recovery-since time after a sweep. -/
def axle3 (s : State) : Option (AxleStatus × Option Time) :=
  (after (.speedSweep (.quiet 0)) s).speed.axles[2]?.map fun a => (a.status, a.recoverySince)

theorem witness_SweepSettlesEveryStatus : Accepts (glitch .ok none 9811) ∧
    (glitch .ok none 9811).speed.constants = some (List.replicate 6 33521) ∧
    timerDue (glitch .ok none 9811).speed.sweepTimer 10 ((glitch .ok none 9811).advance (.quiet 0)).now = true ∧
    (∀ a ∈ sixCases, AxleSafe a) ∧ (rolling sixCases 0).speed.axles = sixCases :=
  ⟨⟨by decide, by decide⟩, by decide, by decide, sixCases_safe, by decide⟩

theorem test_suspect : axle3 (glitch .ok none 9811) = some (.suspect, some 10000) ∧
    axle3 (glitch .ok none 9791) = some (.ok, none) ∧ axle3 (glitch .ok none 10270) = some (.suspect, none) := by decide +kernel
theorem test_recovery : axle3 (glitch .suspect (some 9000) 9811) = some (.ok, none) ∧
    axle3 (glitch .suspect (some 9001) 9811) = some (.suspect, some 9001) ∧
    axle3 (glitch .suspect none 9811) = some (.suspect, some 10000) ∧
    axle3 (glitch .suspect (some 9000) 10270) = some (.suspect, none) := by decide +kernel
theorem test_no_edge_status : (after (.speedSweep (.quiet 0)) (rolling sixCases 0)).speed.axles.map Axle.status =
    [.ok, .ok, .ok, .noEdge, .noEdge, .ok] := by decide +kernel

/-- The payload of a REPORT with the fields that the blend and the reference speed read. -/
def payload (participation : Byte) (vRef r a e : BitVec 16) : ReportPayload :=
  ⟨participation, 0, vRef, r, a, e, 0, 0, 0, 0, 0, 0, 0, 0⟩

/-- A peer entry. -/
def peer (st : EntryState) (p : ReportPayload) : Entry := ⟨st, some 9, some 9900, 3, some p, none, none⟩

/-- Section 3.8.4: six axles at 4200, V_ref 4800 and a PRESENT peer at 4795. -/
def fusing (axles : List Axle) (initialising : Bool) : State :=
  ((rolling axles 4800).setSpeed { (rolling axles 4800).speed with initialising := initialising }).setRoster
    (running.roster.setEntry 2 (peer .present (payload 1 4795 450 0 0)))

theorem fusing_held (axles : List Axle) (i : Bool) :
    ∀ e ∈ (fusing axles i).roster.entries, e.state = .present → e.held ≠ none := by
  show ∀ e ∈ (running.roster.setEntry 2 (peer .present (payload 1 4795 450 0 0))).entries, e.state = .present → e.held ≠ none
  decide

/-- The limits of R58 hold V_ref at 4797, the initialising sweep takes the own axles alone (R60), and without a candidate V_ref is
held (R59). -/
theorem witness_SweepFormsTheReferenceSpeed : Accepts (fusing (List.replicate 6 (steady 4200)) false) ∧
    timerDue (fusing (List.replicate 6 (steady 4200)) false).speed.sweepTimer 10
      ((fusing (List.replicate 6 (steady 4200)) false).advance (.quiet 0)).now = true ∧
    (∀ e ∈ (fusing [] false).roster.entries, e.state = .present → e.held ≠ none) ∧
    (fusing [] false).speed.initialising = false ∧ (fusing [] true).speed.initialising = true ∧
    (after (.speedSweep (.quiet 0)) (fusing (List.replicate 6 (steady 4200)) false)).speed.vRef = 4797 ∧
    (after (.speedSweep (.quiet 0)) (fusing (List.replicate 6 (steady 4200)) true)).speed.vRef = 4200 ∧
    (after (.speedSweep (.quiet 0)) (fusing (List.replicate 6 Axle.reset) true)).speed.vRef = 0 ∧
    (after (.speedSweep (.quiet 0)) (rolling (List.replicate 6 Axle.reset) 4800)).speed.vRef = 4800 ∧
    (after (.speedSweep (.quiet 0)) (rolling (List.replicate 6 Axle.reset) 4800)).speed.refHold = true :=
  ⟨⟨by decide, by decide⟩, by decide, fusing_held _ _, by decide, by decide, by decide +kernel, by decide +kernel, by decide +kernel,
    by decide +kernel, by decide +kernel⟩

/-! ### Slide Unit -/

/-- Section 4.9 at 6120, and a truck without an OK axle. -/
theorem witness_TruckQuantitiesAreTheWorst : 0 < 5000 ∧
    (truckQuantities 5000 [steady 5000, ⟨0, none, none, some 0, 4460, 4510, .ok, none⟩, steady 5000]).map
      (fun q => (q.slip, q.accel, q.decel)) = some (108, -50, 50) ∧
    (truckQuantities 5000 [Axle.reset]).isNone = true := by decide

/-- Truck 2 in a state, axle 5 at a speed, the other axles and V_ref at 5000, braking with d_req. -/
def sliding (t : Truck) (a : Axle) (dReq : Nat) : State :=
  ((rolling [steady 5000, steady 5000, steady 5000, steady 5000, a, steady 5000] 5000).setSlide
    { running.slide with truck2 := t }).setOutput { running.output with dReq := dReq }

/-- Truck 2 after the sweep. -/
def slid (t : Truck) (a : Axle) : Truck := (after (.speedSweep (.quiet 0)) (sliding t a 100)).slide.truck2

theorem witness_SlideEvaluationMovesEachTruck : Accepts (sliding Truck.reset (steady 4800) 100) ∧
    (sliding Truck.reset (steady 4800) 100).control.mode = .run ∧
    timerDue (sliding Truck.reset (steady 4800) 100).speed.sweepTimer 10
      ((sliding Truck.reset (steady 4800) 100).advance (.quiet 0)).now = true ∧
    (sliding Truck.reset (steady 4800) 100).slide.truck2.state = .normal :=
  ⟨⟨by decide, by decide⟩, by decide, by decide, by decide⟩

/-- R73 at its limits: slip 40 is WATCH, 39 is not; slip 100 is RELIEVE with the release time counted; 100 ms of quiet end WATCH. -/
theorem test_watch : slid Truck.reset (steady 4800) = ⟨.watch, 50, .apply, 0, none⟩ ∧
    slid Truck.reset (steady 4805) = Truck.reset ∧
    slid ⟨.watch, 50, .apply, 0, none⟩ (steady 4500) = ⟨.relieve, 0, .vent, 10, none⟩ ∧
    slid ⟨.watch, 50, .apply, 0, none⟩ (steady 5000) = ⟨.watch, 50, .apply, 0, some 10000⟩ ∧
    slid ⟨.watch, 50, .apply, 0, some 9901⟩ (steady 5000) = ⟨.watch, 50, .apply, 0, some 9901⟩ ∧
    slid ⟨.watch, 50, .apply, 0, some 9900⟩ (steady 5000) = Truck.reset := by decide +kernel

/-- R74, R75: RELIEVE to HOLD on an acceleration (4420 to 4450 by four edges in 10847 µs), HOLD by slip 100, 40 and 39, REAPPLY. -/
theorem test_relief :
    slid ⟨.relieve, 0, .vent, 40, none⟩ ⟨4, some 10000847, some 9991000, some 9990000, 4420, 4420, .ok, none⟩ =
      ⟨.hold, 0, .hold, 50, none⟩ ∧
    slid ⟨.relieve, 0, .vent, 40, none⟩ (steady 4420) = ⟨.relieve, 0, .vent, 50, none⟩ ∧
    slid ⟨.hold, 0, .hold, 50, none⟩ (steady 4500) = ⟨.relieve, 0, .vent, 60, none⟩ ∧
    slid ⟨.hold, 0, .hold, 50, none⟩ (steady 4800) = ⟨.hold, 0, .hold, 60, none⟩ ∧
    slid ⟨.hold, 0, .hold, 100, none⟩ (steady 4805) = ⟨.reapply, 1, .apply, 110, none⟩ ∧
    slid ⟨.reapply, 47, .apply, 340, none⟩ (steady 5000) = ⟨.reapply, 49, .apply, 350, none⟩ ∧
    slid ⟨.reapply, 49, .apply, 350, none⟩ (steady 5000) = Truck.reset := by decide +kernel

/-- R77, R78, R68: the release time reaches 4000; LOCKOUT stays while braking and ends without; WATCH is suspended without. -/
theorem test_lockout : slid ⟨.hold, 0, .hold, 3990, none⟩ (steady 4800) = ⟨.lockout, 50, .apply, 4000, none⟩ ∧
    slid ⟨.lockout, 50, .apply, 4000, none⟩ (steady 4800) = ⟨.lockout, 50, .apply, 4000, none⟩ ∧
    (after (.speedSweep (.quiet 0)) (sliding ⟨.lockout, 50, .apply, 4000, none⟩ (steady 5000) 0)).slide.truck2 = Truck.reset ∧
    (after (.speedSweep (.quiet 0)) (sliding ⟨.watch, 50, .apply, 0, none⟩ (steady 4800) 0)).slide.truck2 = Truck.reset := by
  decide +kernel

theorem witness_SweepDrivesValvesAndReportsLockout : Accepts (sliding ⟨.hold, 0, .hold, 3990, none⟩ (steady 4800) 100) ∧
    timerDue (running.setSpeed { running.speed with sweepTimer := some 9991 }).speed.sweepTimer 10 (running.advance (.quiet 0)).now = false ∧
    timerDue running.speed.sweepTimer 10 (running.advance (.quiet 0)).now = true ∧ running.control.mode = .run ∧
    (safed testRecord false none).control.mode ≠ .run ∧ running.recorder.lastOccurrence.length = 12 ∧
    (after (.speedSweep (.quiet 0)) (sliding ⟨.hold, 0, .hold, 3990, none⟩ (steady 4800) 100)).recorder.lastOccurrenceOf 2 = some 10000 ∧
    (after (.speedSweep (.quiet 0)) (sliding ⟨.watch, 50, .apply, 0, none⟩ (steady 4500) 100)).output.truck2.drive = .vent := by
  refine ⟨⟨by decide, by decide⟩, ?_⟩
  and_intros <;> decide +kernel

/-! ### Blend Unit -/

/-- The curve of section 2.12. -/
def curve : List (Nat × Nat) := [(0, 0), (1000, 300), (3000, 420), (6000, 420), (10000, 260)]

/-- Section 2.14's table. -/
theorem witness_CurveFollowsItsSegments : curve.Pairwise (fun p q => p.1 < q.1) ∧ (Params.ofBytes testBytes).curve = curve ∧
    [0, 500, 1999, 4797, 7001, 12000].map (curveAt curve) = [0, 150, 359, 420, 379, 260] := by decide

/-- Section 2.12: station 1 at its blend expiry. -/
def sharing : State :=
  { running with
    demand := { running.demand with state := .fresh, dEff := 600 }
    speed := { running.speed with vRef := 4797 }
    slide := { running.slide with truck2 := ⟨.reapply, 45, .apply, 340, none⟩ }
    output := { running.output with eOwn := 350, lConv := 400, participation := .blend, dReq := 370, stalenessTimer := some 9990 }
    roster := { running.roster with
      entries := [Entry.ownSelf (ownFields .air 450 0 0 0 0), peer .present (payload 1 4797 450 100 95), peer .stale (payload 1 4797 300 250 240)] ++
        List.replicate 5 Entry.reset } }

/-- R26, R27: an OUT peer, a JOINING one and one with rating 0 are not in K; an AIR peer's effort counts as 0; values are clamped. -/
def mixed : State :=
  running.setRoster { running.roster with entries :=
    [Entry.ownSelf (ownFields .air 450 0 0 0 0), peer .present (payload 3 0 450 100 95), peer .joining (payload 1 0 450 100 95),
      peer .stale (payload 1 0 0 100 95), peer .present (payload 2 0 450 100 95), peer .present (payload 1 0 801 801 801),
      Entry.reset, Entry.reset] }

theorem witness_BlendSetHoldsTheRightStations : mixed.roster.entries.length = 8 ∧ 1 ≤ mixed.control.station ∧
    mixed.control.station ≤ 8 ∧
    setK sharing.ownMember sharing.roster.entries = [⟨1, 450, 380, 350⟩, ⟨2, 450, 100, 95⟩, ⟨3, 300, 250, 240⟩] ∧
    setK mixed.ownMember mixed.roster.entries = [⟨1, 450, 0, 0⟩, ⟨5, 450, 0, 95⟩, ⟨6, 800, 800, 800⟩] := by decide +kernel

/-- Section 2.14: UNHEARD is set. -/
def sharingUnheard : State := sharing.setRoster { sharing.roster with unheard := true }

theorem witness_BlendResultsFollowTheMode : Accepts sharing ∧
    timerDue sharing.blend.timer 20 (sharing.advance (.quiet 0)).now = true ∧ 0 < sharing.params.rOwn ∧ sharing.roster.entries.length = 8 ∧
    1 ≤ sharing.control.station ∧ sharing.control.station ≤ 8 ∧ sharing.roster.unheard = false ∧ sharing.roster.duplicate = false ∧
    setK sharing.ownMember sharing.roster.entries ≠ [sharing.ownMember] ∧ sharingUnheard.roster.unheard = true ∧
    setK running.ownMember running.roster.entries = [running.ownMember] := by
  refine ⟨⟨by decide, by decide⟩, ?_⟩
  and_intros <;> decide +kernel

/-- The results of section 2.12 and the LOCAL ones of section 2.14. -/
theorem test_blend :
    ((after (.blendComputation (.quiet 0)) sharing).blend.mode, (after (.blendComputation (.quiet 0)) sharing).blend.avail,
      (after (.blendComputation (.quiet 0)) sharing).blend.target, (after (.blendComputation (.quiet 0)) sharing).blend.dyn,
      (after (.blendComputation (.quiet 0)) sharing).blend.shortfall, (after (.blendComputation (.quiet 0)) sharing).blend.dTarget,
      (after (.blendComputation (.quiet 0)) sharing).blend.air) = (.sharedBlend, 380, 720, 720, 35, 375, 14) ∧
    ((after (.blendComputation (.quiet 0)) sharingUnheard).blend.mode, (after (.blendComputation (.quiet 0)) sharingUnheard).blend.target,
      (after (.blendComputation (.quiet 0)) sharingUnheard).blend.dTarget, (after (.blendComputation (.quiet 0)) sharingUnheard).blend.shortfall,
      (after (.blendComputation (.quiet 0)) sharingUnheard).blend.air) = (.localBlend, 270, 270, 0, 0) := by decide +kernel

/-- Section 2.12's division. -/
theorem witness_SharesAddUpAndAirCoversTheGap : ∀ k, k = [⟨1, 450, 380, 350⟩, ⟨2, 450, 100, 95⟩, ⟨3, 300, 250, 240⟩] →
    720 ≤ sumA k ∧ 0 < sumR k ∧ shares 720 k = [(1, 375), (2, 99), (3, 246)] := by
  intro k h; subst h; decide

/-- R_air is exceeded since `since` with every converter isolated (section 2.15). -/
def short (since : Option Time) : State :=
  (running.setDemand { running.demand with state := .fresh, dEff := 1000 }).setBlend
    { running.blend with shortfallSince := since }

/-- Sections 2.12, 5.8 and 2.15: the hand-off in CLEAR and in EMERGENCY, and SHORTFALL after 2000 ms and not after 1999. -/
theorem witness_BlendCompletionHandsOver : Accepts sharing ∧ timerDue sharing.blend.timer 20 (sharing.advance (.quiet 0)).now = true ∧
    0 < sharing.params.rAir ∧ sharing.roster.entries.length = 8 ∧ sharing.recorder.lastOccurrence.length = 12 ∧
    ((after (.blendComputation (.quiet 0)) sharing).output.dReq = 374 ∧ (after (.blendComputation (.quiet 0)) sharing).output.pReq = 84) ∧
    ((after (.blendComputation (.quiet 0)) (sharing.setDemand { sharing.demand with emergency := .emergency })).output.dReq = 366 ∧
      (after (.blendComputation (.quiet 0)) (sharing.setDemand { sharing.demand with emergency := .emergency })).output.pReq = 520) ∧
    (after (.blendComputation (.quiet 0)) (short none)).blend.shortfallSince = some 10000 ∧
    (after (.blendComputation (.quiet 0)) (short (some 8000))).recorder.lastOccurrenceOf 6 = some 10000 ∧
    (after (.blendComputation (.quiet 0)) (short (some 8001))).recorder.lastOccurrenceOf 6 = none ∧
    (after (.blendComputation (.quiet 0)) (short (some 8001))).blend.air = 450 := by
  refine ⟨⟨by decide, by decide⟩, ?_⟩
  and_intros <;> decide +kernel

/-! ### Output Stage -/

/-- A request message begun at microsecond `begun`, and feedback fresh since 9900. -/
def linked (begun : Time) : State :=
  running.setOutput { running.output with
    eOwn := 350, lConv := 400, participation := .blend, stalenessTimer := some 9900, request := some ⟨0, true, begun⟩ }

/-- R84 to R86 at their limits: 320 µs between messages, 100 ms of staleness; the check values are computed outside the model. -/
theorem witness_ConverterLinkCarriesRequestAndFeedback : Accepts (linked 9999680) ∧
    timerDue (linked 0).output.stalenessTimer 100 ((linked 0).advance (.quiet 0)).now = true ∧
    timerDue running.output.stalenessTimer 100 (running.advance (.quiet 0)).now = false ∧
    elapsed 9999680 ((linked 9999680).advance (.quiet 0)).micros = 320 ∧ elapsed 9999681 ((linked 9999681).advance (.quiet 0)).micros = 319 ∧
    (after (.requestMessage (.quiet 0)) (linked 9999680)).output.request = some ⟨0, true, 10000000⟩ ∧
    (after (.stalenessExpiry (.quiet 0)) (linked 0)).output.lConv = 0 := by
  refine ⟨⟨by decide, by decide⟩, ?_⟩
  and_intros <;> decide

theorem test_feedback :
    (after (.converterFeedback (.quiet 0) [0x5B, 0x01, 0x5E, 0x01, 0x90, 0x07, 0x33]) running).output.eOwn = 350 ∧
    (after (.converterFeedback (.quiet 0) [0x5B, 0x03, 0xE8, 0xFF, 0xFF, 0x0B, 0x83]) running).output.lConv = 800 ∧
    (after (.converterFeedback (.quiet 0) [0x5B, 0x01, 0x5E, 0x01, 0x90, 0, 0]) running).output.eOwn = 0 := by decide +kernel

/-- A truck whose mismatch run began at `since`. -/
def leaking (since : Option Time) : State :=
  running.setOutput { running.output with
    pReq := 520, truck2 := { TruckOutput.reset with mismatchSince := since } }

theorem witness_PressureSampleWatchesBothTrucks : Accepts (leaking none) ∧ (leaking none).recorder.lastOccurrence.length = 12 ∧
    timerDue (leaking none).output.pressureTimer 20 ((leaking none).advance (.quiet 0)).now = true ∧
    timerDue (some 9981) 20 ((leaking none).advance (.quiet 0)).now = false :=
  ⟨⟨by decide, by decide⟩, by decide, by decide, by decide⟩

/-- R93 to R95 at their limits: 700 and 701 kPa, a difference of 60 and 61, 2000 ms and 1999 ms. Source 7 fires only within 5 s of
source 1, but its occurrence is set. -/
theorem test_pressure :
    ((after (.pressureSample (.quiet 0) 700 701) (leaking none)).output.truck1.pMeas = 700 ∧
      (after (.pressureSample (.quiet 0) 700 701) (leaking none)).output.truck2.sensorFault = true) ∧
    (after (.pressureSample (.quiet 0) 520 460) (leaking none)).output.truck2.mismatchSince = none ∧
    (after (.pressureSample (.quiet 0) 520 459) (leaking none)).output.truck2.mismatchSince = some 10000 ∧
    (after (.pressureSample (.quiet 0) 520 430) (leaking (some 8000))).output.truck2.mismatchOpen = true ∧
    (after (.pressureSample (.quiet 0) 520 430) (leaking (some 8000))).recorder.lastOccurrenceOf 7 = some 10000 ∧
    (after (.pressureSample (.quiet 0) 520 430) (leaking (some 8001))).output.truck2.mismatchOpen = false := by decide +kernel

/-! ### Line Controller -/

/-- RUN with frames queued. -/
def queued (q : TxQueue) : State := running.setLine { running.line with queue := q }

/-- One NOTICE and one DEMAND, a DEMAND, a REPORT. -/
def noticeQueued : State := queued ⟨[⟨7, .power, .severe⟩], some ⟨600, false⟩, false⟩
def demandQueued : State := queued ⟨[], some ⟨600, false⟩, true⟩
def reportQueued : State := queued ⟨[], none, true⟩

theorem witness_FirstAttemptWaitsForItsQuietTime : Accepts noticeQueued ∧ Accepts demandQueued ∧ Accepts running ∧
    noticeQueued.line.onAir = none ∧ noticeQueued.control.mode = .run ∧
    noticeQueued.line.queue.notices = [⟨7, .power, .severe⟩] ∧ demandQueued.line.queue.notices = [] ∧
    demandQueued.line.queue.demand = some ⟨600, false⟩ ∧ running.line.queue = ⟨[], none, false⟩ ∧
    (noticeQueued.advance (.quiet 96)).line.idleMicros / 4 = 24 ∧ (demandQueued.advance (.quiet 128)).line.idleMicros / 4 = 32 := by
  and_intros <;> first | decide | (constructor <;> decide)

/-- R97: the idle time runs on while the line is recessive, and counts from the last dominant bit of another station. -/
theorem test_idle_time : ([.quiet 5, ⟨100, [], some 40, []⟩, ⟨100, [], some 0, []⟩].map fun dt =>
    ((running.setLine { running.line with idleMicros := 600 }).advance dt).line.idleMicros) = [605, 40, 0] := by decide

/-- R107 at its limits. -/
theorem test_quiet_times :
    (after (.firstGoesOnAir (.quiet 96) 24) noticeQueued).line.onAir = some ⟨.notice ⟨7, .power, .severe⟩, 0, .sending 10000096⟩ ∧
    (after (.firstGoesOnAir (.quiet 92) 23) noticeQueued).line.onAir = none ∧
    (after (.firstGoesOnAir (.quiet 128) 32) demandQueued).line.onAir = some ⟨.demand ⟨600, false⟩, 0, .sending 10000128⟩ ∧
    (after (.firstGoesOnAir (.quiet 124) 32) demandQueued).line.onAir = none := by decide +kernel

theorem witness_ReportGoesOnAirWithTheMoment : Accepts reportQueued ∧ reportQueued.control.mode.working = true ∧
    timerDue reportQueued.line.reportTimer 100 (reportQueued.advance (.quiet 0)).now = true ∧
    timerDue (some 9901) 100 (reportQueued.advance (.quiet 0)).now = false ∧ reportQueued.roster.entries.length = 8 ∧
    reportQueued.roster.entry? reportQueued.control.station = some (Entry.ownSelf (ownFields .air 450 0 0 0 0)) ∧
    (Entry.ownSelf (ownFields .air 450 0 0 0 0)).held = some (ownFields .air 450 0 0 0 0) ∧ reportQueued.line.onAir = none ∧
    reportQueued.line.queue = ⟨[], none, true⟩ ∧ 48 + 8 * reportQueued.control.station = 56 ∧
    (reportQueued.advance (.quiet 224)).line.idleMicros / 4 = 56 ∧
    (after (.firstGoesOnAir (.quiet 220) 55) reportQueued).line.onAir = none := by
  refine ⟨⟨by decide, by decide⟩, ?_⟩
  and_intros <;> decide

theorem test_report_on_air :
    (after (.firstGoesOnAir (.quiet 224) 56) (reportQueued.setSlide { running.slide with lockoutSeen := true })).slide.lockoutSeen = false ∧
    (after (.reportTimerExpiry (.quiet 0)) running).line.queue.report = true := by decide

/-- A NOTICE on air from a station, with an attempt count. -/
def onAir (station attempts : Nat) (phase : AirPhase) : State :=
  (running.setControl { running.control with station := station }).setLine
    { running.line with onAir := some ⟨.notice ⟨7, .power, .severe⟩, 3, phase⟩, attempts := attempts }

theorem witness_AttemptsSucceedWaitOrGiveUp : Accepts (onAir 2 1 .waiting) ∧ (onAir 2 1 .waiting).control.mode = .run ∧
    (onAir 2 1 .waiting).control.mode.working = true ∧
    (onAir 2 1 .waiting).line.onAir = some ⟨.notice ⟨7, .power, .severe⟩, 3, .waiting⟩ ∧
    elapsed 9999480 ((onAir 2 1 (.sending 9999480)).advance (.quiet 0)).micros = 40 * (7 + FrameKind.notice.payloadLength) ∧
    elapsed 9999936 ((onAir 2 1 (.jamming 9999936)).advance (.quiet 0)).micros = 64 ∧ running.line.onAir = none ∧
    ((onAir 2 1 .waiting).advance (.quiet 256)).line.idleMicros / 4 = 24 + 1 * 2 * 20 := by
  refine ⟨⟨by decide, by decide⟩, ?_⟩
  and_intros <;> decide

/-- R97: a station that sends measures the idle time from the line. The levels of A7 are dominant in bits 0, 4, 5 and 7, and bit
10 starts the next character; another station's dominant bit counts too; the jam is 16 dominant bits. -/
theorem test_idle_while_driving :
    ([3, 4, 15, 16, 24, 39, 40].map fun e => ((onAir 2 1 (.sending 10000000)).advance (.quiet e)).line.idleMicros) =
      [0, 0, 11, 0, 0, 7, 0] ∧
    ((onAir 2 1 (.sending 10000000)).advance ⟨15, [], some 2, []⟩).line.idleMicros = 2 ∧
    ((onAir 2 1 (.jamming 10000000)).advance (.quiet 63)).line.idleMicros = 0 ∧
    ((onAir 2 1 (.jamming 10000000)).advance (.quiet 70)).line.idleMicros = 6 := by decide +kernel

/-- Section 6.7: stations 2 and 5 wait 64 and 124 bit times after one failed attempt. -/
theorem test_backoff :
    (after (.retryAttempt (.quiet 256) 64) (onAir 2 1 .waiting)).line.onAir.map OnAir.phase = some (.sending 10000256) ∧
    (after (.retryAttempt (.quiet 252) 63) (onAir 2 1 .waiting)).line.onAir.map OnAir.phase = some .waiting ∧
    (after (.retryAttempt (.quiet 496) 124) (onAir 5 1 .waiting)).line.onAir.map OnAir.phase = some (.sending 10000496) ∧
    (after (.retryAttempt (.quiet 492) 124) (onAir 5 1 .waiting)).line.onAir.map OnAir.phase = some .waiting := by decide +kernel

/-- R108 to R110: 13 characters are 520 µs, the jam 64 µs, and the eighth failure gives the frame up. -/
theorem test_attempt_ends :
    (after (.attemptSuccess (.quiet 0)) (onAir 2 1 (.sending 9999480))).line.onAir = none ∧
    (after (.attemptSuccess (.quiet 0)) (onAir 2 1 (.sending 9999481))).line.onAir.isSome = true ∧
    (after (.collision (.quiet 0)) (onAir 2 1 (.sending 9999481))).line.onAir.map OnAir.phase = some (.jamming 10000000) ∧
    (after (.jamEnd (.quiet 0)) (onAir 2 1 (.jamming 9999937))).line.attempts = 1 ∧
    (after (.jamEnd (.quiet 0)) (onAir 2 1 (.jamming 9999936))).line.attempts = 2 ∧
    (after (.jamEnd (.quiet 0)) (onAir 2 7 (.jamming 9999936))).line.onAir = none ∧
    (after (.jamEnd (.quiet 0)) (onAir 2 7 (.jamming 9999936))).recorder.events = [⟨10000, .lineDiscard .notice⟩] := by decide +kernel

/-! ### Receive framer -/

/-- The passage that ends a frame of another station: 10 bit times of idle after its last dominant bit. -/
def frameEnd : Passage := ⟨40, [], some 40, []⟩

/-- RUN with the receive framer in a state. -/
def framed (framer : Framer) (buffer : List Byte) (echo : Bool) : State :=
  running.setLine { running.line with framer := framer, buffer := buffer, echo := echo }

/-- A DEMAND of station 2 with its check value computed outside the model, and the same frame with one field broken in turn:
start mark, kind, station 0, station 9, payload length, a byte missing, check value. -/
def goodFrame : List Byte := [0xA7, 2, 2, 5, 4, 0x01, 0x90, 0, 0, 0x1A, 0xF1]
def badFrames : List (List Byte) :=
  [0xA6 :: goodFrame.drop 1, goodFrame.set 1 4, goodFrame.set 2 0, goodFrame.set 2 9, goodFrame.set 4 5, goodFrame.take 10,
    goodFrame.set 10 0, goodFrame.take 6]

/-- Line traffic with no time in it. -/
def traffic (events : List LineEvent) : Passage := ⟨0, [], some 0, events⟩

/-- The own NOTICE on air since 10 s, received under the echo mark. -/
def ownReceived : State :=
  running.setLine { (onAir 1 0 (.sending 10000000)).line with framer := .receiving, buffer := [], echo := true }

/-- The framer, its buffer and its echo mark. -/
def framerOf (s : State) : Framer × List Byte × Bool := (s.line.framer, s.line.buffer, s.line.echo)

theorem witness_FramerDispatchesNoBadFrameAndNoEcho : Accepts (framed .ignoring [] false) ∧
    (framed .ignoring [] false).control.mode ≠ .init ∧ (framed .receiving [] false).line.framer = .receiving ∧
    ((framed .idle [] false).advance (.quiet 39)).line.idleMicros / 4 = 9 ∧
    ((framed .ignoring [] false).advance (.quiet 40)).line.idleMicros / 4 = 10 ∧
    initKept.control.mode = .init ∧ (framed .receiving goodFrame true).line.echo = true ∧
    (framed .receiving [0xA7] false).line.buffer ≠ [] ∧ ownReceived.line.onAir.isSome = true ∧ ownReceived.line.echo = true ∧
    (after (.framerIdle (.quiet 40)) (framed .ignoring [] false)).line.framer = .idle ∧
    (after (.framerIdle (.quiet 39)) (framed .ignoring [] false)).line.framer = .ignoring ∧
    (after (.framerIdle (.quiet 600)) (framed .ignoring [] false)).line.idleMicros = 600 ∧
    (after (.frameDiscarded (.quiet 0) .dominantStopBit) (framed .receiving [0xA7] false)).line.framer = .ignoring ∧
    (after (.frameDiscarded (.quiet 0) (.wrongStartMark 0xA6)) (framed .receiving [] false)).line.framer = .ignoring ∧
    (after (.frameDiscarded (.quiet 0) (.wrongStartMark 0xA6)) (framed .receiving [0xA7] false)).line.framer = .receiving ∧
    (after (.frameDiscarded (.quiet 0) .dominantStopBit) (framed .idle [] false)).line.framer = .ignoring := by
  refine ⟨⟨by decide, by decide⟩, ?_⟩
  and_intros <;> decide

/-- R99's table, event by event: a start bit, characters, a first one that is no start mark; in IGNORING nothing. -/
theorem test_framer_hears :
    framerOf ((framed .idle [1] true).advance (traffic [.startBit])) = (.receiving, [], false) ∧
    framerOf ((framed .receiving [] false).advance (traffic [.character 0xA7, .startBit])) = (.receiving, [0xA7], false) ∧
    framerOf ((framed .receiving [0xA7] false).advance (traffic [.character 2])) = (.receiving, [0xA7, 2], false) ∧
    framerOf ((framed .receiving [] true).advance (traffic [.character 0xA6, .character 0xA7])) = (.ignoring, [], true) ∧
    framerOf ((framed .idle [] false).advance (traffic (goodFrame.map .character))) = (.receiving, goodFrame, false) ∧
    framerOf ((framed .ignoring [] false).advance (traffic (goodFrame.map .character))) = (.ignoring, [], false) := by decide

/-- R99, R108: the own frame is received as it is sent, a character of 10 bit times (40 µs) at a time, 13 for a NOTICE. -/
theorem test_framer_hears_own :
    [0, 39, 40, 120, 519, 520].map (fun k => (ownReceived.advance (.quiet k)).line.buffer.length) = [0, 0, 1, 3, 12, 13] ∧
    (ownReceived.advance (.quiet 120)).line.buffer = [0xA7, 3, 1] := by decide +kernel

theorem test_bad_frames : (badFrames.map fun f => (after (.frameComplete frameEnd f) running).roster.entries[1]?.map Entry.latestDemand) =
    List.replicate 8 (some none) := by decide +kernel
/-- R99, R111: the own echo completes at 10 bit times of idle, no earlier, and reaches no block. -/
theorem test_echo : (after (.frameComplete (.quiet 40) []) (framed .receiving goodFrame true)).roster = running.roster ∧
    (after (.frameComplete (.quiet 40) []) (framed .receiving goodFrame true)).line.framer = .idle ∧
    (after (.frameComplete (.quiet 39) []) (framed .receiving goodFrame true)).line.framer = .receiving := by decide +kernel

/-! ### Peer Roster -/

/-- RUN with an entry 2. -/
def known (e : Entry) : State := running.setRoster (running.roster.setEntry 2 e)

/-- An entry 2 in a state, last heard at `at_` with sequence 9. -/
def entry (st : EntryState) (count : Nat) (at_ : Time) : Entry := ⟨st, some 9, some at_, count, some (payload 1 0 0 0 0), none, none⟩

/-- The state and join count of entry 2 after a REPORT of station 2 with a sequence. -/
def arrive (e : Entry) (seq : Byte) : Option (EntryState × Nat) :=
  (after (.frameComplete frameEnd (frameBytes 2 seq (.report (payload 1 0 0 0 0)))) (known e)).roster.entries[1]?.map fun x =>
    (x.state, x.joinCount)

theorem witness_ReportsTakePeersThroughJoining : Accepts (known Entry.reset) ∧ (known Entry.reset).control.mode ≠ .init ∧
    (known Entry.reset).line.framer = .idle ∧ 10 ≤ ((known Entry.reset).advance frameEnd).line.idleMicros / 4 ∧ (2 : Nat) ≠ (known Entry.reset).control.station ∧
    (known Entry.reset).roster.entry? 2 = some Entry.reset ∧ Entry.reset.state ≠ .self ∧
    (known (entry .joining 2 9750)).roster.entry? 2 = some (entry .joining 2 9750) := by
  refine ⟨⟨by decide, by decide⟩, ?_⟩
  and_intros <;> decide

/-- R117 to R119 at their limits: 250 ms and 251 ms, join counts 1 and 2, sequences in order and not. -/
theorem test_joining : arrive Entry.reset 0 = some (.joining, 1) ∧ arrive (entry .lost 0 0) 10 = some (.joining, 1) ∧
    arrive (entry .joining 1 9750) 10 = some (.joining, 2) ∧ arrive (entry .joining 2 9750) 10 = some (.present, 3) ∧
    arrive (entry .joining 2 9749) 10 = some (.joining, 1) ∧ arrive (entry .joining 2 9750) 11 = some (.joining, 1) := by
  decide +kernel
theorem test_present : arrive (entry .present 3 0) 10 = some (.present, 3) ∧ arrive (entry .stale 3 0) 10 = some (.present, 3) ∧
    arrive (entry .present 3 9999) 11 = some (.joining, 1) ∧ arrive (entry .stale 3 9999) 9 = some (.joining, 1) := by
  decide +kernel

/-- Section 7.8: a PRESENT peer that lists the own station clears UNHEARD; one that does not starts the unheard run. -/
theorem test_unheard_clears :
    (after (.frameComplete frameEnd (frameBytes 2 10 (.report { payload 1 0 0 0 0 with view := 1 })))
      ((known (entry .present 3 9900)).setRoster { (known (entry .present 3 9900)).roster with unheard := true })).roster.unheard = false ∧
    (after (.frameComplete frameEnd (frameBytes 2 10 (.report { payload 1 0 0 0 0 with view := 2 })))
      (known (entry .present 3 9900))).roster.unheardSince = some 10000 := by decide +kernel

theorem witness_DemandsNoticesAndDuplicatesArrive : Accepts (known (entry .lost 0 0)) ∧
    (known (entry .lost 0 0)).control.mode ≠ .init ∧ (known (entry .lost 0 0)).line.framer = .idle ∧
    10 ≤ ((known (entry .lost 0 0)).advance frameEnd).line.idleMicros / 4 ∧
    goodFrame = frameBytes 2 5 (.demand ⟨400, false⟩) ∧ running.roster.duplicate = false ∧ running.control.station = 1 ∧
    running.recorder.lastOccurrence.length = 12 := by
  refine ⟨⟨by decide, by decide⟩, ?_⟩
  and_intros <;> decide +kernel

/-- R126, R128, R149: a DEMAND in every state, a NOTICE once, number 0 never, an own number is a duplicate. -/
theorem test_dispatch :
    (after (.frameComplete frameEnd goodFrame) (known (entry .lost 0 0))).roster.entries[1]?.map Entry.latestDemand =
      some (some ⟨400, false, 10000⟩) ∧
    (after (.frameComplete frameEnd (frameBytes 2 0 (.notice ⟨7, .power, .severe⟩))) (known Entry.reset)).recorder.lastOccurrenceOf 9 =
      some 10000 ∧
    (after (.frameComplete frameEnd (frameBytes 2 0 (.notice ⟨0, .power, .severe⟩))) (known Entry.reset)).recorder.lastOccurrenceOf 9 =
      none ∧
    (after (.frameComplete frameEnd (frameBytes 2 0 (.notice ⟨7, .power, .severe⟩)))
      (known { Entry.reset with lastNotice := some 7 })).recorder.lastOccurrenceOf 9 = none := by decide +kernel
/-- R99: a frame that passages bring in part and FRAME_COMPLETE ends is the same frame. -/
theorem test_frame_in_parts :
    ([0, 1, 5, 11].map fun k => (after (.frameComplete { frameEnd with traffic := (goodFrame.take k).map .character } (goodFrame.drop k))
      (known (entry .lost 0 0))).roster.entries[1]?.map Entry.latestDemand) = List.replicate 4 (some (some ⟨400, false, 10000⟩)) := by
  decide +kernel
theorem test_duplicate :
    (after (.frameComplete frameEnd (frameBytes 1 0 (.demand ⟨0, false⟩))) running).roster.duplicateExpiry = some 15000 ∧
    (after (.frameComplete frameEnd (frameBytes 1 0 (.demand ⟨0, false⟩))) running).recorder.lastOccurrenceOf 8 = some 10000 := by
  decide +kernel

/-- The unheard run and the duplicate episode since given times. -/
def lonely (since expiry : Time) : State :=
  running.setRoster { running.roster with unheardSince := some since, duplicate := true, duplicateExpiry := some expiry }

/-- Entry 2's state after its silence expiry. -/
def silent (e : Entry) : Option EntryState := (after (.silenceExpiry (.quiet 0) 2) (known e)).roster.entries[1]?.map Entry.state

theorem witness_SilenceUnheardAndDuplicateExpire : Accepts (known (entry .present 3 9750)) ∧
    (known (entry .present 3 9750)).control.mode ≠ .init ∧
    (known (entry .present 3 9750)).roster.entry? 2 = some (entry .present 3 9750) ∧
    timerDue (entry .present 3 9750).lastHeard 250 ((known (entry .present 3 9750)).advance (.quiet 0)).now = true ∧
    running.roster.entry? 9 = none ∧ (lonely 9000 15000).control.mode = .run ∧
    timerDue (lonely 9000 15000).roster.unheardSince 1000 ((lonely 9000 15000).advance (.quiet 0)).now = true ∧
    running.roster.duplicateExpiry = none ∧ elapsed (10000 - 5000#32) ((lonely 9000 10000).advance (.quiet 0)).now = 5000 := by
  refine ⟨⟨by decide, by decide⟩, ?_⟩
  and_intros <;> decide

/-- R120 at its limits. -/
theorem test_silence : silent (entry .present 3 9750) = some .stale ∧ silent (entry .present 3 9751) = some .present ∧
    silent (entry .stale 3 9000) = some .lost ∧ silent (entry .stale 3 9001) = some .stale ∧
    silent (entry .joining 1 9000) = some .absent ∧ silent (entry .joining 1 9001) = some .joining := by decide +kernel

/-- R123, R126 at their limits. -/
theorem test_unheard_and_duplicate_expiry : (after (.unheardExpiry (.quiet 0)) (lonely 9000 15000)).roster.unheard = true ∧
    (after (.unheardExpiry (.quiet 0)) (lonely 9001 15000)).roster.unheard = false ∧
    (after (.duplicateExpiry (.quiet 0)) (lonely 9000 10000)).roster.duplicate = false ∧
    (after (.duplicateExpiry (.quiet 0)) (lonely 9000 10001)).roster.duplicate = true := by decide +kernel

/-! ### Recorder -/

/-- RUN with an image that is FILLING. -/
def filling (img : Image) : State := running.setRecorder { running.recorder with capture := .filling, image := some img }

/-- A snapshot of RUN. -/
def snap : Snapshot :=
  ⟨0, .run, 0, .none, .clear, 0, 0, 0, .localBlend, 0, 0, 0, 0, 0, 0, .normal, 50, .normal, 50, 0, 0⟩

/-- R141 at its limit: the 32nd post-trigger snapshot makes the capture COMMITTING. -/
theorem witness_SnapshotFillsHistoryAndImage : Accepts (filling { image 1 false false with post := List.replicate 31 snap }) ∧
    timerDue running.recorder.snapshotTimer 100 (running.advance (.quiet 0)).now = true ∧
    timerDue (some 9901) 100 (running.advance (.quiet 0)).now = false ∧ running.roster.entries.length = 8 ∧
    running.recorder.capture ≠ .filling ∧
    (after (.snapshot (.quiet 0)) (filling { image 1 false false with post := List.replicate 30 snap })).recorder.capture = .filling ∧
    (after (.snapshot (.quiet 0)) (filling { image 1 false false with post := List.replicate 31 snap })).recorder.capture = .committing := by
  refine ⟨⟨by decide, by decide⟩, ?_⟩
  and_intros <;> decide +kernel

/-- R132: the ring keeps the newest 64. -/
theorem test_history_ring :
    (after (.snapshot (.quiet 0)) (running.setRecorder { running.recorder with history := List.replicate 64 snap })).recorder.history.length =
      64 := by decide +kernel

/-- The source 7, qualified by source 1 within 5 s, source 10, not enabled, and source 3, a NOTE. -/
theorem witness_RaisingFiresByTheTriggerTable : running.control.mode.working = true ∧ inConfig.control.mode.working = false ∧
    running.params.trigger .airMismatch = ⟨1, 0, 1, 5⟩ ∧ running.params.trigger .unheard = ⟨0, 0, 0, 0⟩ ∧
    running.params.trigger .peerLost = ⟨1, 0, 0, 0⟩ := by decide

/-- RUN with EMERGENCY last raised at a time. -/
def raised (at_ : Option Time) : State :=
  running.setRecorder { running.recorder with lastOccurrence := at_ :: List.replicate 11 none }

/-- R137 at its limit: 5000 ms and 5001 ms, without an occurrence, not enabled, unqualified, outside RUN and SAFE. -/
theorem test_raising : (raiseWith .airMismatch .note none (raised (some 5000))).recorder.capture = .filling ∧
    (raiseWith .airMismatch .note none (raised (some 4999))).recorder.capture = .idle ∧
    (raiseWith .airMismatch .note none (raised none)).recorder.capture = .idle ∧
    (raiseWith .unheard .note none running).recorder.capture = .idle ∧
    (raiseWith .peerLost .note none running).recorder.capture = .filling ∧
    (raiseWith .manual .severe none running).recorder.image.map Image.cls = some .severe ∧
    (raiseWith .peerLost .note none inConfig).recorder.capture = .idle := by decide +kernel

/-- A SEVERE firing. -/
def firing : Pending := ⟨.manual, .severe, 10000, none, 0, false⟩

/-- R139, R140, R143, R146, R147 at their limits: a NOTICE behind one other and not behind two; the count stops at 255; the 49th
event is not taken. -/
theorem witness_FiringOpensMergesOrWaits : running.recorder.capture = .idle ∧
    ((fire firing (queued ⟨[⟨1, .manual, .severe⟩], none, false⟩)).line.queue.notices.length = 2 ∧
      (fire firing (queued ⟨[⟨1, .manual, .severe⟩, ⟨2, .manual, .severe⟩], none, false⟩)).recorder.image.map
        (fun i => (i.flags.noticeNotSent, i.number)) = some (true, 1)) ∧
    (fire firing (filling { image 1 false false with secondary := 255 })).recorder.image.map
      (fun i => (i.secondary, i.cls, i.noticeEnqueued)) = some (255, .severe, true) ∧
    (fire firing (filling { image 1 false false with events := List.replicate 48 ⟨0, .emergencyEnter⟩ })).recorder.image.map
      (fun i => (i.events.length, i.flags.eventsTruncated)) = some (48, true) ∧
    committing.recorder.capture = .committing ∧ committing.recorder.pendingTrigger = none ∧
    (fire firing committing).recorder.pendingTrigger = some firing ∧
    (fire firing (fire firing committing)).recorder.pendingTrigger.map Pending.merged = some 1 := by
  and_intros <;> decide +kernel

/-! ### Store Controller -/

/-- Section 9.7: slots 1 to 11 LOCKED, slots 12 to 16 STORED with the numbers given, slot 16 as given. -/
def fullStore (slot16 : Slot) : Store :=
  ⟨List.replicate 11 (held? .locked 100 (some .locked)) ++ [held? .stored 290 (some .unlocked), held? .stored 301 (some .unlocked),
    held? .stored 288 (some .unlocked), held? .stored 302 (some .unlocked), slot16], 305, .none, none⟩

/-- A commit that is due. -/
def toCommit (slot16 : Slot) : State :=
  (running.setRecorder { running.recorder with
    capture := .committing, image := some { image 305 false false with cls := .severe } }).setStore (fullStore slot16)

/-- Section 9.7 at 5000: slot 14 is chosen under number 305 and will be locked; a FREE or DAMAGED slot 16 goes before it. -/
theorem test_slot_choice : (beginCommit (toCommit (held? .stored 304 (some .unlocked)))).store.op = .write 14 true false ∧
    (beginCommit (toCommit (held? .stored 304 (some .unlocked)))).store.nextNumber = 306 ∧
    (beginCommit (toCommit Slot.blank)).store.op = .write 16 true false ∧
    (beginCommit (toCommit { Slot.blank with state := .damaged })).store.op = .write 16 true false := by decide +kernel

/-- What holds of every slot with its number holds of the slot of a number. -/
theorem slots_all {st : Store} {P : Nat → Slot → Prop} [∀ n x, Decidable (P n x)]
    (h : (st.slots.zipIdx 1).all (fun q => decide (P q.2 q.1)) = true) {m : Nat} {y : Slot} (hy : st.slot? m = some y) : P m y := by
  unfold Store.slot? at hy
  split at hy
  · cases hy
  · have := List.all_eq_true.1 h (y, m) (by rw [List.mk_mem_zipIdx_iff_le_and_getElem?_sub]; exact ⟨by omega, hy⟩)
    exact of_decide_eq_true this

/-- The distance behind 305 (R159). -/
def distance (y : Slot) : Nat := match y.header with | some h => (((305 : Int) - h.number - 1) % 65535 + 1).toNat | none => 0

/-- The STORED clause of the slot choice on section 9.7's store; the FREE and DAMAGED clauses with slot 16 free and damaged. -/
theorem witness_WriteTakesFreeThenDamagedThenOldest : ∀ s, s = toCommit (held? .stored 304 (some .unlocked)) →
    s.recorder.capture = .committing ∧ s.recorder.image.isSome = true ∧ s.store.op = .none ∧ s.store.slots.length = 16 ∧
    s.store.lockedCount ≤ 12 ∧ (∀ x ∈ s.store.slots, x.state ≠ .writing ∧ x.state ≠ .erasing) ∧
    s.store.slot? 14 = some (held? .stored 288 (some .unlocked)) ∧
    (∀ y h, y.header = some h → 1 ≤ h.number → h.number ≤ 65535 →
      (distance y : Int) = ((s.store.nextNumber : Int) - h.number - 1) % 65535 + 1) ∧
    (∀ m y, s.store.slot? m = some y → y.state ≠ .free ∧ y.state ≠ .damaged) ∧
    (∀ m y, s.store.slot? m = some y → y.state = .stored → m ≠ 14 →
      distance y < distance (held? .stored 288 (some .unlocked)) ∨
        (14 < m ∧ distance y = distance (held? .stored 288 (some .unlocked)))) := by
  intro s h; subst h
  refine ⟨by decide, by decide, by decide, by decide, by decide, by decide, rfl, ?_, ?_, ?_⟩
  · intro y h hy _ _
    rw [distance, hy]
    show ((((305 : Int) - h.number - 1) % 65535 + 1).toNat : Int) = ((305 : Int) - h.number - 1) % 65535 + 1
    exact Int.toNat_of_nonneg (by omega)
  · exact fun m y => slots_all (P := fun _ y => y.state ≠ .free ∧ y.state ≠ .damaged) (by decide +kernel)
  · exact fun m y => slots_all (P := fun m y => y.state = .stored → m ≠ 14 →
      distance y < distance (held? .stored 288 (some .unlocked)) ∨
        (14 < m ∧ distance y = distance (held? .stored 288 (some .unlocked)))) (by decide +kernel)

theorem witness_FreeAndDamagedSlots :
    (toCommit Slot.blank).store.slot? 16 = some Slot.blank ∧
    (∀ m y, m < 16 → (toCommit Slot.blank).store.slot? m = some y → y.state ≠ .free) ∧
    (toCommit { Slot.blank with state := .damaged }).store.slot? 16 = some { Slot.blank with state := .damaged } ∧
    (∀ m y, (toCommit { Slot.blank with state := .damaged }).store.slot? m = some y → y.state ≠ .free) ∧
    (∀ m y, m < 16 → (toCommit { Slot.blank with state := .damaged }).store.slot? m = some y → y.state ≠ .damaged) := by
  refine ⟨rfl, fun m y hm h => ?_, rfl, fun m y => ?_, fun m y hm h => ?_⟩
  · exact slots_all (P := fun m y => m < 16 → y.state ≠ .free) (by decide +kernel) h hm
  · exact slots_all (P := fun _ y => y.state ≠ .free) (by decide +kernel)
  · exact slots_all (P := fun m y => m < 16 → y.state ≠ .damaged) (by decide +kernel) h hm

/-- RUN with section 9.7's store and an operation in flight. -/
def inFlight (op : Operation) : State := running.setStore { fullStore (held? .stored 304 (some .unlocked)) with op := op }

theorem witness_CompletionsLeaveTheSlotAsReadBack : Accepts committing ∧ committing.store.op = .write 1 false false ∧
    committing.recorder.image = some (image 1 false false) ∧
    committing.store.slot? 1 = some { Slot.blank with state := .writing, tag := true, clear := false, writing := 1 } ∧
    committing.recorder.pendingTrigger = none ∧ Accepts (inFlight (.erase 14)) ∧ (inFlight (.erase 14)).store.op = .erase 14 ∧
    (inFlight (.lock 14)).store.slot? 14 = some (held? .stored 288 (some .unlocked)) ∧
    (inFlight (.lock 14)).store.op = .lock 14 ∧ (inFlight (.unlock 14)).store.op = .unlock 14 ∧ running.store.op = .none := by
  and_intros <;> first | decide | rfl | (constructor <;> decide)

/-- A slot's state after a command. -/
def slotState (n : Nat) (c : Instr) (s : State) : Option SlotState := ((after c s).store.slot? n).map Slot.state

/-- R160 to R163: the tables of the completions. -/
theorem test_completions : slotState 1 (.writeComplete (.quiet 0) .matched) committing = some .stored ∧
    slotState 14 (.eraseComplete (.quiet 0) true) (inFlight (.erase 14)) = some .free ∧
    slotState 14 (.eraseComplete (.quiet 0) false) (inFlight (.erase 14)) = some .damaged ∧
    slotState 14 (.lockComplete (.quiet 0) .unclear) (inFlight (.lock 14)) = some .locked ∧
    slotState 14 (.lockComplete (.quiet 0) .unlocked) (inFlight (.lock 14)) = some .stored ∧
    slotState 14 (.unlockComplete (.quiet 0) .unlocked) (inFlight (.unlock 14)) = some .stored ∧
    slotState 14 (.unlockComplete (.quiet 0) .unclear) (inFlight (.unlock 14)) = some .locked := by decide +kernel

/-- R157, R160: a read-back that differs is VERIFY_FAILED with store error. -/
theorem test_verify_failed : (after (.writeComplete (.quiet 0) (.mismatched [1])) committing).store.lastResult = some ⟨.write, 1, false⟩ ∧
    ((after (.writeComplete (.quiet 0) (.mismatched [1])) committing).store.slot? 1).map
      (fun x => x.header.map fun h => h.flags.storeError) = some (some true) := by decide +kernel

/-! ### Service Port -/

/-- RUN with section 9.7's store, a command being received. -/
def served (s : State) : State := s.setPort { ServicePort.reset with framer := .receiving }

/-- The response to a command. -/
def answer (c : Instr) (s : State) : Option (List Byte) := (after c s).port.response.map Response.bytes

/-- The bits of bytes in the order in which they pass, most significant bit first (R168). -/
def bitsOf (bs : List Byte) : List Bool := bs.flatMap fun b => [7, 6, 5, 4, 3, 2, 1, 0].map fun i => b.getLsbD i

/-- The first two bytes of a LOCK_SLOT of slot 14 and seven bits of the third, clocked in while 5 µs pass. -/
def mostOfTheHeader : Passage := ⟨5, (bitsOf [0x09, 0, 1]).take 23, none, []⟩

/-- A response of two bytes, the second still to be clocked. -/
def answering : State := running.setPort ⟨.answering, [1, 0, 0], 0, 0, some ⟨[0x00, 0x81], 1⟩, true⟩

theorem witness_PassageMovesClockLineAndPort :
    (running.line.onAir = none ∧ (onAir 2 1 (.sending 10000000)).line.onAir =
        some ⟨.notice ⟨7, .power, .severe⟩, 3, .sending 10000000⟩ ∧
      elapsed 10000000 ((onAir 2 1 (.sending 10000000)).advance (.quiet 39)).micros / 4 = 9 ∧
      ((frameLevels (frameBytes 2 3 (.notice ⟨7, .power, .severe⟩))).drop 7).take 3 = [false, true, true]) ∧
    (served running).port = ⟨.receiving, [], 0, 0, none, true⟩ ∧
    [true, false, true, false, false, true, true] ++ [true] = [(0xA7 : Byte).getLsbD 7, (0xA7 : Byte).getLsbD 6,
      (0xA7 : Byte).getLsbD 5, (0xA7 : Byte).getLsbD 4, (0xA7 : Byte).getLsbD 3, (0xA7 : Byte).getLsbD 2, (0xA7 : Byte).getLsbD 1,
      (0xA7 : Byte).getLsbD 0] ∧
    (answering.port.framer = .answering ∧ answering.port.response = some ⟨[0x00, 0x81], 1⟩ ∧ answering.port.bitCount = 0) ∧
    (served running).hears mostOfTheHeader 0x09 [14] ∧ ¬ (served running).hears mostOfTheHeader 0x0B [14] :=
  ⟨by decide, by decide, by decide, by decide, ⟨by decide, by decide⟩, fun h => absurd h.begun (by decide)⟩

/-- R168: the bits of a command come in most significant bit first; one that is not the command's own is not taken. A response goes
out the same way, and then ones. -/
theorem test_bits : ((served running).advance mostOfTheHeader).port = ⟨.receiving, [0x09, 0], 7, 0, none, true⟩ ∧
    (after (.lockSlot mostOfTheHeader [14]) (served (inFlight .none))).port =
      ⟨.answering, [0x09, 0, 1, 14], 0, 0, some ⟨[0], 0⟩, true⟩ ∧
    (after (.eraseSlot mostOfTheHeader [14]) (served (inFlight .none))).port.framer = .receiving ∧
    ([1, 2, 7, 8, 9].map fun n => (answering.advance ⟨5, List.replicate n false, none, []⟩).port.dataOut) = [true, false, false, true, true] ∧
    ((answering.advance ⟨5, List.replicate 8 false, none, []⟩).port.response.map Response.position) = some 2 := by decide +kernel

theorem witness_TransactionsBeginEndAndRefuse : Accepts (served running) ∧ (served running).hears (.quiet 0) 0x0D [] ∧
    ¬ running.hears (.quiet 0) 0x0D [] ∧ (0x0D : Byte).toNat = 13 ∧ (List.replicate 113 (0 : Byte)).length ≠ 112 ∧
    (served running).hears (.quiet 0) 0x03 (List.replicate 113 0) :=
  ⟨⟨by decide, by decide⟩, ⟨by decide, by decide⟩, fun h => absurd h.receiving (by decide), by decide, by decide,
    ⟨by decide, by decide⟩⟩

/-- R168 to R171. -/
theorem test_transactions : (after (.selectAsserted (.quiet 0)) running).port.framer = .receiving ∧
    (after (.selectReleased (.quiet 0)) (served running)).port.framer = .idle ∧
    answer (.unknownCommand (.quiet 0) 0 [1, 2]) (served running) = some [2] ∧ answer (.unknownCommand (.quiet 0) 13 []) (served running) = some [2] ∧
    answer (.getStatus (.quiet 0) [0]) (served running) = some [3] ∧ answer (.getStatus (.quiet 0) []) running = none := by decide

/-- SAFE with a POWER incident being written. -/
def powerHeld : State :=
  (safed testRecord false none).setRecorder { running.recorder with capture := .committing, image := some (image 1 true false) }

theorem witness_ReadsAnswerFromTheMoment : Accepts (served running) ∧ (served running).hears (.quiet 0) 0x01 [] ∧
    (served running).hears (.quiet 0) 0x02 [] ∧ (served running).hears (.quiet 0) 0x05 [] ∧
    (served running).hears (.quiet 0) 0x08 [0, 15] ∧ (served (inFlight .none)).hears (.quiet 0) 0x06 [16, 95, 15] ∧
    (powerHeld.control.mode = .safe ∧ powerHeld.recorder.capture = .committing ∧ (image 1 true false).flags.power = true) ∧
    (inFlight .none).store.slot? 0 = none ∧ (inFlight .none).store.slot? 17 = none ∧
    (inFlight .none).store.slot? 16 = some (held? .stored 304 (some .unlocked)) ∧
    (held? .stored 304 (some .unlocked)).header = some (header 304) := by
  and_intros <;> first | decide | rfl | (constructor <;> decide)

/-- R172, R196: GET_STATUS of a device in RUN. -/
theorem test_get_status : answer (.getStatus (.quiet 0) []) (served running) =
    some [0, 2, 1, 6, 0, 0, 0, 0, 0, 0, 0, 0, 0, 0, 0, 0, 1, 0, 0] := by decide +kernel
theorem test_get_roster : ((answer (.getRoster (.quiet 0) []) (served running)).map List.length, answer (.getDirectory (.quiet 0) []) (served powerHeld)) =
    (some (1 + 8 * 38), some [1]) := by decide +kernel

/-- R176, R178, R179 at their limits: slots 0 and 17, first index 95 of 96 and 96, additional count 15 and 16, a FREE slot. -/
theorem test_reads : answer (.readIncident (.quiet 0) [0, 0, 0]) (served (inFlight .none)) = some [4] ∧
    answer (.readIncident (.quiet 0) [17, 0, 0]) (served (inFlight .none)) = some [4] ∧
    (answer (.readIncident (.quiet 0) [16, 95, 15]) (served (inFlight .none))).map (fun r => (r.drop 24).take 2) = some [95, 1] ∧
    answer (.readIncident (.quiet 0) [16, 96, 0]) (served (inFlight .none)) = some [4] ∧
    answer (.readIncident (.quiet 0) [16, 0, 16]) (served (inFlight .none)) = some [4] ∧
    answer (.readIncident (.quiet 0) [1, 0, 0]) (served running) = some [5] ∧
    answer (.readEvents (.quiet 0) [16, 17, 0]) (served (inFlight .none)) = some [4] ∧
    answer (.readHistory (.quiet 0) [0, 0]) (served running) = some [4] := by decide +kernel

theorem witness_SlotRequestsAndMarksAreTestedInOrder : Accepts (served (inFlight .none)) ∧
    (served (inFlight .none)).hears (.quiet 0) 0x09 [14] ∧ (served (inFlight .none)).hears (.quiet 0) 0x0A [1] ∧
    (served (inFlight .none)).hears (.quiet 0) 0x0B [14] ∧ (served running).hears (.quiet 0) 0x0C [1] ∧
    (inFlight .none).store.op = .none ∧
    (inFlight .none).store.slot? 14 = some (held? .stored 288 (some .unlocked)) ∧
    (inFlight .none).store.slot? 1 = some (held? .locked 100 (some .locked)) ∧ (inFlight .none).store.lockedCount = 11 ∧
    (inFlight .none).control.mode.working = true ∧ inConfig.control.mode.working = false := by
  and_intros <;> first | decide | rfl | (constructor <;> decide)

/-- Section 9.7's refusals and acceptances: BUSY, PROTECTED, MAINTENANCE, STATE, RANGE, OK. -/
theorem test_slot_requests : answer (.lockSlot (.quiet 0) [13]) (served (inFlight (.write 14 true false))) = some [1] ∧
    answer (.eraseSlot (.quiet 0) [1]) (served (inFlight .none)) = some [6] ∧ answer (.unlockSlot (.quiet 0) [1] false) (served (inFlight .none)) = some [7] ∧
    answer (.unlockSlot (.quiet 0) [1] true) (served (inFlight .none)) = some [0] ∧
    answer (.unlockSlot (.quiet 0) [14] true) (served (inFlight .none)) = some [5] ∧
    answer (.lockSlot (.quiet 0) [17]) (served (inFlight .none)) = some [4] ∧ answer (.lockSlot (.quiet 0) [14]) (served (inFlight .none)) = some [0] ∧
    answer (.eraseSlot (.quiet 0) [14]) (served (inFlight .none)) = some [0] := by decide +kernel

/-- Section 9.7 at 5200: with 12 slots LOCKED, LOCK is refused with LIMIT. -/
theorem test_lock_limit : answer (.lockSlot (.quiet 0) [14])
    (served (running.setStore (fullStore (held? .locked 304 (some .locked))))) = some [8] := by decide +kernel

/-- R181. -/
theorem test_mark : answer (.mark (.quiet 0) [2]) (served running) = some [4] ∧ answer (.mark (.quiet 0) [1]) inConfig = some [5] ∧
    answer (.mark (.quiet 0) [1]) (served running) = some [0, 1, 0] := by decide +kernel

end Sys2Proof.Tests
end

section
/-!
PROOFS. What passes before a command (O2): the bits and bytes of the service port, what a port has received and what it drives,
and the line idle time.
-/

namespace Sys2Proof.Machine

open Sys2Proof

/-! ### The bits of bytes -/

@[simp] theorem byteBits_length (b : Byte) : (byteBits b).length = 8 := rfl

theorem byteBits_injective : Function.Injective byteBits := by
  intro x y h
  simp only [byteBits, List.map_cons, List.map_nil, List.cons.injEq, and_true] at h
  obtain ⟨h7, h6, h5, h4, h3, h2, h1, h0⟩ := h
  refine BitVec.eq_of_getLsbD_eq fun i hi => ?_
  interval_cases i <;> assumption

@[simp] theorem byteBits_zero : byteBits 0 = List.replicate 8 false := by decide

theorem byteBits_shiftIn (bit : Bool) (b : Byte) : byteBits (shiftIn bit b) = (byteBits b).tail ++ [bit] := by
  cases bit <;> simp [byteBits, shiftIn, flagByte]

theorem byteBits_ushiftRight (b : Byte) {k : Nat} (h : k ≤ 8) :
    byteBits (b >>> (8 - k)) = List.replicate (8 - k) false ++ (byteBits b).take k := by
  interval_cases k <;> simp [byteBits, List.replicate]

@[simp] theorem length_flatMap_byteBits (bytes : List Byte) : (bytes.flatMap byteBits).length = 8 * bytes.length := by
  induction bytes with
  | nil => rfl
  | cons b bs ih => simp [ih]; omega

/-- Bytes whose bits begin the bits of others begin those others. -/
theorem prefix_of_flatMap_byteBits_prefix {xs ys : List Byte} (h : xs.flatMap byteBits <+: ys.flatMap byteBits) : xs <+: ys := by
  induction xs generalizing ys with
  | nil => exact List.nil_prefix
  | cons x xs ih =>
    cases ys with
    | nil => simpa using h.length_le
    | cons y ys =>
      obtain ⟨rest, h⟩ := h
      simp only [List.flatMap_cons, List.append_assoc] at h
      obtain ⟨hxy, htail⟩ := List.append_inj h rfl
      rw [byteBits_injective hxy, List.prefix_cons_inj]
      exact ih ⟨rest, htail⟩

/-- Bits are whole bytes and fewer than eight more in one way only. -/
theorem flatMap_byteBits_append_inj {xs ys : List Byte} {a b : List Bool} (ha : a.length < 8) (hb : b.length < 8)
    (h : xs.flatMap byteBits ++ a = ys.flatMap byteBits ++ b) : xs = ys ∧ a = b := by
  have hl := congrArg List.length h
  simp only [List.length_append, length_flatMap_byteBits] at hl
  obtain ⟨hxy, hab⟩ := List.append_inj h (by simp; omega)
  exact ⟨(prefix_of_flatMap_byteBits_prefix ⟨[], by simpa using hxy⟩).eq_of_length (by omega), hab⟩

/-! ### What a port has received of a command -/

/-- A RECEIVING port holds these whole bytes of the present command, and these bits, fewer than eight, of its next byte (R168). -/
structure ServicePort.Holds (whole : List Byte) (part : List Bool) (p : ServicePort) : Prop where
  receiving : p.framer = .receiving
  buffer : p.buffer = whole
  bitCount : p.bitCount = part.length
  partial_lt : part.length < 8
  shift : byteBits p.shift = List.replicate (8 - part.length) false ++ part

/-- The port at a byte's start holds its buffer. -/
theorem holds_buffer {p : ServicePort} (hf : p.framer = .receiving) (hc : p.bitCount = 0) (hs : p.shift = 0) :
    p.Holds p.buffer [] := ⟨hf, rfl, hc, by simp, by rw [hs]; rfl⟩

/-- The shift register after one more bit. -/
theorem ServicePort.Holds.byteBits_shiftIn {whole : List Byte} {part : List Bool} {p : ServicePort} (h : p.Holds whole part)
    (bit : Bool) : byteBits (shiftIn bit p.shift) = List.replicate (7 - part.length) false ++ (part ++ [bit]) := by
  have hl := h.partial_lt
  rw [Machine.byteBits_shiftIn, h.shift, show 8 - part.length = (7 - part.length) + 1 by omega, List.replicate_succ]
  simp

/-- A clock before a byte's eighth brings a bit of it. -/
theorem ServicePort.Holds.clock_bit {whole : List Byte} {part : List Bool} {p : ServicePort} (h : p.Holds whole part)
    (hl : part.length < 7) (bit : Bool) : (p.clock bit).Holds whole (part ++ [bit]) := by
  have hs := h.byteBits_shiftIn bit
  obtain ⟨hf, hb, hc, -, -⟩ := h
  simp only [ServicePort.clock, hf, ServicePort.clockIn, hc, if_pos hl]
  exact ⟨rfl, hb, by simp, by simp; omega, by simpa using hs⟩

/-- The clock that is a byte's eighth brings the byte into the buffer, unless it completes a command. -/
theorem ServicePort.Holds.clock_byte {whole : List Byte} {part : List Bool} {p : ServicePort} (h : p.Holds whole part)
    {bit : Bool} {x : Byte} (hx : part ++ [bit] = byteBits x) (hn : commandComplete (whole ++ [x]) = false) :
    (p.clock bit).Holds (whole ++ [x]) [] := by
  have hl : part.length = 7 := by simpa using congrArg List.length hx
  have hs : shiftIn bit p.shift = x := byteBits_injective (by rw [h.byteBits_shiftIn, hl, ← hx]; rfl)
  obtain ⟨hf, hb, hc, -, -⟩ := h
  simp only [ServicePort.clock, hf, ServicePort.clockIn, hc, hl, lt_irrefl, if_false, hs, hb, hn, Bool.false_eq_true]
  exact ⟨rfl, rfl, rfl, by simp, byteBits_zero⟩

/-- Clocks that complete no command add their bits to what the port holds. -/
theorem ServicePort.Holds.clocked {whole : List Byte} {part bits : List Bool} {p : ServicePort} (h : p.Holds whole part)
    (hn : ∀ full : List Byte, whole.length < full.length →
      full.flatMap byteBits <+: whole.flatMap byteBits ++ (part ++ bits) →
        commandComplete full = false) :
    ∃ whole' part', whole'.flatMap byteBits ++ part' = whole.flatMap byteBits ++ (part ++ bits) ∧
      (p.clocked bits).Holds whole' part' := by
  induction bits generalizing whole part p with
  | nil => exact ⟨whole, part, by simp, h⟩
  | cons bit bits ih =>
    rw [clocked_cons]
    by_cases hl : part.length < 7
    · simpa using ih (h.clock_bit hl bit) (by simpa using hn)
    · have hx : part ++ [bit] = byteBits (shiftIn bit p.shift) := by
        have := h.partial_lt
        rw [h.byteBits_shiftIn, show 7 - part.length = 0 by omega]; rfl
      have happ : (whole ++ [shiftIn bit p.shift]).flatMap byteBits ++ ([] ++ bits) =
          whole.flatMap byteBits ++ (part ++ bit :: bits) := by
        simp [← hx]
      rw [← happ] at hn ⊢
      exact ih (h.clock_byte hx (hn _ (by simp) (by simp))) fun full hf => hn full (by simp at hf; omega)

/-- What a port has received begins bytes that go on after its whole ones when its bits begin the next byte's. -/
theorem ServicePort.Holds.begins_append {whole rest : List Byte} {x : Byte} {part : List Bool} {p : ServicePort}
    (h : p.Holds whole part) : p.begins (whole ++ x :: rest) = true ↔ part <+: byteBits x := by
  obtain ⟨-, hb, hc, hl, hs⟩ := h
  have hshift : x >>> (8 - part.length) = p.shift ↔ part <+: byteBits x := by
    rw [← byteBits_injective.eq_iff, byteBits_ushiftRight x (by omega), hs, List.append_cancel_left_eq, List.prefix_iff_eq_take,
      eq_comm]
  simp [ServicePort.begins, byteAt, hb, hc, hshift]

/-- What a port has received begins bytes when its bits begin theirs, and they are more than its whole bytes. -/
theorem ServicePort.Holds.begins_iff {whole bytes : List Byte} {part : List Bool} {p : ServicePort} (h : p.Holds whole part) :
    p.begins bytes = true ↔
      whole.flatMap byteBits ++ part <+: bytes.flatMap byteBits ∧ whole.length < bytes.length := by
  have goesOn : whole <+: bytes → whole.length < bytes.length → ∃ x rest, bytes = whole ++ x :: rest := by
    rintro ⟨rest, rfl⟩ hl
    cases rest with
    | nil => simp at hl
    | cons x rest => exact ⟨x, rest, rfl⟩
  have hpart : ∀ x rest, whole.flatMap byteBits ++ part <+: (whole ++ x :: rest).flatMap byteBits ↔ part <+: byteBits x := by
    intro x rest
    rw [List.flatMap_append, List.prefix_append_right_inj, List.flatMap_cons,
      List.isPrefix_append_of_length h.partial_lt.le]
  constructor
  · intro hbegins
    have hp : whole.length < bytes.length ∧ whole <+: bytes := by
      simp only [ServicePort.begins, h.buffer, Bool.and_eq_true, decide_eq_true_eq, beq_iff_eq] at hbegins
      obtain ⟨⟨hlt, htake⟩, -⟩ := hbegins
      exact ⟨hlt, List.prefix_iff_eq_take.2 htake.symm⟩
    obtain ⟨x, rest, rfl⟩ := goesOn hp.2 hp.1
    exact ⟨(hpart x rest).2 (h.begins_append.1 hbegins), hp.1⟩
  · rintro ⟨hbits, hlt⟩
    obtain ⟨x, rest, rfl⟩ := goesOn (prefix_of_flatMap_byteBits_prefix ((List.prefix_append _ _).trans hbits)) hlt
    exact h.begins_append.2 ((hpart x rest).1 hbits)

/-- Clocks of a RECEIVING port leave what it drives and would drive. -/
theorem clocked_receiving_output {p : ServicePort} (h : p.framer = .receiving) (bits : List Bool) :
    (p.clocked bits).response = p.response ∧ (p.clocked bits).dataOut = p.dataOut := by
  induction bits generalizing p with
  | nil => exact ⟨rfl, rfl⟩
  | cons bit bits ih =>
    have hbit : (p.clock bit).response = p.response ∧ (p.clock bit).dataOut = p.dataOut := by
      simp only [ServicePort.clock, h, ServicePort.clockIn]
      repeat' split
      all_goals exact ⟨rfl, rfl⟩
    rw [clocked_cons, ← hbit.1, ← hbit.2]
    exact ih (by simpa using h)

/-! ### A byte at the port -/

theorem commandComplete_eq_false {buffer : List Byte} :
    commandComplete buffer = false ↔ ¬ (3 ≤ buffer.length ∧ buffer.length = 3 + natAt2 buffer 1) := by
  simp [commandComplete]

/-- The first bits of a byte at a RECEIVING port are counted, and the buffer stays (R168). -/
theorem clocked_partial {p : ServicePort} {b : List Bool} (hf : p.framer = .receiving) (hc : p.bitCount = 0) (hs : p.shift = 0)
    (hb : b.length < 8) : (p.clocked b).Holds p.buffer b := by
  obtain ⟨whole, part, happ, h⟩ := (holds_buffer hf hc hs).clocked (bits := b) fun full hl hp => by
    have := hp.length_le
    simp at this
    omega
  obtain ⟨rfl, rfl⟩ := flatMap_byteBits_append_inj h.partial_lt hb happ
  exact h

/-- The eight bits of a byte bring it to the buffer of a RECEIVING port, unless it completes a command (R168). -/
theorem clocked_byteBits {p : ServicePort} {x : Byte} (hf : p.framer = .receiving) (hc : p.bitCount = 0) (hs : p.shift = 0)
    (hn : commandComplete (p.buffer ++ [x]) = false) :
    p.clocked (byteBits x) = { p with buffer := p.buffer ++ [x] } := by
  have h : (p.clocked (byteBits x)).Holds (p.buffer ++ [x]) [] := by
    have hsplit : byteBits x = (byteBits x).take 7 ++ [x.getLsbD 0] := rfl
    rw [hsplit, clocked_append]
    exact (clocked_partial hf hc hs (by simp)).clock_byte hsplit.symm hn
  have hout := clocked_receiving_output hf (byteBits x)
  have hshift : (p.clocked (byteBits x)).shift = p.shift := byteBits_injective (by rw [h.shift, hs]; rfl)
  have hcount := h.bitCount.trans hc.symm
  generalize p.clocked (byteBits x) = q at *
  obtain ⟨hq, hbuf, -, -, -⟩ := h
  obtain ⟨framer, buffer, bitCount, shift, response, dataOut⟩ := q
  simp_all

/-! ### The command that is heard -/

@[simp] theorem natBytes2_length (n : Nat) : (natBytes2 n).length = 2 := rfl

/-- Two bytes of a number below 65536 read as the number. -/
theorem natAt2_natBytes2 (code : Byte) {n : Nat} (h : n < 65536) (rest : List Byte) :
    natAt2 (code :: natBytes2 n ++ rest) 1 = n := by
  have : wordAt (code :: natBytes2 n ++ rest) 1 = BitVec.ofNat 16 n := by
    simp only [wordAt, byteAt, natBytes2, wordBytes, List.cons_append, List.nil_append, List.getD_cons_succ, List.getD_cons_zero]
    exact BitVec.extractLsb'_append_extractLsb'_eq_extractLsb' (by omega) |>.trans (by simp)
  rw [natAt2, this, BitVec.toNat_ofNat, Nat.mod_eq_of_lt h]

theorem commandBytes_length (code : Byte) (params : List Byte) : (commandBytes code params).length = 3 + params.length := by
  simp [commandBytes]; omega

/-- The beginning of a command is no whole command (R168). -/
theorem commandComplete_prefix {code : Byte} {params full : List Byte} (hp : params.length < 65536)
    (h : full <+: commandBytes code params) (hl : full.length < 3 + params.length) :
    commandComplete full = false := by
  rw [commandComplete_eq_false]
  rintro ⟨h3, heq⟩
  have htake := List.prefix_iff_eq_take.1 h
  obtain ⟨k, hk⟩ := Nat.exists_eq_add_of_le h3
  rw [hk, Nat.add_comm] at htake
  have : full = code :: natBytes2 params.length ++ params.take k := htake
  rw [this, natAt2_natBytes2 code hp, ← this] at heq
  omega

/-- A port that begins to receive has heard, after clocks that complete no command, the beginning of the bytes whose bits begin
with theirs. -/
theorem begins_clocked {p : ServicePort} {bits : List Bool} {bytes : List Byte}
    (hf : p.framer = .receiving) (hb : p.buffer = []) (hc : p.bitCount = 0) (hs : p.shift = 0)
    (hn : ∀ full : List Byte, full.flatMap byteBits <+: bits → commandComplete full = false)
    (hl : bits.length < 8 * bytes.length) :
    (p.clocked bits).begins bytes = true ↔ bits <+: bytes.flatMap byteBits := by
  have start : p.Holds [] [] := hb ▸ holds_buffer hf hc hs
  obtain ⟨whole, part, happ, h⟩ := start.clocked (bits := bits) fun full _ hp => hn full (by simpa using hp)
  have happ : whole.flatMap byteBits ++ part = bits := by simpa using happ
  have hlen := congrArg List.length happ
  simp only [List.length_append, length_flatMap_byteBits] at hlen
  rw [h.begins_iff, happ, and_iff_left (by omega)]

/-- A port at the start of its transaction hears the command that the clocks of the passage begin (R168). -/
theorem hears_iff_prefix {dt : Passage} {s : State} {code : Byte} {params : List Byte}
    (hstart : s.port = ⟨.receiving, [], 0, 0, none, true⟩)
    (hn : ∀ full : List Byte, full.flatMap byteBits <+: dt.clocks → commandComplete full = false)
    (hl : dt.clocks.length < 8 * (3 + params.length)) :
    s.hears dt code params ↔ dt.clocks <+: (commandBytes code params).flatMap byteBits := by
  have hbegins := begins_clocked (p := s.port) (bytes := commandBytes code params) (by rw [hstart]) (by rw [hstart])
    (by rw [hstart]) (by rw [hstart]) hn (by rwa [commandBytes_length])
  have hport : (s.advance dt).port = s.port.clocked dt.clocks := by simp
  rw [← hbegins, ← hport]
  exact ⟨fun h => h.begun, fun h => ⟨by rw [hstart], h⟩⟩

/-- Fewer bits than a header's begin no whole command. -/
theorem commandComplete_short {full : List Byte} {bits : List Bool} (h : full.flatMap byteBits <+: bits)
    (hl : bits.length < 24) : commandComplete full = false := by
  have := h.length_le
  rw [length_flatMap_byteBits] at this
  rw [commandComplete_eq_false]
  omega

/-! ### What a port drives -/

/-- Clocks within a byte drive its bits, most significant bit first (R168). -/
theorem clocked_answering_bits {p : ServicePort} {r : Response} (hf : p.framer = .answering) (hr : p.response = some r)
    (hc : p.bitCount = 0) {b : List Bool} (hb : b ≠ []) (hl : b.length < 8) :
    p.clocked b =
      { p with bitCount := b.length, dataOut := (r.byteAt r.position).getLsbD (8 - b.length) } := by
  induction b using List.reverseRecOn with
  | nil => exact absurd rfl hb
  | append_singleton b bit ih =>
    have hlt : b.length < 7 := by simp at hl; omega
    by_cases hnil : b = []
    · subst hnil
      simp [clocked_cons, ServicePort.clock, ServicePort.clockOut, hf, hr, hc]
    · rw [clocked_append, ih hnil (by omega)]
      simp [clocked_cons, ServicePort.clock, ServicePort.clockOut, hf, hr, hlt]

/-- Eight clocks drive a byte and move the read position behind it (R168). -/
theorem clocked_answering_byte {p : ServicePort} {r : Response} (hf : p.framer = .answering) (hr : p.response = some r)
    (hc : p.bitCount = 0) {b : List Bool} (hl : b.length = 8) :
    p.clocked b = { p with response := some r.next, dataOut := (r.byteAt r.position).getLsbD 0 } := by
  obtain rfl | ⟨init, bit, rfl⟩ := List.eq_nil_or_concat b
  · simp at hl
  have hi : init.length = 7 := by simpa using hl
  rw [List.concat_eq_append, clocked_append, clocked_answering_bits hf hr hc (by rintro rfl; simp at hi) (by omega)]
  simp [clocked_cons, ServicePort.clock, ServicePort.clockOut, hf, hr, hi, hc]

/-! ### The line idle time -/

/-- A transmitter that neither sends nor jams drives nothing. -/
theorem drive_eq_none {own : Nat} {l : LineController}
    (h : ∀ f since, l.onAir = some f → f.phase ≠ .sending since ∧ f.phase ≠ .jamming since) : l.drive own = none := by
  unfold LineController.drive
  split
  · exact absurd rfl (h _ _ ‹_›).1
  · exact absurd rfl (h _ _ ‹_›).2
  · rfl

/-- A transmitter that sends drives its frame from the beginning of the attempt on. -/
theorem drive_sending {own : Nat} {l : LineController} {f : OnAir} {since : Time} (h : l.onAir = some f)
    (hp : f.phase = .sending since) : l.drive own = some (since, frameLevels (frameBytes own f.seq f.content)) := by
  obtain ⟨content, seq, phase⟩ := f
  subst hp
  simp [LineController.drive, h]

/-- A transmitter that jams drives 16 dominant bits. -/
theorem drive_jamming {own : Nat} {l : LineController} {f : OnAir} {since : Time} (h : l.onAir = some f)
    (hp : f.phase = .jamming since) : l.drive own = some (since, jamLevels) := by
  obtain ⟨content, seq, phase⟩ := f
  subst hp
  simp [LineController.drive, h]

/-- What the line alone gives as the idle time: it runs through a recessive passage, and counts from the last dominant bit seen. -/
def LineController.IdleHeard (l : LineController) (dt : Passage) (heard : Nat) : Prop :=
  (dt.dominant = none ∧ heard = l.idleMicros + dt.micros) ∨ ∃ k, dt.dominant = some k ∧ k ≤ dt.micros ∧ heard = k

/-- The idle time of an undriven line. -/
theorem idleAfter_undriven {own : Nat} {now : Time} {dt : Passage} {l : LineController} {heard : Nat}
    (hh : l.IdleHeard dt heard) (hd : l.drive own = none) : l.idleAfter own now dt = heard := by
  obtain ⟨hn, rfl⟩ | ⟨k, hk, hle, rfl⟩ := hh
  · exact idleAfter_quiet hd hn
  · simp [LineController.idleAfter, hd, hk, hle]

/-- The idle time of a line that the own transmitter drives, when `bit` is the last dominant level that has begun (R97). -/
theorem idleAfter_driven {own : Nat} {now since : Time} {dt : Passage} {l : LineController} {heard bit : Nat}
    {levels : List Bool} (hh : l.IdleHeard dt heard) (hd : l.drive own = some (since, levels)) (hb : levels[bit]? = some false)
    (hs : bit ≤ elapsed since now / 4)
    (later : ∀ k, bit < k → k ≤ elapsed since now / 4 → levels[k]? ≠ some false) :
    l.idleAfter own now dt = min heard (elapsed since now - 4 * (bit + 1)) := by
  rw [← sinceDominant_last hb hs later]
  obtain ⟨hn, rfl⟩ | ⟨k, hk, hle, rfl⟩ := hh
  · simp [LineController.idleAfter, hd, hn]
  · simp [LineController.idleAfter, hd, hk, hle]

/-! ### The passage -/

/-- A passage moves the clock, the port and the line's idle time and framer, and nothing else. -/
theorem advance_eq (dt : Passage) (s : State) :
    s.advance dt = ((s.setClock (s.advance dt).clock).setPort (s.advance dt).port).setLine { s.line with
      idleMicros := (s.advance dt).line.idleMicros, framer := (s.advance dt).line.framer
      buffer := (s.advance dt).line.buffer, echo := (s.advance dt).line.echo } := by
  have hline := framed_frame s.control.mode s.control.station (s.clock.advance dt.micros).us dt.traffic s.line
  unfold SameButFramer at hline
  apply State.ext_blocks
  case line =>
    rw [State.setLine_line, advance_line_eq, hline]
  all_goals simp

/-- Settles O2: each clause is a lemma above about the counters, the line idle time or the port's clocks. -/
theorem passageMovesClockLineAndPort : Obligations.PassageMovesClockLineAndPort := by
  unfold Obligations.PassageMovesClockLineAndPort
  rintro dt s t rfl
  have hport : (s.advance dt).port = s.port.clocked dt.clocks := by simp
  refine ⟨advance_eq dt s, rfl, rfl, rfl, ?idle, ?still, ?receiving, ?answering, ?heard⟩
  case idle =>
    intro heard hheard
    refine ⟨fun hquiet => idleAfter_undriven hheard (drive_eq_none hquiet), ?_⟩
    rintro f since levels bit hf (⟨hphase, rfl⟩ | ⟨hphase, rfl⟩) hbit hbegun hlater
    · exact idleAfter_driven hheard (drive_sending hf hphase) hbit hbegun hlater
    · exact idleAfter_driven hheard (drive_jamming hf hphase) hbit hbegun hlater
  case still =>
    rintro (hf | hclocks)
    · rw [hport, clocked_idle hf]
    · rw [hport, hclocks, clocked_nil]
  case receiving =>
    intro b bits x hf hc hs hx hclocks
    rw [hport, hclocks]
    constructor
    · intro hbits
      have hlen := congrArg List.length hx
      have := List.length_pos_of_ne_nil hbits
      have h := clocked_partial hf hc hs (b := b) (by simp at hlen; omega)
      exact ⟨h.bitCount, h.buffer, h.receiving⟩
    · rintro rfl hn
      rw [show b = byteBits x from (List.append_nil b).symm.trans hx]
      exact clocked_byteBits hf hc hs (commandComplete_eq_false.2 (by simpa using hn))
  case answering =>
    intro r hf hr hc x hx
    have hbyte : r.byteAt r.position = x := by
      rw [hx, Response.byteAt, List.getD_eq_getElem?_getD]
      split <;> simp [*]
    subst hbyte
    rw [hport]
    constructor
    · rintro b hl rfl hb
      exact clocked_answering_bits hf hr hc hb hl
    · exact clocked_answering_byte hf hr hc
  case heard =>
    intro code params bits hp hstart hbits
    have hbits : bits = (commandBytes code params).flatMap byteBits := hbits
    have hlen : bits.length = 8 * (3 + params.length) := by
      rw [hbits, length_flatMap_byteBits, commandBytes_length]
    constructor
    · intro k hk hclocks
      have hshort : dt.clocks.length < 8 * (3 + params.length) := by simp [hclocks]; omega
      have hpre : dt.clocks <+: (commandBytes code params).flatMap byteBits := by
        rw [hclocks, hbits]; exact List.take_prefix _ _
      refine (hears_iff_prefix hstart (fun full hfull => ?_) hshort).2 hpre
      have hfl := hfull.length_le
      rw [length_flatMap_byteBits] at hfl
      exact commandComplete_prefix hp (prefix_of_flatMap_byteBits_prefix (hfull.trans hpre)) (by omega)
    · intro hshort hne hhears
      refine hne (List.prefix_iff_eq_take.1 (hbits ▸ (hears_iff_prefix hstart (fun full hfull => ?_) (by omega)).1 hhears))
      exact commandComplete_short hfull hshort

end Sys2Proof.Machine
end

section
/-!
PROOFS. The Demand Unit's sample (R4 to R19), part by part: the inputs and the controlling status, the fresh sources, the
effective demand, the episodes, the emergency state and the DEMAND event. Each part is one equation about the Demand Unit; what it
raises and logs stands in the next section.
-/

namespace Sys2Proof.Machine

open Sys2Proof

/-- Local time is the clock's alone. -/
theorem now_congr {s t : State} (h : t.clock = s.clock) : t.now = s.now := by simp only [State.now, h]

/-! ### Steps 1 and 2: inputs, controlling status, immediate DEMAND -/

/-- Steps 1 and 2 of a demand sample (R5 to R8). -/
def State.sampled (raw : BitVec 10) (cab he tl : Bool) (s : State) : State :=
  immediateDemand (settleControlling (demandRead raw cab he tl s))

/-- A sample that is due collects its sources after steps 1 and 2 and then takes steps 3 to 5 (R4). -/
theorem demandSampleEffect_due {s : State} (due : timerDue s.demand.sampleTimer 10 s.now = true) (raw : BitVec 10)
    (cab he tl : Bool) : demandSampleEffect raw cab he tl s =
      demandFromSources (s.sampled raw cab he tl).freshSources (s.sampled raw cab he tl) := by
  rw [demandSampleEffect, if_pos due]; rfl

/-- Whether the device controls after a sample that reads the cab-active line so (R6). -/
def State.controls (cab : Bool) (s : State) : Bool := decide (s.control.mode = .run) && cab

/-- The demand frame timer runs from the sample at which controlling begins, and stops when it ends (R6, R9). -/
def DemandUnit.frameTimerAfter (controls : Bool) (now : Time) (u : DemandUnit) : Timer :=
  if controls then (if u.controlling then u.frameTimer else some now)
  else if u.controlling then none else u.frameTimer

/-- The last enqueued demand is forgotten when controlling ends (R6). -/
def DemandUnit.enqueuedAfter (controls : Bool) (u : DemandUnit) : Option DemandContent :=
  if !controls && u.controlling then none else u.lastEnqueued

theorem settleControlling_demand (s : State) :
    (settleControlling s).demand = { s.demand with
      controlling := s.controls s.pins.cabActive
      frameTimer := s.demand.frameTimerAfter (s.controls s.pins.cabActive) s.now
      lastEnqueued := s.demand.enqueuedAfter (s.controls s.pins.cabActive) } := by
  have hc : s.controls s.pins.cabActive = decide (s.control.mode = .run ∧ s.pins.cabActive = true) := by
    simp [State.controls]
  rw [hc, settleControlling, DemandUnit.frameTimerAfter, DemandUnit.enqueuedAfter]
  by_cases hr : s.control.mode = .run ∧ s.pins.cabActive = true <;> cases hu : s.demand.controlling <;>
    simp [hr, DemandUnit.endControlling] <;> rw [← hu]

theorem immediateDemand_demand (s : State) :
    (immediateDemand s).demand = { s.demand with
      lastEnqueued := if s.demand.immediateDue then some s.demand.content else s.demand.lastEnqueued } := by
  unfold immediateDemand originateDemand; split <;> simp

/-- The immediate DEMAND frame stands in the queue in place of one that waits (R8, R104). -/
theorem immediateDemand_line {s : State} (hr : s.demand.controlling = true → s.control.mode = .run) :
    (immediateDemand s).line = s.line.withQueue { s.line.queue with
      demand := if s.demand.immediateDue then some s.demand.content else s.line.queue.demand } := by
  unfold immediateDemand; split
  · have hc : s.demand.controlling = true := by simp_all [DemandUnit.immediateDue]
    simp [originateDemand, enqueueDemand, hr hc]
  · rfl

/-- The samples, the timer and the controlling status after steps 1 and 2, before the immediate DEMAND frame. -/
def DemandUnit.read (raw : BitVec 10) (controls he tl : Bool) (now : Time) (u : DemandUnit) : DemandUnit :=
  { u with
    handle := handleDemand raw
    handleEmergency := he
    lineEmergency := tl
    sampleTimer := timerNext u.sampleTimer 10
    controlling := controls
    frameTimer := u.frameTimerAfter controls now
    lastEnqueued := u.enqueuedAfter controls }

theorem settleControlling_demandRead (raw : BitVec 10) (cab he tl : Bool) (s : State) :
    (settleControlling (demandRead raw cab he tl s)).demand = s.demand.read raw (s.controls cab) he tl s.now := by
  rw [settleControlling_demand]; rfl

theorem sampled_demand (raw : BitVec 10) (cab he tl : Bool) (s : State) :
    (s.sampled raw cab he tl).demand =
      let u := s.demand.read raw (s.controls cab) he tl s.now
      { u with lastEnqueued := if u.immediateDue then some u.content else u.lastEnqueued } := by
  rw [State.sampled, immediateDemand_demand, settleControlling_demandRead]

theorem sampled_line (raw : BitVec 10) (cab he tl : Bool) (s : State) :
    (s.sampled raw cab he tl).line =
      let u := s.demand.read raw (s.controls cab) he tl s.now
      s.line.withQueue { s.line.queue with
        demand := if u.immediateDue then some u.content else s.line.queue.demand } := by
  rw [State.sampled, immediateDemand_line, settleControlling_demandRead]
  · simp
  · rw [settleControlling_demandRead]; simp [DemandUnit.read, State.controls]; tauto

theorem sampled_pins (raw : BitVec 10) (cab he tl : Bool) (s : State) :
    (s.sampled raw cab he tl).pins =
      { s.pins with handlePort := raw, cabActive := cab, handleEmergency := he, trainLine := tl } := by
  simp [State.sampled, demandRead]

@[simp] theorem sampled_frame (raw : BitVec 10) (cab he tl : Bool) (s : State) :
    (s.sampled raw cab he tl).pending = s.pending ∧ (s.sampled raw cab he tl).clock = s.clock ∧
    (s.sampled raw cab he tl).blend = s.blend ∧ (s.sampled raw cab he tl).speed = s.speed ∧
    (s.sampled raw cab he tl).slide = s.slide ∧ (s.sampled raw cab he tl).output = s.output ∧
    (s.sampled raw cab he tl).roster = s.roster ∧ (s.sampled raw cab he tl).recorder = s.recorder ∧
    (s.sampled raw cab he tl).store = s.store ∧ (s.sampled raw cab he tl).port = s.port ∧
    (s.sampled raw cab he tl).control = s.control := by
  simp [State.sampled]

/-- R8: a controlling device enqueues at once when nothing was enqueued yet, when the handle has moved 10 or more, or when its
emergency contact has changed. -/
theorem immediateDue_iff (u : DemandUnit) : u.immediateDue = true ↔ u.controlling = true ∧
    ∀ c, u.lastEnqueued = some c → 10 ≤ absDiff u.handle c.d ∨ u.handleEmergency ≠ c.emergency := by
  unfold DemandUnit.immediateDue
  cases h : u.lastEnqueued <;> simp

/-! ### The fresh sources -/

/-- What the entry of a station contributes to the fresh sources (R10). -/
def State.sourceAt (s : State) (p : Entry × Nat) : Option DemandSource :=
  if p.2 = s.control.station then
    if s.demand.controlling then some ⟨p.2, s.demand.handle, s.demand.handleEmergency⟩ else none
  else peerSource s.now p.2 p.1

theorem freshSources_eq (s : State) : s.freshSources = (s.roster.entries.zipIdx 1).filterMap s.sourceAt := rfl

theorem peerSource_eq_some {now : Time} {n : Nat} {e : Entry} {x : DemandSource} :
    peerSource now n e = some x ↔ ∃ l, e.latestDemand = some l ∧ elapsed l.arrival now ≤ 300 ∧
      x = ⟨n, min l.d.toNat 1000, l.emergency⟩ := by
  unfold peerSource
  cases e.latestDemand with
  | none => simp
  | some l => by_cases h : elapsed l.arrival now ≤ 300 <;> simp [h, eq_comm]

/-- A station in range has an entry. -/
theorem Roster.exists_entry {r : Roster} {n : Nat} (h1 : 1 ≤ n) (h2 : n ≤ r.entries.length) : ∃ e, r.entry? n = some e :=
  ⟨r.entries[n - 1], Roster.entry?_eq_some.2 ⟨h1, List.getElem?_eq_getElem (by omega)⟩⟩

/-- The own entry's source is the handle while controlling, another's its latest demand of the last 300 ms (R10). -/
theorem sourceAt_eq_some {s : State} {p : Entry × Nat} {x : DemandSource} : s.sourceAt p = some x ↔
    (p.2 = s.control.station ∧ s.demand.controlling = true ∧ x = ⟨p.2, s.demand.handle, s.demand.handleEmergency⟩) ∨
    (p.2 ≠ s.control.station ∧ ∃ l, p.1.latestDemand = some l ∧ elapsed l.arrival s.now ≤ 300 ∧
      x = ⟨p.2, min l.d.toNat 1000, l.emergency⟩) := by
  unfold State.sourceAt
  by_cases hn : p.2 = s.control.station
  · cases hc : s.demand.controlling <;> simp [hn, eq_comm]
  · simp [hn, peerSource_eq_some]

/-- An entry's source is of the entry's own station. -/
theorem sourceAt_station {s : State} {p : Entry × Nat} {x : DemandSource} (h : s.sourceAt p = some x) : x.station = p.2 := by
  rcases sourceAt_eq_some.1 h with ⟨-, -, rfl⟩ | ⟨-, _, -, -, rfl⟩ <;> rfl

theorem mem_freshSources {s : State} {x : DemandSource} :
    x ∈ s.freshSources ↔ ∃ e, s.roster.entry? x.station = some e ∧ s.sourceAt (e, x.station) = some x := by
  rw [freshSources_eq, List.mem_filterMap]
  constructor
  · rintro ⟨⟨e, n⟩, hm, hx⟩
    obtain rfl : x.station = n := sourceAt_station hx
    exact ⟨e, Roster.entry?_eq_some.2 (List.mk_mem_zipIdx_iff_le_and_getElem?_sub.1 hm), hx⟩
  · rintro ⟨e, he, hx⟩
    exact ⟨(e, x.station), List.mk_mem_zipIdx_iff_le_and_getElem?_sub.2 (Roster.entry?_eq_some.1 he), hx⟩

/-- The sources stand in rising station number (R10). -/
theorem freshSources_pairwise (s : State) : s.freshSources.Pairwise fun x y => x.station < y.station := by
  have hidx : (s.roster.entries.zipIdx 1).Pairwise fun p q => p.2 < q.2 := by
    rw [← List.pairwise_map, List.zipIdx_map_snd]
    exact List.pairwise_lt_range'
  rw [freshSources_eq, List.pairwise_filterMap]
  refine hidx.imp fun hlt x hx y hy => ?_
  rw [sourceAt_station hx, sourceAt_station hy]
  exact hlt

/-- The sources are read from the roster, the station number, the clock, and the own handle with its status. -/
theorem freshSources_congr {s t : State} (roster : t.roster = s.roster) (control : t.control = s.control) (now : t.now = s.now)
    (controlling : t.demand.controlling = s.demand.controlling) (handle : t.demand.handle = s.demand.handle)
    (contact : t.demand.handleEmergency = s.demand.handleEmergency) : t.freshSources = s.freshSources := by
  simp only [State.freshSources, roster, control, now, controlling, handle, contact]

/-- No source asks for more than 1000 (R5, R10). -/
theorem freshSources_value_le {s : State} (h : s.demand.handle ≤ 1000) {x : DemandSource} (hx : x ∈ s.freshSources) :
    x.value ≤ 1000 := by
  obtain ⟨e, -, hs⟩ := mem_freshSources.1 hx
  rcases sourceAt_eq_some.1 hs with ⟨-, -, hown⟩ | ⟨-, l, -, -, hpeer⟩
  · rw [hown]; exact h
  · rw [hpeer]; exact Nat.min_le_right _ _

/-! ### Step 3: the effective demand -/

/-- A running maximum is at least its start and every value, and is one of them. -/
theorem foldl_max_value (src : List DemandSource) (m : Nat) :
    m ≤ src.foldl (fun m x => max m x.value) m ∧ (∀ x ∈ src, x.value ≤ src.foldl (fun m x => max m x.value) m) ∧
    (src.foldl (fun m x => max m x.value) m = m ∨ ∃ x ∈ src, x.value = src.foldl (fun m x => max m x.value) m) := by
  induction src generalizing m with
  | nil => simp
  | cons y ys ih =>
    obtain ⟨hstart, hall, hmem⟩ := ih (max m y.value)
    rw [List.foldl_cons]
    refine ⟨by omega, ?_, ?_⟩
    · rintro x (_ | ⟨_, hx⟩)
      · omega
      · exact hall x hx
    · rcases hmem with h | ⟨x, hx, h⟩
      · rcases Nat.le_total m y.value with hle | hle
        · exact .inr ⟨y, by simp, by omega⟩
        · exact .inl (by omega)
      · exact .inr ⟨x, by simp [hx], h⟩

theorem le_maxDemand {src : List DemandSource} {x : DemandSource} (h : x ∈ src) : x.value ≤ maxDemand src :=
  (foldl_max_value src 0).2.1 x h

theorem exists_maxDemand {src : List DemandSource} (h : src ≠ []) : ∃ x ∈ src, x.value = maxDemand src := by
  rcases (foldl_max_value src 0).2.2 with hz | hx
  · obtain ⟨x, hx⟩ := List.exists_mem_of_ne_nil src h
    exact ⟨x, hx, Nat.le_antisymm (le_maxDemand hx) (by rw [maxDemand, hz]; omega)⟩
  · exact hx

/-- R11 without a source: NONE has no demand, FRESH becomes HELD at this moment, HELD goes on. -/
theorem formDemand_nil (now : Time) (u : DemandUnit) : u.formDemand [] now = { u with
    state := if u.state = .fresh then .held else u.state
    dEff := if u.state = .none then 0 else u.dEff
    heldSince := if u.state = .fresh then now else u.heldSince } := by
  unfold DemandUnit.formDemand
  cases u with | mk => simp only [List.isEmpty_nil, if_true]; split <;> simp_all

/-- R11 with sources: FRESH with the greatest of their values. -/
theorem formDemand_fresh {src : List DemandSource} (h : src ≠ []) (now : Time) (u : DemandUnit) :
    u.formDemand src now = { u with state := .fresh, dEff := maxDemand src } := by
  rw [DemandUnit.formDemand, if_neg (by simpa using h)]

/-- R11 moves the demand state, D_eff and the time of HELD alone. -/
theorem formDemand_fields (src : List DemandSource) (now : Time) (u : DemandUnit) :
    u.formDemand src now = { u with
      state := (u.formDemand src now).state
      dEff := (u.formDemand src now).dEff
      heldSince := (u.formDemand src now).heldSince } := by
  by_cases h : src = []
  · subst h; rw [formDemand_nil]
  · rw [formDemand_fresh h]

/-- What R11 leaves of the Demand Unit. -/
@[simp] theorem DemandUnit.formDemand_frame (src : List DemandSource) (now : Time) (u : DemandUnit) :
    (u.formDemand src now).handle = u.handle ∧ (u.formDemand src now).handleEmergency = u.handleEmergency ∧
    (u.formDemand src now).lineEmergency = u.lineEmergency ∧ (u.formDemand src now).controlling = u.controlling ∧
    (u.formDemand src now).lastEnqueued = u.lastEnqueued ∧ (u.formDemand src now).conflictOpen = u.conflictOpen ∧
    (u.formDemand src now).lossOpen = u.lossOpen ∧ (u.formDemand src now).lastLogged = u.lastLogged ∧
    (u.formDemand src now).emergency = u.emergency ∧ (u.formDemand src now).entryTime = u.entryTime ∧
    (u.formDemand src now).latch = u.latch ∧ (u.formDemand src now).sampleTimer = u.sampleTimer ∧
    (u.formDemand src now).frameTimer = u.frameTimer := by
  rw [formDemand_fields]; simp

@[simp] theorem formDemand_demand (src : List DemandSource) (s : State) :
    (formDemand src s).demand = s.demand.formDemand src s.now := rfl

@[simp] theorem conflictEpisode_demand (src : List DemandSource) (s : State) :
    (conflictEpisode src s).demand = { s.demand with conflictOpen := decide (2 ≤ src.length) } := by
  unfold conflictEpisode
  split <;> rename_i hl
  · split <;> rename_i ho
    · rw [decide_eq_true hl, ← ho]
    · simp [hl]
  · simp [hl]

/-- The loss episode after a sample: closed by FRESH, opened after 3000 ms of HELD (R13). -/
def DemandUnit.lossAfter (now : Time) (u : DemandUnit) : Bool :=
  decide (u.state ≠ .fresh) && (u.lossOpen || decide (u.state = .held ∧ 3000 ≤ elapsed u.heldSince now))

/-- Whether the loss episode opens (R13). -/
def DemandUnit.lossOpens (now : Time) (u : DemandUnit) : Bool :=
  decide (u.state = .held ∧ 3000 ≤ elapsed u.heldSince now) && !u.lossOpen

/-- The loss episode opens with DEMAND_LOST, closes, or stays as it is (R13). -/
theorem lossEpisode_eq (s : State) : lossEpisode s =
    if s.demand.lossOpens s.now then raise .demandLost (s.setDemand { s.demand with lossOpen := true })
    else s.setDemand { s.demand with lossOpen := s.demand.lossAfter s.now } := by
  have stays (h : s.demand.lossAfter s.now = s.demand.lossOpen) :
      s.setDemand { s.demand with lossOpen := s.demand.lossAfter s.now } = s := by rw [h]; rfl
  unfold lossEpisode
  cases hs : s.demand.state with
  | none => rw [stays (by simp [DemandUnit.lossAfter, hs])]; simp [DemandUnit.lossOpens, hs]
  | fresh => simp [DemandUnit.lossOpens, DemandUnit.lossAfter, hs]
  | held =>
    by_cases ho : 3000 ≤ elapsed s.demand.heldSince s.now ∧ s.demand.lossOpen = false
    · simp [DemandUnit.lossOpens, hs, ho]
    · have hopens : s.demand.lossOpens s.now = false := by simpa [DemandUnit.lossOpens, hs] using ho
      rw [stays (by simp only [DemandUnit.lossAfter, hs]; grind), if_neg ho, hopens, if_neg (by simp)]

@[simp] theorem lossEpisode_demand (s : State) :
    (lossEpisode s).demand = { s.demand with lossOpen := s.demand.lossAfter s.now } := by
  rw [lossEpisode_eq]; split
  · simp_all [DemandUnit.lossOpens, DemandUnit.lossAfter]
  · rfl

/-! ### Step 4: the emergency state -/

/-- The state once the latch has been evaluated (R17). -/
def State.latched (src : List DemandSource) (s : State) : State := s.setDemand { s.demand with latch := s.latchAfter src }

/-- Whether a sample enters EMERGENCY (R15). -/
def State.enters (src : List DemandSource) (s : State) : Bool := s.demand.emergency == .clear && s.emergencySource src

/-- Whether a sample leaves EMERGENCY (R18). -/
def State.leaves (src : List DemandSource) (s : State) : Bool :=
  s.demand.emergency == .emergency && (s.latched src).emergencyOver src

/-- Step 4 enters EMERGENCY, leaves it, or evaluates the latch alone (R15, R17, R18). -/
theorem emergencyStep_eq (src : List DemandSource) (s : State) : emergencyStep src s =
    if s.enters src then enterEmergency (s.latched src)
    else if s.leaves src then exitEmergency (s.latched src) else s.latched src := by
  have hsource : (s.latched src).emergencySource src = s.emergencySource src := rfl
  have hstate : (s.latched src).demand.emergency = s.demand.emergency := rfl
  rw [State.enters, State.leaves, ← hsource, ← hstate, emergencyStep, ← State.latched]
  cases h : (s.latched src).demand.emergency <;> simp

theorem enters_iff {src : List DemandSource} {s : State} : s.enters src = true ↔ s.demand.emergency = .clear ∧
    (s.demand.lineEmergency = true ∨ (s.demand.controlling = true ∧ s.demand.handleEmergency = true) ∨
      peerFlag s.control.station src = true) := by
  simp [State.enters, State.emergencySource, or_assoc]

@[simp] theorem enterEmergency_demand (s : State) :
    (enterEmergency s).demand = { s.demand with emergency := .emergency, entryTime := s.now } := by
  simp [enterEmergency]

@[simp] theorem exitEmergency_demand (s : State) :
    (exitEmergency s).demand = { s.demand with emergency := .clear } := by
  simp [exitEmergency]

@[simp] theorem emergencyStep_demand (src : List DemandSource) (s : State) :
    (emergencyStep src s).demand = { s.demand with
      latch := s.latchAfter src
      emergency := if s.enters src then .emergency else if s.leaves src then .clear else s.demand.emergency
      entryTime := if s.enters src then s.now else s.demand.entryTime } := by
  rw [emergencyStep_eq]
  split
  · simp [State.latched]
  · split <;> simp [State.latched]

/-! ### Step 5: the DEMAND event -/

@[simp] theorem logDemand_demand (src : List DemandSource) (s : State) :
    (logDemand src s).demand = { s.demand with
      lastLogged := if 50 ≤ absDiff s.demand.dEff s.demand.lastLogged then s.demand.dEff else s.demand.lastLogged } := by
  unfold logDemand; split <;> simp

/-! ### The whole sample -/

/-- The state after step 3: the effective demand and both episodes (R11 to R13). -/
def State.formed (src : List DemandSource) (s : State) : State :=
  lossEpisode (conflictEpisode src (formDemand src s))

theorem demandFromSources_eq (src : List DemandSource) (s : State) :
    demandFromSources src s = logDemand src (emergencyStep src (s.formed src)) := rfl

theorem formed_demand (src : List DemandSource) (s : State) :
    (s.formed src).demand = { s.demand.formDemand src s.now with
      conflictOpen := decide (2 ≤ src.length)
      lossOpen := (s.demand.formDemand src s.now).lossAfter s.now } := by
  have hnow : (conflictEpisode src (formDemand src s)).now = s.now := now_congr (by simp)
  rw [State.formed, lossEpisode_demand, hnow, conflictEpisode_demand]
  rfl

end Sys2Proof.Machine
end

section
/-!
PROOFS. What a demand sample logs and raises (R12 to R15, R18, R19): its events in their order, the occurrence times that it
sets, and the frame of both (`RaisedFrom`).
-/

namespace Sys2Proof.Machine

open Sys2Proof

/-! ### Logged events -/

/-- From `s` to `t` the events are logged, the first of them first (R134). -/
def Logged (es : List Event) (s t : State) : Prop :=
  t.recorder.events = es.foldl (fun ring e => pushRing 32 e ring) s.recorder.events

theorem Logged.nil {s t : State} (h : t.recorder = s.recorder) : Logged [] s t := by rw [Logged, h]; rfl

theorem Logged.trans {es fs : List Event} {s t u : State} (h : Logged es s t) (k : Logged fs t u) :
    Logged (es ++ fs) s u := by
  unfold Logged at h k ⊢
  rw [k, h, List.foldl_append]

theorem logged_logEvent (k : EventKind) (s : State) : Logged [⟨s.now, k⟩] s (logEvent k s) := by
  simp [Logged, logEvent, Recorder.log]

/-- As many new items as the ring has places stand in it all, behind what is left of the old ones. -/
theorem foldl_pushRing {α : Type} {n : Nat} {es : List α} (h : es.length ≤ n) (ring : List α) :
    ∃ old, es.foldl (fun ring e => pushRing n e ring) ring = old ++ es := by
  induction es using List.reverseRecOn with
  | nil => exact ⟨ring, by simp⟩
  | append_singleton es e ih =>
    simp only [List.length_append, List.length_singleton] at h
    obtain ⟨old, hold⟩ := ih (by omega)
    refine ⟨old.drop (old.length + es.length + 1 - n), ?_⟩
    rw [List.foldl_append, hold, List.foldl_cons, List.foldl_nil, pushRing_eq (by omega), List.drop_append, List.length_append,
      show old.length + es.length + 1 - n - old.length = 0 by omega]
    simp

/-- A logged event stands in the ring unless 32 others came after it. -/
theorem Logged.mem {es : List Event} {s t : State} (h : Logged es s t) (hl : es.length ≤ 32) {e : Event} (he : e ∈ es) :
    e ∈ t.recorder.events := by
  obtain ⟨old, hold⟩ := foldl_pushRing hl s.recorder.events
  rw [h, hold]; simp [he]

/-- At most `n` events, each of a firing that merged at the time given (R143, R147). -/
structure Merges (now : Time) (n : Nat) (es : List Event) : Prop where
  length : es.length ≤ n
  each : ∀ e ∈ es, ∃ c k, e = ⟨now, .secondaryTrigger c k⟩

theorem Merges.nil (now : Time) (n : Nat) : Merges now n [] := ⟨by simp, by simp⟩

theorem Merges.append {now : Time} {m n : Nat} {es fs : List Event} (h : Merges now m es) (k : Merges now n fs) :
    Merges now (m + n) (es ++ fs) where
  length := by have := h.length; have := k.length; simp; omega
  each := by simpa [or_imp, forall_and] using ⟨h.each, k.each⟩

/-- None of the events that merged firings log is of another kind. -/
theorem Merges.countP_eq_zero {now : Time} {n : Nat} {es : List Event} (h : Merges now n es) {k : EventKind}
    (hk : ∀ c l, k ≠ .secondaryTrigger c l) : es.countP (fun e => e.kind == k) = 0 := by
  rw [List.countP_eq_zero]
  intro e he
  obtain ⟨c, l, rfl⟩ := h.each e he
  simpa using (hk c l).symm

theorem offerNotice_events (s : State) : (offerNotice s).recorder.events = s.recorder.events := by
  obtain ⟨_, _, h, -⟩ := offerNotice_spec s; rw [h]

/-- A firing logs one event when it merges, and none when it opens an incident or becomes the pending trigger. -/
theorem fire_logged (f : Pending) (s : State) : ∃ es, Merges s.now 1 es ∧ Logged es s (fire f s) := by
  have one : Merges s.now 1 [⟨s.now, .secondaryTrigger f.cause f.cls⟩] := ⟨by simp, by simp⟩
  have merge : Logged [⟨s.now, .secondaryTrigger f.cause f.cls⟩] s (mergeIntoImage f s) := by
    rw [Logged, mergeIntoImage, offerNotice_events]; rfl
  unfold fire
  split
  · exact ⟨[], .nil _ _, by simp [Logged, openIncident, offerNotice_events]⟩
  · split
    · exact ⟨_, one, by simpa [Logged, endFillingOnPower] using merge⟩
    · exact ⟨_, one, merge⟩
  · unfold holdFiring
    split
    · exact ⟨[], .nil _ _, rfl⟩
    · exact ⟨_, one, rfl⟩

theorem raise_logged (c : Source) (s : State) : ∃ es, Merges s.now 1 es ∧ Logged es s (raise c s) := by
  unfold raise raiseWith
  simp only []
  split
  · exact fire_logged _ (s.setRecorder { s.recorder with
      lastOccurrence := s.recorder.lastOccurrence.set (c.codeNat - 1) (some s.now) })
  · exact ⟨[], .nil _ _, rfl⟩

theorem raise_setDemand_logged (c : Source) (s : State) (d : DemandUnit) :
    ∃ es, Merges s.now 1 es ∧ Logged es s (raise c (s.setDemand d)) := raise_logged c (s.setDemand d)

/-! ### The events of a sample -/

/-- The event of an entry to EMERGENCY or of an exit from it (R19). -/
def State.emergencyEvents (src : List DemandSource) (s : State) : List Event :=
  if s.enters src then [⟨s.now, .emergencyEnter⟩] else if s.leaves src then [⟨s.now, .emergencyExit⟩] else []

/-- The DEMAND event of a sample, when one is due (R14). -/
def State.demandEvents (src : List DemandSource) (s : State) : List Event :=
  if 50 ≤ absDiff s.demand.dEff s.demand.lastLogged then
    [⟨s.now, .demand s.demand.dEff (s.demand.emergency == .emergency) (s.demand.eventSource src)⟩]
  else []

theorem emergencyEvents_countP_enter (src : List DemandSource) (s : State) :
    (s.emergencyEvents src).countP (fun e => e.kind == .emergencyEnter) = if s.enters src then 1 else 0 := by
  unfold State.emergencyEvents; split
  · rfl
  · split <;> rfl

theorem emergencyEvents_countP_exit (src : List DemandSource) (s : State) :
    (s.emergencyEvents src).countP (fun e => e.kind == .emergencyExit) = if s.leaves src then 1 else 0 := by
  have hex : s.enters src = true → s.leaves src = false := by
    intro h; simp [State.leaves, (enters_iff.1 h).1]
  unfold State.emergencyEvents; split
  · rw [hex ‹_›]; rfl
  · split <;> rfl

theorem emergencyEvents_length (src : List DemandSource) (s : State) : (s.emergencyEvents src).length ≤ 1 := by
  unfold State.emergencyEvents; split
  · simp
  · split <;> simp

theorem mem_emergencyEvents {src : List DemandSource} {s : State} {e : Event} (h : e ∈ s.emergencyEvents src) :
    e.time = s.now ∧ (e.kind = .emergencyEnter ∨ e.kind = .emergencyExit) := by
  unfold State.emergencyEvents at h
  split at h
  · simp_all
  · split at h <;> simp_all

theorem mem_demandEvents {src : List DemandSource} {s : State} {e : Event} (h : e ∈ s.demandEvents src) :
    e.time = s.now ∧ ∃ d f n, e.kind = .demand d f n := by
  unfold State.demandEvents at h
  split at h <;> simp_all

theorem demandEvents_length (src : List DemandSource) (s : State) : (s.demandEvents src).length ≤ 1 := by
  unfold State.demandEvents; split <;> simp

theorem conflictEpisode_logged (src : List DemandSource) (s : State) :
    ∃ es, Merges s.now 1 es ∧ Logged es s (conflictEpisode src s) := by
  unfold conflictEpisode
  split
  · split
    · exact ⟨[], .nil _ _, .nil rfl⟩
    · exact raise_setDemand_logged _ s _
  · exact ⟨[], .nil _ _, .nil rfl⟩

theorem lossEpisode_logged (s : State) : ∃ es, Merges s.now 1 es ∧ Logged es s (lossEpisode s) := by
  rw [lossEpisode_eq]
  split
  · exact raise_setDemand_logged _ s _
  · exact ⟨[], .nil _ _, .nil rfl⟩

@[simp] theorem formed_now (src : List DemandSource) (s : State) : (s.formed src).now = s.now :=
  now_congr (by simp [State.formed])

theorem formed_logged (src : List DemandSource) (s : State) : ∃ es, Merges s.now 2 es ∧ Logged es s (s.formed src) := by
  obtain ⟨es, hes, hconflict⟩ := conflictEpisode_logged src (formDemand src s)
  obtain ⟨fs, hfs, hloss⟩ := lossEpisode_logged (conflictEpisode src (formDemand src s))
  rw [show (conflictEpisode src (formDemand src s)).now = s.now from now_congr (by simp)] at hfs
  exact ⟨es ++ fs, hes.append hfs, Logged.trans hconflict hloss⟩

theorem emergencyStep_logged (src : List DemandSource) (s : State) :
    ∃ es, Merges s.now 1 es ∧ Logged (s.emergencyEvents src ++ es) s (emergencyStep src s) := by
  rw [emergencyStep_eq, State.emergencyEvents]
  split
  · obtain ⟨es, hes, hraise⟩ := raise_logged .emergency (logEvent .emergencyEnter
      ((s.latched src).setDemand { (s.latched src).demand with emergency := .emergency, entryTime := s.now }))
    exact ⟨es, hes, Logged.trans (logged_logEvent .emergencyEnter _) hraise⟩
  · split
    · exact ⟨[], .nil _ _, rfl⟩
    · exact ⟨[], .nil _ _, .nil rfl⟩

@[simp] theorem emergencyStep_now (src : List DemandSource) (s : State) : (emergencyStep src s).now = s.now :=
  now_congr (by simp)

theorem logDemand_logged (src : List DemandSource) (s : State) : Logged (s.demandEvents src) s (logDemand src s) := by
  unfold State.demandEvents logDemand
  split
  · rfl
  · exact .nil rfl

/-- The events of steps 3 and 4: those of the firings that merged in step 3, the emergency event, and those of its raising. -/
def State.earlyEvents (src : List DemandSource) (es fs : List Event) (s : State) : List Event :=
  es ++ (s.formed src).emergencyEvents src ++ fs

/-- The DEMAND event is a sample's last (R14). -/
def State.lateEvents (src : List DemandSource) (s : State) : List Event :=
  (emergencyStep src (s.formed src)).demandEvents src

/-- All events of steps 3 to 5. -/
theorem demandFromSources_logged (src : List DemandSource) (s : State) : ∃ es fs, Merges s.now 2 es ∧ Merges s.now 1 fs ∧
    Logged (s.earlyEvents src es fs ++ s.lateEvents src) s (demandFromSources src s) := by
  obtain ⟨es, hes, hformed⟩ := formed_logged src s
  obtain ⟨fs, hfs, hstep⟩ := emergencyStep_logged src (s.formed src)
  rw [formed_now] at hfs
  have := (hformed.trans hstep).trans (logDemand_logged src _)
  exact ⟨es, fs, hes, hfs, by simpa [demandFromSources_eq, State.earlyEvents, State.lateEvents] using this⟩

/-- The events of steps 3 and 4 are of the present time, and none is a DEMAND event. -/
theorem mem_earlyEvents {src : List DemandSource} {s : State} {es fs : List Event} (hes : Merges s.now 2 es)
    (hfs : Merges s.now 1 fs) {e : Event} (h : e ∈ s.earlyEvents src es fs) :
    e.time = s.now ∧ ∀ v f n, e.kind ≠ .demand v f n := by
  rw [State.earlyEvents, List.mem_append, List.mem_append] at h
  rcases h with (h | h) | h
  · obtain ⟨c, k, rfl⟩ := hes.each e h; simp
  · obtain ⟨ht, hk | hk⟩ := mem_emergencyEvents h <;> simp [ht, hk]
  · obtain ⟨c, k, rfl⟩ := hfs.each e h; simp

theorem mem_lateEvents {src : List DemandSource} {s : State} {e : Event} (h : e ∈ s.lateEvents src) :
    e.time = s.now ∧ ∃ d f n, e.kind = .demand d f n := by
  simpa using mem_demandEvents h

theorem sampleEvents_length {src : List DemandSource} {s : State} {es fs : List Event} (hes : Merges s.now 2 es)
    (hfs : Merges s.now 1 fs) : (s.earlyEvents src es fs ++ s.lateEvents src).length ≤ 32 := by
  have := emergencyEvents_length src (s.formed src)
  have := demandEvents_length src (emergencyStep src (s.formed src))
  have := hes.length
  have := hfs.length
  simp [State.earlyEvents, State.lateEvents]; omega

/-- Neither the raisings' nor the DEMAND event is an event of the emergency state. -/
theorem sampleEvents_countP {src : List DemandSource} {s : State} {es fs : List Event} (hes : Merges s.now 2 es)
    (hfs : Merges s.now 1 fs) {k : EventKind} (hk : k = .emergencyEnter ∨ k = .emergencyExit) :
    (s.earlyEvents src es fs ++ s.lateEvents src).countP (fun e => e.kind == k) =
      ((s.formed src).emergencyEvents src).countP fun e => e.kind == k := by
  have hsecond : ∀ c l, k ≠ .secondaryTrigger c l := by rcases hk with rfl | rfl <;> simp
  have hlate : (s.lateEvents src).countP (fun e => e.kind == k) = 0 := by
    rw [List.countP_eq_zero]
    intro e he
    obtain ⟨-, d, f, n, hd⟩ := mem_lateEvents he
    rcases hk with rfl | rfl <;> simp [hd]
  rw [State.earlyEvents, List.countP_append, List.countP_append, List.countP_append, hes.countP_eq_zero hsecond,
    hfs.countP_eq_zero hsecond, hlate]
  omega

/-! ### The occurrence times -/

@[simp] theorem raise_lastOccurrence_length (c : Source) (s : State) :
    (raise c s).recorder.lastOccurrence.length = s.recorder.lastOccurrence.length := by
  simp [raise]

theorem raise_lastOccurrenceOf (c : Source) {s : State} {n : Nat} (hl : s.recorder.lastOccurrence.length = 12) (hn : 1 ≤ n) :
    (raise c s).recorder.lastOccurrenceOf n = if n = c.codeNat then some s.now else s.recorder.lastOccurrenceOf n :=
  raiseWith_lastOccurrenceOf c .note none hl hn

/-- Step 3 raises DEMAND_CONFLICT when the conflict episode opens, and no other source by it (R12). -/
theorem conflictEpisode_lastOccurrenceOf (src : List DemandSource) {s : State} {n : Nat}
    (hl : s.recorder.lastOccurrence.length = 12) (hn : 1 ≤ n) :
    (conflictEpisode src s).recorder.lastOccurrence.length = 12 ∧
    (conflictEpisode src s).recorder.lastOccurrenceOf n =
      if n = 5 ∧ 2 ≤ src.length ∧ s.demand.conflictOpen = false then some s.now else s.recorder.lastOccurrenceOf n := by
  have hraise : (raise .demandConflict (s.setDemand { s.demand with conflictOpen := true })).recorder.lastOccurrenceOf n =
      if n = 5 then some s.now else s.recorder.lastOccurrenceOf n := raise_lastOccurrenceOf .demandConflict hl hn
  unfold conflictEpisode
  by_cases h : 2 ≤ src.length <;> cases hc : s.demand.conflictOpen <;> simp [h, hl, hraise]

/-- Step 3 raises DEMAND_LOST when the loss episode opens, and no other source by it (R13). -/
theorem lossEpisode_lastOccurrenceOf {s : State} {n : Nat} (hl : s.recorder.lastOccurrence.length = 12) (hn : 1 ≤ n) :
    (lossEpisode s).recorder.lastOccurrence.length = 12 ∧
    (lossEpisode s).recorder.lastOccurrenceOf n =
      if n = 4 ∧ s.demand.lossOpens s.now = true then some s.now else s.recorder.lastOccurrenceOf n := by
  have hraise : (raise .demandLost (s.setDemand { s.demand with lossOpen := true })).recorder.lastOccurrenceOf n =
      if n = 4 then some s.now else s.recorder.lastOccurrenceOf n := raise_lastOccurrenceOf .demandLost hl hn
  rw [lossEpisode_eq]
  cases h : s.demand.lossOpens s.now <;> simp [hl, hraise]

/-- Step 4 raises EMERGENCY at an entry alone (R15). -/
theorem emergencyStep_lastOccurrenceOf (src : List DemandSource) {s : State} {n : Nat}
    (hl : s.recorder.lastOccurrence.length = 12) (hn : 1 ≤ n) :
    (emergencyStep src s).recorder.lastOccurrenceOf n =
      if n = 1 ∧ s.enters src = true then some s.now else s.recorder.lastOccurrenceOf n := by
  rw [emergencyStep_eq]
  cases h : s.enters src
  · cases s.leaves src <;> simp [State.latched, exitEmergency, logEvent, Recorder.log, Recorder.lastOccurrenceOf]
  · have hraise : (enterEmergency (s.latched src)).recorder.lastOccurrenceOf n =
        if n = 1 then some s.now else s.recorder.lastOccurrenceOf n := raise_lastOccurrenceOf .emergency hl hn
    simp [hraise]

theorem logDemand_lastOccurrenceOf (src : List DemandSource) (s : State) (n : Nat) :
    (logDemand src s).recorder.lastOccurrenceOf n = s.recorder.lastOccurrenceOf n := by
  unfold logDemand; split <;> rfl

/-- All raisings of a sample (R12, R13, R15). -/
theorem demandFromSources_lastOccurrenceOf (src : List DemandSource) {s : State} {n : Nat}
    (hl : s.recorder.lastOccurrence.length = 12) (hn : 1 ≤ n) :
    (demandFromSources src s).recorder.lastOccurrenceOf n =
      if n = 1 ∧ (s.formed src).enters src = true then some s.now
      else if n = 4 ∧ (s.demand.formDemand src s.now).lossOpens s.now = true then some s.now
      else if n = 5 ∧ 2 ≤ src.length ∧ s.demand.conflictOpen = false then some s.now
      else s.recorder.lastOccurrenceOf n := by
  obtain ⟨hlconflict, hconflict⟩ := conflictEpisode_lastOccurrenceOf src (s := formDemand src s) hl hn
  obtain ⟨hlloss, hloss⟩ := lossEpisode_lastOccurrenceOf hlconflict hn
  have hnow : (conflictEpisode src (formDemand src s)).now = s.now := now_congr (by simp)
  have hopen : (formDemand src s).demand.conflictOpen = s.demand.conflictOpen := by
    rw [formDemand_demand, formDemand_fields]
  have hopens : (conflictEpisode src (formDemand src s)).demand.lossOpens s.now =
      (s.demand.formDemand src s.now).lossOpens s.now := by
    rw [conflictEpisode_demand]; rfl
  rw [demandFromSources_eq, logDemand_lastOccurrenceOf, emergencyStep_lastOccurrenceOf src (s := s.formed src) hlloss hn,
    formed_now, State.formed, hloss, hconflict, hnow, hopens, hopen]
  rfl

/-! ### The frame -/

/-- Besides the Demand Unit, `t` is `s` but for what logged events and raised sources can change. -/
def RaisedOver (s t : State) : Prop := RaisedFrom (s.setDemand t.demand) t

theorem RaisedFrom.setDemand {s t : State} (h : RaisedFrom s t) (d : DemandUnit) :
    RaisedFrom (s.setDemand d) (t.setDemand d) := by
  obtain ⟨r, st, ns, es, rfl, hr⟩ := h
  exact ⟨r, st, ns, es, rfl, hr⟩

theorem RaisedOver.trans {s t u : State} (h : RaisedOver s t) (k : RaisedOver t u) : RaisedOver s u :=
  RaisedFrom.trans (RaisedFrom.setDemand h u.demand) k

theorem raisedOver_setDemand (s : State) (d : DemandUnit) : RaisedOver s (s.setDemand d) := .refl _

theorem raisedOver_raise (c : Source) (s : State) : RaisedOver s (raise c s) := by
  rw [RaisedOver, (raise_frame c s).2.2.2.1]
  exact raisedFrom_raiseWith c .note none s

theorem raisedOver_logEvent (k : EventKind) (s : State) : RaisedOver s (logEvent k s) := raisedFrom_logEvent k s

theorem raisedOver_conflictEpisode (src : List DemandSource) (s : State) : RaisedOver s (conflictEpisode src s) := by
  unfold conflictEpisode
  split
  · split
    · exact .refl _
    · exact (raisedOver_setDemand s _).trans (raisedOver_raise _ _)
  · exact .refl _

theorem raisedOver_lossEpisode (s : State) : RaisedOver s (lossEpisode s) := by
  rw [lossEpisode_eq]
  split
  · exact (raisedOver_setDemand s _).trans (raisedOver_raise _ _)
  · exact .refl _

theorem raisedOver_emergencyStep (src : List DemandSource) (s : State) : RaisedOver s (emergencyStep src s) := by
  rw [emergencyStep_eq]
  split
  · exact (raisedOver_setDemand s _).trans ((raisedOver_setDemand _ _).trans
      ((raisedOver_logEvent .emergencyEnter _).trans (raisedOver_raise _ _)))
  · split
    · exact (raisedOver_setDemand s _).trans ((raisedOver_setDemand _ _).trans (raisedOver_logEvent .emergencyExit _))
    · exact .refl _

theorem raisedOver_logDemand (src : List DemandSource) (s : State) : RaisedOver s (logDemand src s) := by
  unfold logDemand
  split
  · exact (raisedOver_setDemand s _).trans (raisedOver_logEvent _ _)
  · exact .refl _

theorem raisedOver_demandFromSources (src : List DemandSource) (s : State) : RaisedOver s (demandFromSources src s) :=
  (raisedOver_setDemand s _).trans ((raisedOver_conflictEpisode src _).trans ((raisedOver_lossEpisode _).trans
    ((raisedOver_emergencyStep src _).trans (raisedOver_logDemand src _))))

end Sys2Proof.Machine
end

section
/-!
PROOFS. The statements about the demand sample and the DEMAND frames (O27 to O31).
-/

namespace Sys2Proof.Machine

open Sys2Proof

/-! ### The state after a sample -/

theorem formed_params (src : List DemandSource) (s : State) : (s.formed src).params = s.params :=
  params_congr (by simp [State.formed])

theorem formed_control (src : List DemandSource) (s : State) : (s.formed src).control = s.control := by
  simp [State.formed]

theorem formed_latchAfter (src : List DemandSource) (s : State) : (s.formed src).latchAfter src = s.latchAfter src := by
  simp [State.latchAfter, State.holdExpired, formed_params, formed_control, formed_demand]

theorem formed_enters (src : List DemandSource) (s : State) : (s.formed src).enters src = s.enters src := by
  simp [State.enters, State.emergencySource, formed_control, formed_demand]

/-- Every exit condition of R18, with the latch as the sample has evaluated it. -/
theorem formed_leaves (src : List DemandSource) (s : State) : (s.formed src).leaves src =
    (s.demand.emergency == .emergency && (s.holdExpired && !s.demand.lineEmergency && !anyFlag src && !s.latchAfter src &&
      (s.demand.formDemand src s.now).dEff == 0)) := by
  rw [State.leaves, State.emergencyOver, State.latched, formed_latchAfter]
  simp [State.holdExpired, formed_params, formed_demand]

/-- The Demand Unit after steps 3 to 5 (R11 to R18). -/
theorem demandFromSources_demand (src : List DemandSource) (s : State) :
    (demandFromSources src s).demand = { s.demand.formDemand src s.now with
      conflictOpen := decide (2 ≤ src.length)
      lossOpen := (s.demand.formDemand src s.now).lossAfter s.now
      latch := s.latchAfter src
      emergency := if s.enters src then .emergency else if (s.formed src).leaves src then .clear else s.demand.emergency
      entryTime := if s.enters src then s.now else s.demand.entryTime
      lastLogged :=
        if 50 ≤ absDiff (s.demand.formDemand src s.now).dEff s.demand.lastLogged then (s.demand.formDemand src s.now).dEff
        else s.demand.lastLogged } := by
  rw [demandFromSources_eq, logDemand_demand, emergencyStep_demand, formed_latchAfter, formed_enters, formed_now, formed_demand]
  simp

theorem demandFromSources_now (src : List DemandSource) (s : State) : (demandFromSources src s).now = s.now :=
  now_congr (by simp)

/-- Steps 3 to 5 leave the sources as they found them. -/
theorem demandFromSources_freshSources (src : List DemandSource) (s : State) :
    (demandFromSources src s).freshSources = s.freshSources :=
  freshSources_congr (by simp) (by simp) (demandFromSources_now src s) (by simp [demandFromSources_demand])
    (by simp [demandFromSources_demand]) (by simp [demandFromSources_demand])

/-- Steps 1 and 2 leave the rest of the Demand Unit to steps 3 to 5. -/
@[simp] theorem sampled_demand_frame (raw : BitVec 10) (cab he tl : Bool) (s : State) :
    (s.sampled raw cab he tl).demand.state = s.demand.state ∧ (s.sampled raw cab he tl).demand.dEff = s.demand.dEff ∧
    (s.sampled raw cab he tl).demand.heldSince = s.demand.heldSince ∧
    (s.sampled raw cab he tl).demand.conflictOpen = s.demand.conflictOpen ∧
    (s.sampled raw cab he tl).demand.lossOpen = s.demand.lossOpen ∧
    (s.sampled raw cab he tl).demand.lastLogged = s.demand.lastLogged ∧
    (s.sampled raw cab he tl).demand.emergency = s.demand.emergency ∧
    (s.sampled raw cab he tl).demand.entryTime = s.demand.entryTime ∧
    (s.sampled raw cab he tl).demand.latch = s.demand.latch := by
  rw [sampled_demand]; simp [DemandUnit.read]

/-- Steps 1 and 2 take the inputs, the next expiry and the controlling status (R4 to R6, R9). -/
theorem sampled_demand_inputs (raw : BitVec 10) (cab he tl : Bool) (s : State) :
    (s.sampled raw cab he tl).demand.handle = handleDemand raw ∧ (s.sampled raw cab he tl).demand.handleEmergency = he ∧
    (s.sampled raw cab he tl).demand.lineEmergency = tl ∧
    (s.sampled raw cab he tl).demand.controlling = s.controls cab ∧
    (s.sampled raw cab he tl).demand.sampleTimer = timerNext s.demand.sampleTimer 10 ∧
    (s.sampled raw cab he tl).demand.frameTimer = s.demand.frameTimerAfter (s.controls cab) s.now := by
  rw [sampled_demand]; simp [DemandUnit.read]

@[simp] theorem sampled_now (raw : BitVec 10) (cab he tl : Bool) (s : State) : (s.sampled raw cab he tl).now = s.now :=
  now_congr (by simp)

/-- The latch by R17: a peer's flag sets it; the end of the hold time clears it when there are sources and none is flagged. -/
theorem latchAfter_cases (src : List DemandSource) (s : State) :
    (peerFlag s.control.station src = true → s.latchAfter src = true) ∧
    (peerFlag s.control.station src = false → s.holdExpired = true → src ≠ [] → anyFlag src = false →
      s.latchAfter src = false) ∧
    (peerFlag s.control.station src = false → (s.holdExpired = false ∨ src = [] ∨ anyFlag src = true) →
      s.latchAfter src = s.demand.latch) := by
  unfold State.latchAfter
  refine ⟨fun h => by simp [h], fun h hx hn hf => by simp [h, hx, hn, hf], fun h hk => ?_⟩
  rw [h]
  rcases hk with hk | hk | hk <;> simp [hk]

theorem peerFlag_iff {own : Nat} {src : List DemandSource} :
    peerFlag own src = true ↔ ∃ x ∈ src, x.station ≠ own ∧ x.emergency = true := by
  simp [peerFlag]

theorem anyFlag_iff {src : List DemandSource} : anyFlag src = true ↔ ∃ x ∈ src, x.emergency = true := by
  simp [anyFlag]

theorem formed_leaves_iff {src : List DemandSource} {s : State} : (s.formed src).leaves src = true ↔
    s.demand.emergency = .emergency ∧ s.holdExpired = true ∧ s.demand.lineEmergency = false ∧ anyFlag src = false ∧
    s.latchAfter src = false ∧ (s.demand.formDemand src s.now).dEff = 0 := by
  simp [formed_leaves, and_assoc]

/-- `m` is `s` after steps 1 and 2 of a sample that read the two emergency inputs so: what steps 3 to 5 find. -/
structure SampledTo (he tl : Bool) (s m : State) : Prop where
  recorder : m.recorder = s.recorder
  control : m.control = s.control
  contact : m.demand.handleEmergency = he
  line : m.demand.lineEmergency = tl
  conflictOpen : m.demand.conflictOpen = s.demand.conflictOpen
  lossOpen : m.demand.lossOpen = s.demand.lossOpen
  lastLogged : m.demand.lastLogged = s.demand.lastLogged
  emergency : m.demand.emergency = s.demand.emergency
  entryTime : m.demand.entryTime = s.demand.entryTime
  latch : m.demand.latch = s.demand.latch

theorem sampledTo (dt : Passage) (raw : BitVec 10) (cab he tl : Bool) (s : State) :
    SampledTo he tl s ((s.advance dt).sampled raw cab he tl) := by
  obtain ⟨-, hcontact, hline, -⟩ := sampled_demand_inputs raw cab he tl (s.advance dt)
  constructor <;> simp [hcontact, hline]

/-- A sample that is due, as a command. -/
theorem exec_demandSample {dt : Passage} {s : State} (ha : Accepts s)
    (due : timerDue s.demand.sampleTimer 10 (s.advance dt).now = true) (raw : BitVec 10) (cab he tl : Bool) :
    exec (.demandSample dt raw cab he tl) s = .next (demandFromSources ((s.advance dt).sampled raw cab he tl).freshSources
      ((s.advance dt).sampled raw cab he tl)) := by
  rw [exec_accepted ha, ← demandSampleEffect_due (by simpa using due)]; rfl

/-! ### Entry and exit as a sample finds them -/

/-- A sample enters EMERGENCY by R15. -/
theorem SampledTo.enters_iff {he tl : Bool} {s m : State} (h : SampledTo he tl s m) (src : List DemandSource) :
    m.enters src = true ↔ s.demand.emergency = .clear ∧
      (tl = true ∨ ((demandFromSources src m).demand.controlling = true ∧ he = true) ∨
        peerFlag s.control.station src = true) := by
  rw [Machine.enters_iff, h.emergency, h.line, h.contact, h.control, demandFromSources_demand]
  simp

/-- A sample leaves EMERGENCY by R18. -/
theorem SampledTo.leaves_iff {he tl : Bool} {s m : State} (h : SampledTo he tl s m) (src : List DemandSource) :
    (m.formed src).leaves src = true ↔
      s.demand.emergency = .emergency ∧ m.holdExpired = true ∧ tl = false ∧ ¬ anyFlag src = true ∧
      (demandFromSources src m).demand.latch = false ∧ (demandFromSources src m).demand.dEff = 0 := by
  rw [formed_leaves_iff, h.emergency, h.line, demandFromSources_demand, Bool.not_eq_true]

theorem SampledTo.holdExpired_iff {he tl : Bool} {s m : State} (h : SampledTo he tl s m) :
    m.holdExpired = true ↔ s.params.tHold ≤ elapsed s.demand.entryTime m.now := by
  simp [State.holdExpired, params_congr (congrArg ModeController.active h.control), h.entryTime]

/-! ### The DEMAND event -/

/-- FRESH stands only where there are sources (R11). -/
theorem formDemand_fresh_ne_nil {src : List DemandSource} {now : Time} {u : DemandUnit}
    (h : (u.formDemand src now).state = .fresh) : src ≠ [] := by
  rintro rfl
  rw [formDemand_nil] at h
  cases hs : u.state <;> simp [hs] at h

/-- The last event of a sample speaks of the state after the sample (R14). -/
theorem lateEvents_eq (src : List DemandSource) (s : State) : s.lateEvents src =
    if 50 ≤ absDiff (demandFromSources src s).demand.dEff s.demand.lastLogged then
      [⟨s.now, .demand (demandFromSources src s).demand.dEff ((demandFromSources src s).demand.emergency == .emergency)
        ((demandFromSources src s).demand.eventSource src)⟩]
    else [] := by
  rw [demandFromSources_eq, logDemand_demand, State.lateEvents, State.demandEvents, emergencyStep_now, formed_now]
  simp [formed_demand, DemandUnit.eventSource]

/-- While HELD a DEMAND event names no station; otherwise it names the first of the stations that ask for D_eff (R14). -/
theorem eventSource_spec {src : List DemandSource} {u : DemandUnit} (hsorted : src.Pairwise fun x y => x.station < y.station)
    (hasks : ∃ x ∈ src, x.value = u.dEff) (hstate : u.state ≠ .held) :
    (∃ x ∈ src, x.value = u.dEff ∧ x.station = u.eventSource src) ∧
    ∀ x ∈ src, x.value = u.dEff → u.eventSource src ≤ x.station := by
  obtain ⟨x, hx, hv⟩ := hasks
  obtain ⟨first, hfirst⟩ := Option.isSome_iff_exists.1
    (List.find?_isSome.2 ⟨x, hx, by simpa using hv⟩ : (src.find? fun x => x.value == u.dEff).isSome = true)
  have hsource : u.eventSource src = first.station := by simp [DemandUnit.eventSource, hstate, hfirst]
  obtain ⟨hp, before, after, rfl, hbefore⟩ := List.find?_eq_some_iff_append.1 hfirst
  rw [hsource]
  refine ⟨⟨first, by simp, by simpa using hp, rfl⟩, fun y hy hyv => ?_⟩
  rcases List.mem_append.1 hy with hy | hy
  · have := hbefore y hy; simp [hyv] at this
  · rcases List.mem_cons.1 hy with rfl | hy
    · exact le_rfl
    · exact Nat.le_of_lt (List.rel_of_pairwise_cons (List.pairwise_append.1 hsorted).2.1 hy)

/-! ### DEMAND frames -/

/-- R5 in the terms of R5's own limits. -/
theorem handleDemand_eq (raw : BitVec 10) :
    handleDemand raw = if raw.toNat ≤ 19 then 0 else if raw.toNat ≤ 1000 then raw.toNat else 1000 := by
  rw [handleDemand]; split_ifs <;> omega

/-- The immediate frame, judged by what the last frame of the same controlling spell carried (R8). -/
theorem read_immediateDue_iff (u : DemandUnit) (raw : BitVec 10) (controls he tl : Bool) (now : Time) :
    (u.read raw controls he tl now).immediateDue = true ↔
      controls = true ∧ ∀ c, u.lastEnqueued = some c → 10 ≤ absDiff (handleDemand raw) c.d ∨ he ≠ c.emergency := by
  rw [immediateDue_iff]
  cases controls <;> simp [DemandUnit.read, DemandUnit.enqueuedAfter]

/-- The demand frame timer runs while the device controls (R9). -/
theorem frameTimerAfter_eq {u : DemandUnit} (hu : u.frameTimer.isSome = u.controlling) (controls : Bool) (now : Time) :
    u.frameTimerAfter controls now =
      if controls then (if u.controlling then u.frameTimer else some now) else none := by
  unfold DemandUnit.frameTimerAfter
  cases hc : u.controlling <;> simp_all

/-- The last enqueued demand is kept while the device controls (R6). -/
theorem enqueuedAfter_eq {u : DemandUnit} (hu : u.lastEnqueued.isSome = u.controlling) (controls : Bool) :
    u.enqueuedAfter controls = if controls then u.lastEnqueued else none := by
  unfold DemandUnit.enqueuedAfter
  cases hc : u.controlling <;> cases controls <;> simp_all

/-- Besides the Demand Unit, the pins and the queued DEMAND, steps 1 and 2 change nothing. -/
theorem sampled_setDemand (raw : BitVec 10) (cab he tl : Bool) (s : State) (d : DemandUnit) :
    (s.sampled raw cab he tl).setDemand d = ((s.setPins (s.sampled raw cab he tl).pins).setDemand d).setLine
      (s.line.withQueue { s.line.queue with demand := (s.sampled raw cab he tl).line.queue.demand }) := by
  apply State.ext_blocks <;> simp [sampled_line, LineController.withQueue]

/-- A sample enqueues exactly when R8 asks for a frame, and else keeps the last enqueued demand while it controls (R6, R8). -/
theorem sampled_enqueues {s : State} (hs : DemandSafe s) (raw : BitVec 10) (cab he tl : Bool) {asks : Prop}
    (hasks : asks ↔ s.controls cab = true ∧
      ∀ c, s.demand.lastEnqueued = some c → 10 ≤ absDiff (handleDemand raw) c.d ∨ he ≠ c.emergency) :
    (asks → (s.sampled raw cab he tl).demand.lastEnqueued = some ⟨handleDemand raw, he⟩ ∧
      (s.sampled raw cab he tl).line.queue.demand = some ⟨handleDemand raw, he⟩) ∧
    (¬ asks → (s.sampled raw cab he tl).demand.lastEnqueued = (if s.controls cab then s.demand.lastEnqueued else none) ∧
      (s.sampled raw cab he tl).line.queue.demand = s.line.queue.demand) := by
  rw [← read_immediateDue_iff s.demand raw (s.controls cab) he tl s.now] at hasks
  rw [sampled_demand, sampled_line, hasks, ← enqueuedAfter_eq hs.enqueued]
  refine ⟨fun h => ?_, fun h => ?_⟩
  · simp only [h, if_true]; exact ⟨rfl, rfl⟩
  · simp only [h]; exact ⟨rfl, rfl⟩

/-- The Demand Unit's relations are about its own state and the mode. -/
theorem DemandSafe.congr {s t : State} (h : DemandSafe s) (demand : t.demand = s.demand)
    (mode : t.control.mode = s.control.mode) : DemandSafe t := by
  obtain ⟨handle, dEff, logged, timer, frame, enqueued, inRun, none_, loss, latch⟩ := h
  rw [← demand] at handle dEff logged timer frame enqueued inRun none_ loss latch
  rw [← mode] at timer inRun
  exact ⟨handle, dEff, logged, timer, frame, enqueued, inRun, none_, loss, latch⟩

/-- Steps 3 to 5 leave what steps 1 and 2 have settled. -/
@[simp] theorem demandFromSources_demand_frame (src : List DemandSource) (s : State) :
    (demandFromSources src s).demand.handle = s.demand.handle ∧
    (demandFromSources src s).demand.handleEmergency = s.demand.handleEmergency ∧
    (demandFromSources src s).demand.lineEmergency = s.demand.lineEmergency ∧
    (demandFromSources src s).demand.controlling = s.demand.controlling ∧
    (demandFromSources src s).demand.lastEnqueued = s.demand.lastEnqueued ∧
    (demandFromSources src s).demand.sampleTimer = s.demand.sampleTimer ∧
    (demandFromSources src s).demand.frameTimer = s.demand.frameTimer := by
  rw [demandFromSources_demand]; simp

/-- Steps 3 to 5 leave the queued DEMAND. -/
theorem demandFromSources_queue_demand (src : List DemandSource) (s : State) :
    (demandFromSources src s).line.queue.demand = s.line.queue.demand := by
  obtain ⟨r, st, ns, es, heq, -⟩ := raisedOver_demandFromSources src s
  rw [heq]; rfl

/-! ### The statements -/

/-- Settles O27: a source is read from one entry, and entries stand in the order of their stations. -/
theorem freshSourcesAreRecentDemands : Obligations.FreshSourcesAreRecentDemands := by
  unfold Obligations.FreshSourcesAreRecentDemands
  intro s hl h1 h8
  refine ⟨fun x => ?_, freshSources_pairwise s⟩
  rw [mem_freshSources]
  constructor
  · rintro ⟨e, he, hx⟩
    rcases sourceAt_eq_some.1 hx with ⟨hn, hc, hx⟩ | ⟨hn, l, hd, hage, hx⟩
    · exact .inl ⟨hc, hn ▸ hx⟩
    · exact .inr ⟨hn, e, l, he, hd, hage, congrArg DemandSource.value hx, congrArg DemandSource.emergency hx⟩
  · rintro (⟨hc, rfl⟩ | ⟨hn, e, l, he, hd, hage, hv, hf⟩)
    · obtain ⟨e, he⟩ := Roster.exists_entry h1 (by omega : _ ≤ s.roster.entries.length)
      exact ⟨e, he, sourceAt_eq_some.2 (.inl ⟨rfl, hc, rfl⟩)⟩
    · refine ⟨e, he, sourceAt_eq_some.2 (.inr ⟨hn, l, hd, hage, ?_⟩)⟩
      rw [← hv, ← hf]

/-- Settles O29: `formDemand` is R11's table, and the greatest value is one of the values. -/
theorem demandFollowsTheFreshSources : Obligations.DemandFollowsTheFreshSources := by
  unfold Obligations.DemandFollowsTheFreshSources
  intro dt raw cab he tl s ha due
  refine ⟨_, exec_demandSample ha due raw cab he tl, ?_⟩
  simp only [demandFromSources_freshSources, demandFromSources_now, demandFromSources_demand]
  constructor
  · intro hnil
    rw [hnil, formDemand_nil]
    refine ⟨fun h => ?_, fun h => ?_, fun h => ?_⟩ <;> simp [h]
  · intro hne
    rw [formDemand_fresh hne]
    exact ⟨rfl, exists_maxDemand hne, fun x hx => le_maxDemand hx⟩

/-- Settles O30: the latch, the entry and the exit are read off `latchAfter_cases`, `SampledTo.enters_iff` and
`SampledTo.leaves_iff`, and the events of the sample are those of `demandFromSources_logged`. -/
theorem emergencyEntersHoldsAndEnds : Obligations.EmergencyEntersHoldsAndEnds := by
  unfold Obligations.EmergencyEntersHoldsAndEnds
  intro dt raw cab he tl s ha hocc due
  have hexec := exec_demandSample ha due raw cab he tl
  have hm := sampledTo dt raw cab he tl s
  generalize (s.advance dt).sampled raw cab he tl = m at hexec hm
  obtain ⟨es, fs, hes, hfs, hlog⟩ := demandFromSources_logged m.freshSources m
  have hnow := demandFromSources_now m.freshSources m
  refine ⟨_, _, hexec, by rw [← hm.recorder]; exact hlog, fun e he => ?times, ?_⟩
  case times =>
    rw [hnow]
    exact (List.mem_append.1 he).elim (fun h => (mem_earlyEvents hes hfs h).1) fun h => (mem_lateEvents h).1
  intro expired pf af hexp hpf haf
  rw [demandFromSources_freshSources] at hpf haf ⊢
  rw [hnow] at hexp ⊢
  rw [← hm.holdExpired_iff] at hexp
  rw [← peerFlag_iff] at hpf
  rw [← anyFlag_iff] at haf
  obtain ⟨hset, hcleared, hkept⟩ := latchAfter_cases m.freshSources m
  rw [hm.control, ← hpf] at hset
  rw [hm.control, ← Bool.not_eq_true, ← hpf, ← hexp, ← Bool.not_eq_true, ← haf] at hcleared
  rw [hm.control, ← Bool.not_eq_true, ← hpf, ← Bool.not_eq_true, ← hexp, ← haf, hm.latch] at hkept
  have henters := hm.enters_iff m.freshSources
  rw [← hpf] at henters
  have hleaves := hm.leaves_iff m.freshSources
  rw [← hexp, ← haf] at hleaves
  have hmem : ∀ e ∈ (m.formed m.freshSources).emergencyEvents m.freshSources,
      e ∈ (demandFromSources m.freshSources m).recorder.events := fun e h =>
    hlog.mem (sampleEvents_length hes hfs) (by simp [State.earlyEvents, h])
  have henter := (sampleEvents_countP (src := m.freshSources) hes hfs (.inl rfl)).trans (emergencyEvents_countP_enter _ _)
  have hexit := (sampleEvents_countP (src := m.freshSources) hes hfs (.inr rfl)).trans (emergencyEvents_countP_exit _ _)
  have hoccurs := demandFromSources_lastOccurrenceOf m.freshSources (s := m) (n := 1) (by rw [hm.recorder]; exact hocc) le_rfl
  have hdemand := demandFromSources_demand m.freshSources m
  rw [formed_enters, hm.recorder] at hoccurs
  rw [formed_enters] at henter
  rw [State.emergencyEvents, formed_enters, formed_now] at hmem
  have hlatch := congrArg DemandUnit.latch hdemand
  have hemergency := congrArg DemandUnit.emergency hdemand
  have hentry := congrArg DemandUnit.entryTime hdemand
  simp only [hm.emergency, hm.entryTime] at hlatch hemergency hentry
  rw [← hlatch] at hset hcleared hkept
  generalize demandFromSources m.freshSources m = t at *
  clear hdemand hlatch
  refine ⟨hset, hcleared, hkept, ?enter, ?stays, ?entry, ?exit, ?leave, ?holds⟩
  case enter =>
    intro hclear hsource
    have hen := henters.2 ⟨hclear, hsource⟩
    simp only [hen, if_true] at hmem hemergency hentry hoccurs
    exact ⟨hemergency, hentry, hmem _ (by simp), by simpa using hoccurs⟩
  case stays =>
    intro hclear hsource
    have hen : ¬ m.enters m.freshSources = true := fun h => hsource (henters.1 h).2
    have hle : ¬ (m.formed m.freshSources).leaves m.freshSources = true := fun h => by
      have := (hleaves.1 h).1; simp [hclear] at this
    simp only [hen, hle] at hemergency hentry
    exact ⟨hemergency.trans hclear, hentry⟩
  case entry =>
    intro entry hiff
    rw [← henters] at hiff
    refine ⟨fun h => ?_, fun h => ⟨?_, ?_⟩⟩
    · rw [henter, if_pos (hiff.1 h)]
    · rw [henter, if_neg (hiff.not.1 h)]
    · simpa [hiff.not.1 h] using hoccurs
  case exit =>
    intro exit hiff
    rw [← hleaves] at hiff
    refine ⟨fun h => ?_, fun h => ?_⟩
    · rw [hexit, if_pos (hiff.1 h)]
    · rw [hexit, if_neg (hiff.not.1 h)]
  case leave =>
    intro hstate hover
    have hle := hleaves.2 ⟨hstate, hover⟩
    have hen : ¬ m.enters m.freshSources = true := fun h => by
      have := (henters.1 h).1; simp [hstate] at this
    simp only [hen, hle, if_true] at hmem hemergency
    exact ⟨hemergency, hmem _ (by simp)⟩
  case holds =>
    intro hstate hover
    have hen : ¬ m.enters m.freshSources = true := fun h => by
      have := (henters.1 h).1; simp [hstate] at this
    have hle : ¬ (m.formed m.freshSources).leaves m.freshSources = true := fun h => hover (hleaves.1 h).2
    simp only [hen, hle] at hemergency hentry
    exact ⟨hemergency.trans hstate, hentry⟩

/-- Settles O31: the episodes are those of `demandFromSources_demand`, the raisings those of
`demandFromSources_lastOccurrenceOf`, and the DEMAND event is the sample's last. -/
theorem demandEpisodesAndEvent : Obligations.DemandEpisodesAndEvent := by
  unfold Obligations.DemandEpisodesAndEvent
  intro dt raw cab he tl s ha hocc due
  have hexec := exec_demandSample ha due raw cab he tl
  have hm := sampledTo dt raw cab he tl s
  generalize (s.advance dt).sampled raw cab he tl = m at hexec hm
  obtain ⟨es, fs, hes, hfs, hlog⟩ := demandFromSources_logged m.freshSources m
  have hnow := demandFromSources_now m.freshSources m
  have hoccurs := fun n => demandFromSources_lastOccurrenceOf m.freshSources (s := m) (n := n) (by rw [hm.recorder]; exact hocc)
  have hlate := lateEvents_eq m.freshSources m
  have hdemand := demandFromSources_demand m.freshSources m
  have hsorted := freshSources_pairwise m
  refine ⟨_, hexec, ?_⟩
  rw [demandFromSources_freshSources, hnow]
  generalize demandFromSources m.freshSources m = t at *
  generalize m.freshSources = src at *
  have hstate : t.demand.state = (m.demand.formDemand src m.now).state := by rw [hdemand]
  have hheld : t.demand.heldSince = (m.demand.formDemand src m.now).heldSince := by rw [hdemand]
  have hlogged : t.demand.lastLogged =
      if 50 ≤ absDiff t.demand.dEff s.demand.lastLogged then t.demand.dEff else s.demand.lastLogged := by
    rw [hdemand, hm.lastLogged]
  have hloss : t.demand.lossOpen = (decide (t.demand.state ≠ .fresh) &&
      (s.demand.lossOpen || decide (t.demand.state = .held ∧ 3000 ≤ elapsed t.demand.heldSince m.now))) := by
    rw [hdemand, ← hm.lossOpen]; simp [DemandUnit.lossAfter]
  have hopens : (m.demand.formDemand src m.now).lossOpens m.now = true ↔
      t.demand.state = .held ∧ 3000 ≤ elapsed t.demand.heldSince m.now ∧ s.demand.lossOpen = false := by
    rw [hstate, hheld, ← hm.lossOpen]; simp [DemandUnit.lossOpens, and_assoc]
  refine ⟨by rw [hdemand], ?conflict, ?loss, m.earlyEvents src es fs, fun e he => mem_earlyEvents hes hfs he,
    ?quiet, ?event⟩
  case conflict =>
    simpa [hm.recorder, hm.conflictOpen] using hoccurs 5 (by decide)
  case loss =>
    intro lost hlost
    rw [← hopens] at hlost
    have hoccurs := hoccurs 4 (by decide)
    refine ⟨?_, fun h => by simpa [hlost.1 h] using hoccurs, fun h => by simpa [hlost.not.1 h, hm.recorder] using hoccurs⟩
    rw [hlost, hopens, hloss]
    cases t.demand.state <;> cases s.demand.lossOpen <;> simp
  case quiet =>
    intro h
    rw [if_neg (by omega)] at hlogged
    rw [if_neg (by rw [hm.lastLogged]; omega)] at hlate
    rw [hlate, List.append_nil, Logged, hm.recorder] at hlog
    exact ⟨hlogged, hlog⟩
  case event =>
    intro h
    rw [if_pos h] at hlogged
    rw [if_pos (by rw [hm.lastLogged]; exact h)] at hlate
    rw [hlate, Logged, List.foldl_append, hm.recorder] at hlog
    refine ⟨hlogged, t.demand.eventSource src, hlog, fun hh => if_pos hh, fun hf => ?_⟩
    have hne := formDemand_fresh_ne_nil (hstate ▸ hf)
    refine eventSource_spec hsorted ?_ (by simp [hf])
    rw [hdemand, formDemand_fresh hne]
    exact exists_maxDemand hne

/-- Settles O28: the sample by `sampled_demand` and the frame of steps 3 to 5, the timer's expiry by `originateDemand`. -/
theorem demandFramesAreOriginated : Obligations.DemandFramesAreOriginated := by
  unfold Obligations.DemandFramesAreOriginated
  refine ⟨fun dt raw cab he tl s ha hs due => ?sample, fun dt s ha => ⟨fun h => ?notDue, fun h hrun => ?due⟩⟩
  case sample =>
    obtain ⟨hhandle, hcontact, hlevel, hcontrolling, htimer, hframe⟩ := sampled_demand_inputs raw cab he tl (s.advance dt)
    have hsafe : DemandSafe (s.advance dt) := hs.congr (by simp) (by simp)
    have henqueues := sampled_enqueues hsafe raw cab he tl Iff.rfl
    have hframeTimer := frameTimerAfter_eq hsafe.frame ((s.advance dt).controls cab) (s.advance dt).now
    have hpins := sampled_pins raw cab he tl (s.advance dt)
    have hsame := sampled_setDemand raw cab he tl (s.advance dt)
    have hnow := sampled_now raw cab he tl (s.advance dt)
    have hcontrols : (s.advance dt).controls cab = (decide (s.control.mode = .run) && cab) := by simp [State.controls]
    refine ⟨_, exec_demandSample ha due raw cab he tl, ?_⟩
    generalize (s.advance dt).sampled raw cab he tl = m at *
    have hraised := raisedOver_demandFromSources m.freshSources m
    rw [RaisedOver, hsame] at hraised
    simp only [demandFromSources_frame, demandFromSources_demand_frame, demandFromSources_now, demandFromSources_queue_demand]
    rw [hcontrolling, hframe, hframeTimer, hhandle, hnow]
    simp only [advance_frame, advance_line] at *
    exact ⟨hpins, handleDemand_eq raw, hcontact, hlevel, htimer, hcontrols, trivial, henqueues.1, henqueues.2, hraised⟩
  case notDue =>
    rw [exec_accepted ha]
    simp [effectOf, demandFrameEffect, Instr.dt, h]
  case due =>
    rw [exec_accepted ha]
    simp only [effectOf, demandFrameEffect, Instr.dt, advance_frame, h, if_true]
    refine congrArg _ (State.ext_blocks ?_ ?_ ?_ ?_ ?_ ?_ ?_ ?_ ?_ ?_ ?_ ?_ ?_ ?_) <;>
      simp [originateDemand, enqueueDemand, hrun, DemandUnit.content]

end Sys2Proof.Machine
end

section
/-!
PROOFS. Every step keeps the ranges and relations of the Demand Unit (O6): first what a sample and a frame timer's expiry do to
them, then the changes of mode, then all commands.
-/

namespace Sys2Proof.Machine

open Sys2Proof

/-- Inputs, timers and controlling status may change together as long as they agree with each other and with the mode. -/
theorem DemandSafe.of_status {s t : State} (h : DemandSafe s)
    (kept : t.demand.state = s.demand.state ∧ t.demand.dEff = s.demand.dEff ∧ t.demand.lastLogged = s.demand.lastLogged ∧
      t.demand.lossOpen = s.demand.lossOpen ∧ t.demand.emergency = s.demand.emergency ∧ t.demand.latch = s.demand.latch)
    (handle : t.demand.handle ≤ 1000) (timer : t.demand.sampleTimer.isSome = t.control.mode.working)
    (frame : t.demand.frameTimer.isSome = t.demand.controlling)
    (enqueued : t.demand.lastEnqueued.isSome = t.demand.controlling)
    (inRun : t.demand.controlling = true → t.control.mode = .run) : DemandSafe t := by
  obtain ⟨hstate, hdEff, hlogged, hloss, hemergency, hlatch⟩ := kept
  refine ⟨handle, ?_, ?_, timer, frame, enqueued, inRun, ?_, ?_, ?_⟩
  · rw [hdEff]; exact h.dEff
  · rw [hlogged]; exact h.logged
  · rw [hstate, hdEff]; exact h.none_
  · rw [hloss, hstate]; exact h.loss
  · rw [hlatch, hemergency]; exact h.latch

/-! ### The sample and the frame timer -/

theorem handleDemand_le (raw : BitVec 10) : handleDemand raw ≤ 1000 := by
  rw [handleDemand]; split_ifs <;> omega

/-- Steps 1 and 2 keep the relations: a device that begins to control enqueues at once (R6, R8). -/
theorem DemandSafe.sampled {s : State} (h : DemandSafe s) (raw : BitVec 10) (cab he tl : Bool) :
    DemandSafe (s.sampled raw cab he tl) := by
  obtain ⟨hhandle, -, -, hcontrolling, htimer, hframe⟩ := sampled_demand_inputs raw cab he tl s
  have henqueues := sampled_enqueues h raw cab he tl Iff.rfl
  rw [frameTimerAfter_eq h.frame] at hframe
  refine h.of_status (by simp) (hhandle ▸ handleDemand_le raw) ?timer ?frame ?enqueued ?inRun
  case timer => rw [htimer, timerNext, Option.isSome_map]; simpa using h.timer
  case frame =>
    have := h.frame
    rw [hframe, hcontrolling]
    cases s.controls cab <;> cases hc : s.demand.controlling <;> simp_all
  case enqueued =>
    rw [hcontrolling]
    by_cases hasks : s.controls cab = true ∧ ∀ c, s.demand.lastEnqueued = some c →
        10 ≤ absDiff (handleDemand raw) c.d ∨ he ≠ c.emergency
    · rw [(henqueues.1 hasks).1, hasks.1]; rfl
    · rw [(henqueues.2 hasks).1]
      cases hc : s.controls cab
      · rfl
      · cases hl : s.demand.lastEnqueued
        · exact absurd ⟨hc, by simp [hl]⟩ hasks
        · rfl
  case inRun =>
    rw [hcontrolling, State.controls, (sampled_frame raw cab he tl s).2.2.2.2.2.2.2.2.2.2]
    intro hc; simp at hc; exact hc.1

/-- R11 keeps D_eff in range, and NONE has demand 0. -/
theorem DemandSafe.formDemand {s : State} (h : DemandSafe s) :
    (s.demand.formDemand s.freshSources s.now).dEff ≤ 1000 ∧
    ((s.demand.formDemand s.freshSources s.now).state = .none → (s.demand.formDemand s.freshSources s.now).dEff = 0) := by
  by_cases hsrc : s.freshSources = []
  · have := h.dEff
    rw [hsrc, formDemand_nil]
    cases hs : s.demand.state <;> simp [h.dEff]
  · obtain ⟨x, hx, hv⟩ := exists_maxDemand hsrc
    rw [formDemand_fresh hsrc]
    exact ⟨hv ▸ freshSources_value_le h.handle hx, by simp⟩

/-- A loss episode is HELD's: only FRESH leaves HELD, and it closes the episode (R11, R13). -/
theorem DemandSafe.lossAfter {s : State} (h : DemandSafe s) (src : List DemandSource)
    (ho : (s.demand.formDemand src s.now).lossAfter s.now = true) : (s.demand.formDemand src s.now).state = .held := by
  by_cases hsrc : src = []
  · subst hsrc
    rw [formDemand_nil] at ho ⊢
    have := h.loss
    cases hs : s.demand.state <;> simp_all [DemandUnit.lossAfter]
  · rw [formDemand_fresh hsrc] at ho
    simp [DemandUnit.lossAfter] at ho

/-- A latch that is set after the sample stands in EMERGENCY: in CLEAR a peer's flag alone sets it, and the same flag enters
EMERGENCY; an exit finds it clear (R15, R17, R18). -/
theorem DemandSafe.latchAfter {s : State} (h : DemandSafe s) (src : List DemandSource) (hl : s.latchAfter src = true) :
    (demandFromSources src s).demand.emergency = .emergency := by
  have hleaves : (s.formed src).leaves src = false := by
    rw [← Bool.not_eq_true, formed_leaves_iff]; simp [hl]
  rw [demandFromSources_demand]
  cases hen : s.enters src with
  | true => rfl
  | false =>
    cases hem : s.demand.emergency with
    | emergency => simp [hleaves]
    | clear =>
      have hflag : peerFlag s.control.station src = false := by
        rw [← Bool.not_eq_true]
        exact fun hf => by simp [enters_iff.2 ⟨hem, .inr (.inr hf)⟩] at hen
      have hlatch : s.demand.latch = false := by
        rw [← Bool.not_eq_true]
        exact fun hf => by simp [h.latch hf] at hem
      simp [State.latchAfter, hflag, hlatch] at hl

/-- Steps 3 to 5 over the sources that the sample finds keep the relations. -/
theorem DemandSafe.demandFromSources {s : State} (h : DemandSafe s) : DemandSafe (demandFromSources s.freshSources s) := by
  obtain ⟨hrange, hnone⟩ := h.formDemand
  have hloss := h.lossAfter s.freshSources
  have hlatch := h.latchAfter s.freshSources
  constructor
  case handle => simpa using h.handle
  case dEff => rw [demandFromSources_demand]; exact hrange
  case logged =>
    have := h.logged
    rw [demandFromSources_demand]; simp only; split <;> omega
  case timer => simpa using h.timer
  case frame => simpa using h.frame
  case enqueued => simpa using h.enqueued
  case inRun => simpa using h.inRun
  case none_ => rw [demandFromSources_demand]; exact hnone
  case loss => rw [demandFromSources_demand]; exact hloss
  case latch => exact fun hl => hlatch (by rw [← hl, demandFromSources_demand])

theorem DemandSafe.demandSample {s : State} (h : DemandSafe s) (raw : BitVec 10) (cab he tl : Bool) :
    DemandSafe (demandSampleEffect raw cab he tl s) := by
  by_cases due : timerDue s.demand.sampleTimer 10 s.now = true
  · rw [demandSampleEffect_due due]; exact (h.sampled raw cab he tl).demandFromSources
  · rw [demandSampleEffect, if_neg due]; exact h

/-- A timer that is due runs (R3). -/
theorem isSome_of_timerDue {t : Timer} {period : Nat} {now : Time} (h : timerDue t period now = true) : t.isSome = true := by
  cases t with
  | none => cases h
  | some => rfl

/-- The demand frame timer runs on while the device controls, and each frame is the last enqueued demand (R9). -/
theorem DemandSafe.demandFrame {s : State} (h : DemandSafe s) : DemandSafe (demandFrameEffect s) := by
  unfold demandFrameEffect
  split
  · rename_i due
    have hc : s.demand.controlling = true := h.frame ▸ isSome_of_timerDue due
    exact h.of_status (by simp [originateDemand]) (by simpa [originateDemand] using h.handle)
      (by simpa [originateDemand] using h.timer) (by simpa [originateDemand, timerNext] using h.frame)
      (by simp [originateDemand, hc]) (by simpa [originateDemand] using h.inRun)
  · exact h

/-! ### Changes of mode -/

/-- A mode of the same kind keeps the relations, when the device does not control or is in RUN. -/
theorem DemandSafe.changedMode {s t : State} (h : DemandSafe s) (demand : t.demand = s.demand)
    (working : t.control.mode.working = s.control.mode.working)
    (run : s.control.mode ≠ .run ∨ t.control.mode = .run) : DemandSafe t := by
  have hrun : s.demand.controlling = true → t.control.mode = .run := fun hc => run.elim (absurd (h.inRun hc)) id
  exact h.of_status (by simp [demand]) (by rw [demand]; exact h.handle) (by rw [demand, working]; exact h.timer)
    (by rw [demand]; exact h.frame) (by rw [demand]; exact h.enqueued) (by rw [demand]; exact hrun)

/-- Entry to RUN from INIT or CONFIG starts the sample timer (R4). -/
theorem DemandSafe.started {s t : State} {now : Time} (h : DemandSafe s)
    (demand : t.demand = { s.demand with sampleTimer := some now }) (mode : t.control.mode = .run) : DemandSafe t :=
  h.of_status (by simp [demand]) (by rw [demand]; exact h.handle) (by rw [demand, mode]; rfl)
    (by rw [demand]; exact h.frame) (by rw [demand]; exact h.enqueued) (fun _ => mode)

/-- Entry to SAFE ends controlling and lets the sample timer run on (R6). -/
theorem DemandSafe.toSafe {s t : State} (h : DemandSafe s) (works : s.control.mode.working = true)
    (demand : t.demand = s.demand.endControlling) (mode : t.control.mode = .safe) : DemandSafe t :=
  h.of_status (by simp [demand, DemandUnit.endControlling]) (by rw [demand]; exact h.handle)
    (by rw [demand, mode]; exact h.timer.trans works) (by rw [demand]; rfl) (by rw [demand]; rfl)
    (fun hc => by rw [demand] at hc; cases hc)

/-- A released device (R20). -/
theorem DemandSafe.ofReset {t : State} (demand : t.demand = DemandUnit.reset) (mode : t.control.mode = .init) :
    DemandSafe t := by
  constructor <;> simp [demand, mode, DemandUnit.reset, Mode.working]

theorem DemandSafe.enterSafe {s : State} (h : DemandSafe s) (works : s.control.mode.working = true) :
    DemandSafe (enterSafe s) := h.toSafe works (by simp) (by simp)

theorem DemandSafe.powerFail {s : State} (h : DemandSafe s) (works : s.control.mode.working = true) :
    DemandSafe (powerFail s) := h.toSafe works (by simp) (by simp)

/-- A warning that stands at an entry to RUN leads on to SAFE (R185). -/
theorem DemandSafe.warningAtEntry {s : State} (h : DemandSafe s) (works : s.control.mode.working = true) :
    DemandSafe (warningAtEntry s) := by
  unfold Machine.warningAtEntry
  split
  · exact DemandSafe.powerFail (h.congr (by simp) (by simp)) (by simpa using works)
  · exact h

/-- Entry to RUN, from INIT or CONFIG with all timers started, or back from SAFE (R185, R187). -/
theorem DemandSafe.enterRun {s : State} (h : DemandSafe s) {fresh : Bool}
    (kind : fresh = true ∨ s.control.mode = .safe) : DemandSafe (enterRun fresh s) := by
  have hrun : DemandSafe (if fresh = true then startWork (changeMode .run s) else changeMode .run s) := by
    split
    · exact h.started (now := s.now) (by simp [startWork, State.now]) (by simp)
    · rename_i hf
      have hsafe := kind.resolve_left hf
      exact h.changedMode (by simp) (by simp [hsafe, Mode.working]) (.inl (by simp [hsafe]))
  have hmode : (if fresh = true then startWork (changeMode .run s) else changeMode .run s).control.mode = .run := by
    split <;> simp
  exact DemandSafe.warningAtEntry (hrun.congr (by simp) (by simp)) (by simp [hmode, Mode.working])

/-! ### The commands that change the mode -/

theorem DemandSafe.warningAsserted {s : State} (h : DemandSafe s) : DemandSafe (warningAssertedEffect s) := by
  have hs : DemandSafe (s.setControl { s.control with warning := true, releaseTimer := none }) := h.congr rfl rfl
  unfold warningAssertedEffect
  simp only []
  split
  · rename_i hm; exact hs.powerFail (by rw [hm]; rfl)
  · exact hs

theorem DemandSafe.recheck {s : State} (h : DemandSafe s) : DemandSafe (recheckEffect s) := by
  unfold recheckEffect
  simp only []
  repeat' split
  · exact h.congr rfl rfl
  · rename_i hm
    exact DemandSafe.enterSafe (h.congr rfl rfl) (by rw [hm]; rfl)
  · exact h.congr rfl rfl
  · exact h

theorem DemandSafe.releaseTimer {s : State} (h : DemandSafe s) : DemandSafe (releaseTimerEffect s) := by
  have hs : DemandSafe (s.setControl { s.control with releaseTimer := none }) := h.congr rfl rfl
  unfold releaseTimerEffect
  simp only []
  split
  · rename_i hm
    split
    · exact hs
    · split
      · exact hs.enterRun (.inr hm.1)
      · exact hs.congr rfl rfl
  · exact h

/-- The state at the end of INIT's steps, before the device enters RUN or CONFIG (R151, R165, R183). -/
def State.settled (cut : MarkReading) (s : State) : State :=
  let s := settleRecord (s.setStore (s.store.scanDone cut))
  beginCommit (s.setRecorder s.recorder.settleKept)

theorem scanEndEffect_eq (cut : MarkReading) (s : State) : scanEndEffect cut s =
    if s.control.mode = .init ∧ s.store.op = .scan then
      (if (s.settled cut).control.active.isSome then enterRun true (s.settled cut) else changeMode .config (s.settled cut))
    else s := rfl

theorem settleRecord_mode (s : State) : (settleRecord s).control.mode = s.control.mode := by
  unfold settleRecord; repeat' split
  all_goals rfl

theorem DemandSafe.scanEnd {s : State} (h : DemandSafe s) (cut : MarkReading) : DemandSafe (scanEndEffect cut s) := by
  have hmode : (s.settled cut).control.mode = s.control.mode := by simp [State.settled, settleRecord_mode]
  have hs : DemandSafe (s.settled cut) := h.congr (by simp [State.settled]) hmode
  rw [scanEndEffect_eq]
  split
  · rename_i hinit
    rw [hinit.1] at hmode
    split
    · exact hs.enterRun (.inl rfl)
    · exact hs.changedMode (by simp) (by simp [hmode, Mode.working]) (.inl (by simp [hmode]))
  · exact h

theorem DemandSafe.answerStart {s : State} (h : DemandSafe s) : DemandSafe (answerStart s) := by
  unfold Machine.answerStart
  split
  · rename_i l _ _
    have hs : DemandSafe (activate l s) := h.congr (by simp) (by simp [activate])
    exact DemandSafe.congr (hs.enterRun (fresh := true) (.inl rfl)) (by simp) (by simp)
  · exact h.congr (by simp) (by simp)

theorem DemandSafe.start {s : State} (h : DemandSafe s) (params : List Byte) : DemandSafe (startEffect params s) := by
  unfold startEffect takeCommand withLength
  split
  · split
    · exact DemandSafe.answerStart (h.congr rfl rfl)
    · exact h.congr (by simp) (by simp)
  · exact h

theorem DemandSafe.resetReleased {s : State} (h : DemandSafe s) (powerOn : Bool) (levels : ReleaseLevels) :
    DemandSafe (resetReleased powerOn levels s) := by
  unfold Machine.resetReleased
  repeat' split
  · exact h
  · exact .ofReset rfl rfl
  · exact .ofReset rfl rfl

theorem loadConfigEffect_mode (params : List Byte) (s : State) :
    (loadConfigEffect params s).control.mode = s.control.mode := by
  simp only [loadConfigEffect, takeCommand, withLength, answerLoadConfig, loadRecord]
  repeat' split
  all_goals simp

theorem takeCommand_unknown (code : Byte) (params : List Byte) (s : State) :
    (takeCommand code params (refuse .unknown) s).demand = s.demand ∧
    (takeCommand code params (refuse .unknown) s).control = s.control := by
  unfold takeCommand; split <;> simp

/-- An unknown code leaves the Demand Unit and the mode, and a code that is known has its command's effect (R171). -/
theorem DemandSafe.unknownCommand {s : State} (h : DemandSafe s) (code : Byte) (params : List Byte) :
    DemandSafe (unknownCommandEffect code params s) := by
  unfold unknownCommandEffect
  split
  case h_3 => exact h.congr (by simp) (loadConfigEffect_mode params s)
  case h_4 => exact h.start params
  case h_13 =>
    obtain ⟨hd, hc⟩ := takeCommand_unknown code params s
    exact h.congr hd (by rw [hc])
  all_goals exact h.congr (by simp) (by simp)

/-! ### All commands -/

/-- The commands that may change the Demand Unit or the mode. -/
def movesDemand : Instr → Bool
  | .powerOnResetRelease _ _ => true
  | .hardResetRelease _ _ => true
  | .scanEnd _ _ => true
  | .powerFailWarningAsserted _ => true
  | .releaseTimerExpiry _ => true
  | .configurationRecheck _ => true
  | .demandSample _ _ _ _ _ => true
  | .demandFrameTimerExpiry _ => true
  | .unknownCommand _ _ _ => true
  | .start _ _ => true
  | _ => false

/-- Every other command leaves both. -/
theorem effectOf_keeps_demand {c : Instr} (hc : movesDemand c = false) (s : State) :
    (effectOf c s).demand = s.demand ∧ (effectOf c s).control.mode = s.control.mode := by
  cases c
  case loadConfig => exact ⟨by simp [effectOf], loadConfigEffect_mode _ s⟩
  case resetAsserted => exact ⟨by simp [effectOf], rfl⟩
  all_goals first | (cases hc; done) | simp [effectOf, warningDeassertedEffect]

theorem DemandSafe.effectOf {s : State} (h : DemandSafe s) (c : Instr) : DemandSafe (effectOf c s) := by
  cases hc : movesDemand c with
  | false => exact h.congr (effectOf_keeps_demand hc s).1 (effectOf_keeps_demand hc s).2
  | true =>
    cases c with
    | powerOnResetRelease dt levels =>
      have hs : DemandSafe (s.setPins { s.pins with powerOnReset := false }) := h.congr rfl rfl
      exact hs.resetReleased true levels
    | hardResetRelease dt levels =>
      have hs : DemandSafe (s.setPins { s.pins with hardReset := false }) := h.congr rfl rfl
      exact hs.resetReleased false levels
    | scanEnd dt cut => exact h.scanEnd cut
    | powerFailWarningAsserted dt => exact h.warningAsserted
    | releaseTimerExpiry dt => exact h.releaseTimer
    | configurationRecheck dt => exact h.recheck
    | demandSample dt raw cab he tl => exact h.demandSample raw cab he tl
    | demandFrameTimerExpiry dt => exact h.demandFrame
    | unknownCommand dt code params => exact h.unknownCommand code params
    | start dt params => exact h.start params
    | _ => cases hc

theorem DemandSafe.advance {s : State} (h : DemandSafe s) (dt : Passage) : DemandSafe (s.advance dt) :=
  h.congr (by simp) (by simp)

/-- Settles O6: a step is a passage and at most one command's effect, and both keep the relations. -/
theorem demandUnitStaysConsistent : Obligations.DemandUnitStaysConsistent := by
  unfold Obligations.DemandUnitStaysConsistent
  intro s t hs hstep
  have h := hs.demand
  unfold step at hstep
  split at hstep
  · cases hstep; exact h.advance _
  · rename_i c rest _
    have hrest : DemandSafe (s.setPending rest) := h.congr rfl rfl
    rcases exec_cases hstep with ⟨rfl, -⟩ | ⟨rfl, -⟩
    · exact (hrest.advance _).effectOf _
    · exact hrest.advance _

end Sys2Proof.Machine
end

section
/-!
PROOFS. The reset state (O3) and the releases of a reset (O17).
-/

namespace Sys2Proof.Machine

open Sys2Proof

/-! ### The reset state, block by block -/

theorem modeSafe_reset : ModeSafe State.reset := by
  constructor <;> simp [State.reset, ModeController.reset, Mode.working]

theorem axleSafe_reset : AxleSafe Axle.reset := by
  constructor <;> simp [Axle.reset]

theorem speedSafe_reset : SpeedSafe State.reset := by
  refine ⟨rfl, fun a ha => ?_, Nat.zero_le _, rfl⟩
  rw [List.eq_of_mem_replicate ha]
  exact axleSafe_reset

theorem truckSafe_reset (limit : Nat) : TruckSafe limit Truck.reset := by
  constructor <;> simp [Truck.reset]

theorem slideSafe_reset : SlideSafe State.reset :=
  ⟨truckSafe_reset _, truckSafe_reset _, rfl, rfl, fun _ => ⟨rfl, rfl⟩⟩

theorem truckOutputSafe_reset : TruckOutputSafe TruckOutput.reset := by
  constructor <;> simp [TruckOutput.reset]

theorem outputSafe_reset : OutputSafe State.reset := by
  constructor
  case truck1 => exact truckOutputSafe_reset
  case truck2 => exact truckOutputSafe_reset
  all_goals simp [State.reset, OutputStage.reset, BlendUnit.reset, ModeController.reset, Mode.working]

theorem lineSafe_reset : LineSafe State.reset := by
  constructor <;> simp [State.reset, LineController.reset, TxQueue.empty, ModeController.reset, Mode.working]

theorem entrySafe_reset : EntrySafe Entry.reset := by
  constructor <;> simp [Entry.reset]

/-- Every entry of the reset roster is ABSENT (R131). -/
theorem reset_entry? {n : Nat} {e : Entry} (h : State.reset.roster.entry? n = some e) : e = Entry.reset :=
  List.eq_of_mem_replicate (Roster.entry?_bound h).2.2

theorem rosterSafe_reset : RosterSafe State.reset := by
  constructor
  case entries => rfl
  case each =>
    intro e he
    rw [List.eq_of_mem_replicate he]
    exact entrySafe_reset
  case own =>
    intro e he
    rw [reset_entry? he]
    exact ⟨rfl, rfl, rfl⟩
  case peers =>
    intro n e _ he
    rw [reset_entry? he]
    simp [Entry.reset]
  case unheard => simp [State.reset, Roster.reset]
  case duplicate => rfl

theorem recorderSafe_reset : RecorderSafe State.reset := by
  constructor <;> simp [State.reset, Recorder.reset, ModeController.reset, Mode.working]

theorem slotSafe_blank : SlotSafe Slot.blank := by
  constructor <;> simp [Slot.blank]

/-- The reset state is in INIT, so what holds of a started device is not asked of it. -/
theorem not_started_reset : ¬ State.reset.started := fun h => h.2 rfl

theorem storeSafe_reset : StoreSafe State.reset := by
  constructor
  case slots => rfl
  case each =>
    intro x hx
    rw [List.eq_of_mem_replicate hx]
    exact slotSafe_blank
  case locked => decide
  case marks => exact fun h => absurd h not_started_reset
  case working => exact fun h => absurd h not_started_reset
  all_goals simp [State.reset, Store.reset, ModeController.reset, Operation.slotState]

theorem commitSafe_reset : CommitSafe State.reset := by
  constructor
  case commit => exact fun h => absurd h not_started_reset
  case expected => exact fun h => absurd h not_started_reset
  all_goals simp [State.reset, Store.reset, Recorder.reset]

theorem portSafe_reset : PortSafe State.reset := by
  constructor <;> simp [State.reset, ServicePort.reset]

theorem safe_reset : Safe State.reset where
  mode := modeSafe_reset
  demand := .ofReset rfl rfl
  speed := speedSafe_reset
  slide := slideSafe_reset
  output := outputSafe_reset
  line := lineSafe_reset
  roster := rosterSafe_reset
  recorder := recorderSafe_reset
  store := storeSafe_reset
  commit := commitSafe_reset
  port := portSafe_reset

/-! ### Releases -/

/-- Either release gives every block its reset values (R190). -/
theorem releasedTo_powerOnRelease (levels : ReleaseLevels) (s : State) : ReleasedTo levels s (powerOnRelease levels s) := by
  constructor <;> and_intros <;> rfl

theorem releasedTo_hardRelease (levels : ReleaseLevels) (s : State) : ReleasedTo levels s (hardRelease levels s) := by
  constructor <;> and_intros <;> rfl

/-- Of the state before a release, the values given rest on the slots alone. -/
theorem ReleasedTo.of_slots {levels : ReleaseLevels} {s u t : State} (h : ReleasedTo levels u t)
    (slots : u.store.slots = s.store.slots) : ReleasedTo levels s t :=
  ⟨h.clock, h.demand, h.blend, h.speed, h.slide, h.output, h.line, h.roster, slots ▸ h.store, h.port, h.mode, h.rings⟩

/-- A release leaves the two reset inputs as they are. -/
theorem powerOnRelease_heldInReset (levels : ReleaseLevels) (s : State) :
    (powerOnRelease levels s).heldInReset = s.heldInReset := rfl

theorem hardRelease_heldInReset (levels : ReleaseLevels) (s : State) :
    (hardRelease levels s).heldInReset = s.heldInReset := rfl

/-- What a release comes to: nothing while the other input stays asserted, else the end of a power-on reset when power-on reset
was among the overlapping assertions, and of a hard reset when it was not (R182). -/
theorem resetReleased_cases (powerOn : Bool) (levels : ReleaseLevels) (s : State) :
    (s.heldInReset = true → resetReleased powerOn levels s = s) ∧
    (s.heldInReset = false → (powerOn = true ∨ s.control.powerOnDue = true) →
      resetReleased powerOn levels s = powerOnRelease levels s) ∧
    (s.heldInReset = false → powerOn = false → s.control.powerOnDue = false →
      resetReleased powerOn levels s = hardRelease levels s) := by
  unfold resetReleased
  refine ⟨fun h => by simp [h], fun h hp => ?_, fun h hp hd => by simp [h, hp, hd]⟩
  rcases hp with hp | hp <;> simp [h, hp]

/-- Settles O3: the invariants block by block, and the reset tables as they stand in the model. -/
theorem resetIsSafe : Obligations.ResetIsSafe := by
  unfold Obligations.ResetIsSafe
  refine ⟨safe_reset, ?_⟩
  rintro s rfl
  refine ⟨rfl, rfl, rfl, rfl, rfl, rfl, rfl, rfl, rfl, rfl, rfl, rfl, rfl, rfl, fun x hx => ?_, rfl, rfl⟩
  rw [List.eq_of_mem_replicate hx]
  exact ⟨rfl, rfl, rfl⟩

/-- Settles O17: `resetReleased_cases` says which release it is, and both give the values of `ReleasedTo`. -/
theorem releaseEndsTheReset : Obligations.ReleaseEndsTheReset := by
  unfold Obligations.ReleaseEndsTheReset
  intro dt levels s
  -- the states in which the two commands find the device, with their own input no longer asserted
  let u := (s.advance dt).setPins { s.pins with powerOnReset := false }
  let v := (s.advance dt).setPins { s.pins with hardReset := false }
  have hu : exec (.powerOnResetRelease dt levels) s = .next (resetReleased true levels u) := rfl
  have hv : exec (.hardResetRelease dt levels) s = .next (resetReleased false levels v) := rfl
  have hheldu : u.heldInReset = s.pins.hardReset := rfl
  have hheldv : v.heldInReset = s.pins.powerOnReset := Bool.or_false _
  obtain ⟨hukeeps, hupower, -⟩ := resetReleased_cases true levels u
  obtain ⟨hvkeeps, hvpower, hvhard⟩ := resetReleased_cases false levels v
  rw [hheldu] at hukeeps hupower
  rw [hheldv] at hvkeeps hvpower hvhard
  refine ⟨?powerOn, fun hfree hdue => ?hard, fun h => by rw [hu, hukeeps h], fun h => by rw [hv, hvkeeps h]⟩
  case powerOn =>
    rintro c (⟨rfl, hfree⟩ | ⟨rfl, hfree, hdue⟩)
    · rw [hu, hupower hfree (.inl rfl)]
      exact ⟨_, rfl, (powerOnRelease_heldInReset levels u).trans (hheldu.trans hfree),
        (releasedTo_powerOnRelease levels u).of_slots rfl, rfl, rfl, rfl, rfl, rfl⟩
    · rw [hv, hvpower hfree (.inr hdue)]
      exact ⟨_, rfl, (powerOnRelease_heldInReset levels v).trans (hheldv.trans hfree),
        (releasedTo_powerOnRelease levels v).of_slots rfl, rfl, rfl, rfl, rfl, rfl⟩
  case hard =>
    rw [hv, hvhard hfree rfl hdue]
    exact ⟨_, rfl, (hardRelease_heldInReset levels v).trans (hheldv.trans hfree),
      (releasedTo_hardRelease levels v).of_slots rfl, rfl, rfl, rfl, rfl, rfl⟩

end Sys2Proof.Machine
end

section
/-!
PROOFS. The entry to SAFE (R6, R21, R82, R92, R94, R113, R125, R186): every block's SAFE state, and the NOTICEs returned as not
sent. On it rest the power-fail warning (O24) and the recheck (O26).
-/

namespace Sys2Proof.Machine

open Sys2Proof

/-! ### The line -/

/-- The frame on air survives entry to SAFE when it is a REPORT (R113). -/
theorem LineController.toSafe_eq (l : LineController) : l.toSafe = { l with
    queue := ⟨[], none, l.queue.report⟩
    onAir := l.onAir.filter fun f => f.content.kind == .report
    attempts := if l.onAir.all (fun f => f.content.kind == .report) then l.attempts else 0 } := by
  unfold LineController.toSafe
  cases hair : l.onAir with
  | none => simp [LineController.withQueue, hair]
  | some f =>
    obtain ⟨content, seq, phase⟩ := f
    cases content <;> simp [LineController.withQueue, hair, FrameContent.kind, Option.filter]

theorem mem_noticesTaken {l : LineController} {c : NoticeContent} : c ∈ l.noticesTaken ↔
    c ∈ l.queue.notices ∨ ∃ seq phase, l.onAir = some ⟨.notice c, seq, phase⟩ := by
  unfold LineController.noticesTaken
  cases hair : l.onAir with
  | none => simp
  | some f =>
    obtain ⟨content, seq, phase⟩ := f
    cases content <;> simp [eq_comm]

/-! ### NOTICEs returned as not sent -/

/-- Whether one of the NOTICEs bears the image's number. -/
def Image.bornBy (cs : List NoticeContent) (img : Image) : Bool := cs.any fun c => c.number == img.number

/-- The image when all of the NOTICEs have been returned as not sent (R140). -/
def Image.returned (cs : List NoticeContent) (img : Image) : Image :=
  { img with flags := { img.flags with noticeNotSent := img.flags.noticeNotSent || img.bornBy cs } }

theorem Image.returned_nil (img : Image) : img.returned [] = img := by
  simp [Image.returned, Image.bornBy]

theorem Image.returned_cons (c : NoticeContent) (cs : List NoticeContent) (img : Image) :
    img.returned (c :: cs) = (img.returned [c]).returned cs := by
  simp [Image.returned, Image.bornBy, Bool.or_assoc]

theorem recorder_noticeReturned_eq (c : NoticeContent) (r : Recorder) :
    r.noticeReturned c.number = { r with image := r.image.map (Image.returned [c]) } := by
  have hone : (fun img : Image => if img.number = c.number then
      { img with flags := { img.flags with noticeNotSent := true } } else img) = Image.returned [c] := by
    funext img
    by_cases h : img.number = c.number
    · simp [h, Image.returned, Image.bornBy]
    · have hne : (c.number == img.number) = false := by simpa using Ne.symm h
      simp [h, hne, Image.returned, Image.bornBy]
  rw [Recorder.noticeReturned, hone]

theorem foldl_recorder_noticeReturned (cs : List NoticeContent) (r : Recorder) :
    cs.foldl (fun r c => r.noticeReturned c.number) r = { r with image := r.image.map (Image.returned cs) } := by
  induction cs generalizing r with
  | nil => rw [show Image.returned [] = id from funext Image.returned_nil, Option.map_id]; rfl
  | cons c cs ih =>
    rw [List.foldl_cons, ih, recorder_noticeReturned_eq, Option.map_map]
    rw [show Image.returned (c :: cs) = Image.returned cs ∘ Image.returned [c] from funext (Image.returned_cons c cs)]

theorem lineToSafe_recorder (s : State) : (lineToSafe s).recorder =
    { s.recorder with image := s.recorder.image.map (Image.returned s.line.noticesTaken) } := by
  have hfold : ∀ (cs : List NoticeContent) (u : State), (cs.foldl (fun t c => noticeReturned c.number t) u).recorder =
      cs.foldl (fun r c => r.noticeReturned c.number) u.recorder := by
    intro cs
    induction cs with
    | nil => exact fun u => rfl
    | cons c cs ih => exact fun u => ih _
  rw [lineToSafe, hfold, foldl_recorder_noticeReturned]
  rfl

theorem enterSafe_recorder (s : State) : (enterSafe s).recorder =
    { s.recorder.log ⟨s.now, .mode s.control.mode .safe⟩ with
      image := (s.recorder.log ⟨s.now, .mode s.control.mode .safe⟩).image.map (Image.returned s.line.noticesTaken) } := by
  rw [enterSafe, lineToSafe_recorder]
  simp

/-- A NOTICE that entry to SAFE takes bears the image's number when one in the queue or the one on air does (R113, R140). -/
theorem bornBy_noticesTaken_iff {l : LineController} {img : Image} : img.bornBy l.noticesTaken = true ↔
    (∃ c ∈ l.queue.notices, c.number = img.number) ∨
      ∃ c seq phase, l.onAir = some ⟨.notice c, seq, phase⟩ ∧ c.number = img.number := by
  simp only [Image.bornBy, List.any_eq_true, beq_iff_eq, mem_noticesTaken]
  constructor
  · rintro ⟨c, hc | ⟨seq, phase, hair⟩, hn⟩
    · exact .inl ⟨c, hc, hn⟩
    · exact .inr ⟨c, seq, phase, hair, hn⟩
  · rintro (⟨c, hc, hn⟩ | ⟨c, seq, phase, hair, hn⟩)
    · exact ⟨c, .inl hc, hn⟩
    · exact ⟨c, .inr ⟨seq, phase, hair⟩, hn⟩

/-! ### The roster -/

theorem enterSafe_roster (s : State) :
    (enterSafe s).roster = { (ownToSafe s).roster with unheardSince := none } := by
  have hown : ∀ u : State, u.roster = s.roster → u.control.station = s.control.station →
      (ownToSafe u).roster = (ownToSafe s).roster := by
    intro u hr hc
    unfold ownToSafe
    rw [hr, hc]
    split <;> simp [hr]
  rw [enterSafe, (lineToSafe_frame _).2.2.2.2.2.2.2.2.1, blocksToSafe]
  simp [hown]

/-- Of the roster, the own entry alone changes at entry to SAFE (R21). -/
theorem ownToSafe_roster {s : State} (h1 : 1 ≤ s.control.station) (h2 : s.control.station ≤ s.roster.entries.length) :
    (ownToSafe s).roster = { s.roster with entries := (ownToSafe s).roster.entries } ∧
    (∀ n, n ≠ s.control.station → (ownToSafe s).roster.entry? n = s.roster.entry? n) ∧
    ∀ e, s.roster.entry? s.control.station = some e → (ownToSafe s).roster.entry? s.control.station = some e.toSafe := by
  obtain ⟨e, he⟩ := Roster.exists_entry h1 h2
  have heq : (ownToSafe s).roster = s.roster.setEntry s.control.station e.toSafe := by simp [ownToSafe, he]
  rw [heq]
  refine ⟨rfl, fun n hn => Roster.setEntry_entry?_other h1 hn, fun x hx => ?_⟩
  obtain rfl : e = x := Option.some.inj (he.symm.trans hx)
  exact Roster.setEntry_entry?_same h1 h2

/-! ### All blocks -/

/-- `t` is `s` after the passage `dt` and an entry to SAFE, but for the Mode Controller, the Recorder and the Store
Controller. -/
structure BlocksSafe (dt : Passage) (s t : State) : Prop where
  demand : t.demand = { s.demand with controlling := false, lastEnqueued := none, frameTimer := none }
  blend : t.blend = ⟨none, s.blend.mode, 0, 0, 0, 0, 0, 0, none, false⟩
  slide : t.slide = ⟨⟨.normal, 50, .apply, 0, none⟩, ⟨.normal, 50, .apply, 0, none⟩, s.slide.lockoutSeen⟩
  output : t.output = { s.output with
    valid := false, dReq := 0, pReq := 0
    truck1 := { s.output.truck1 with drive := .apply, mismatchSince := none, mismatchOpen := false }
    truck2 := { s.output.truck2 with drive := .apply, mismatchSince := none, mismatchOpen := false } }
  line : t.line = { (s.advance dt).line with
    queue := ⟨[], none, s.line.queue.report⟩, onAir := s.line.onAir.filter (fun f => f.content.kind == .report)
    attempts := if s.line.onAir.all (fun f => f.content.kind == .report) then s.line.attempts else 0 }
  roster : t.roster = { s.roster with unheardSince := none, entries := t.roster.entries }
  peers : ∀ n, n ≠ s.control.station → t.roster.entry? n = s.roster.entry? n
  own : ∀ e, s.roster.entry? s.control.station = some e → t.roster.entry? s.control.station =
    some { e with held := e.held.map fun p => { p with participation := 3, a := 0 } }
  speed : t.speed = s.speed
  port : t.port = (s.advance dt).port
  pins : t.pins = s.pins
  clock : t.clock = (s.advance dt).clock

theorem blocksSafe_enterSafe (dt : Passage) {s : State} {c : ModeController} (hc : c.station = s.control.station)
    (h1 : 1 ≤ s.control.station) (h2 : s.control.station ≤ s.roster.entries.length) :
    BlocksSafe dt s (enterSafe ((s.advance dt).setControl c)) := by
  obtain ⟨hroster, hpeers, hown⟩ := ownToSafe_roster (s := (s.advance dt).setControl c) (hc.symm ▸ h1) (hc.symm ▸ h2)
  simp only [State.setControl_control, State.setControl_roster, advance_frame, hc] at hroster hpeers hown
  constructor
  case demand => rw [enterSafe_demand]; rfl
  case blend => rw [enterSafe_blend]; rfl
  case slide => rw [enterSafe_slide]; rfl
  case output => rw [enterSafe_output]; rfl
  case line => rw [enterSafe_line, LineController.toSafe_eq]; simp
  case roster => rw [enterSafe_roster, hroster]
  case peers => rw [enterSafe_roster]; exact hpeers
  case own => rw [enterSafe_roster]; exact hown
  all_goals simp

/-! ### The image -/

theorem advance_noticesTaken (dt : Passage) (s : State) : (s.advance dt).line.noticesTaken = s.line.noticesTaken := by
  simp [LineController.noticesTaken]

/-- The image of an entry to SAFE: the MODE event is offered while FILLING, then the NOTICEs taken are returned (R113, R142). -/
theorem enterSafe_image (dt : Passage) {s : State} {c : ModeController} {img : Image} (h : s.recorder.image = some img) :
    (enterSafe ((s.advance dt).setControl c)).recorder.image = some (Image.returned s.line.noticesTaken
      (if s.recorder.capture = .filling then img.offer ⟨(s.advance dt).now, .mode c.mode .safe⟩ else img)) := by
  rw [enterSafe_recorder, State.setControl_line, advance_noticesTaken]
  simp only [Recorder.log, State.setControl_recorder, State.setControl_control, State.setControl_now, advance_frame, h]
  split <;> rfl

/-- An offered event and returned NOTICEs change the events and two flags (R140, R142). -/
theorem returned_offer_eq (cs : List NoticeContent) (e : Event) (img : Image) {filling full : Bool}
    (hfull : full = decide (48 ≤ img.events.length)) :
    Image.returned cs (if filling = true then img.offer e else img) = { img with
      events := if filling && !full then img.events ++ [e] else img.events
      flags := { img.flags with
        noticeNotSent := img.flags.noticeNotSent || img.bornBy cs
        eventsTruncated := img.flags.eventsTruncated || (filling && full) } } := by
  cases filling with
  | false => simp [Image.returned]
  | true =>
    by_cases hl : img.events.length < 48
    · simp [Image.returned, Image.offer, Image.bornBy, hfull, hl]
    · simp [Image.returned, Image.offer, Image.bornBy, hfull, hl, Nat.le_of_not_lt hl]

theorem enterSafe_no_image {s : State} (h : s.recorder.image = none) : (enterSafe s).recorder.image = none := by
  rw [enterSafe_recorder]
  simp [Recorder.log, h]

/-! ### The recheck -/

/-- A recheck that is due sets the timer's next expiry, and after a mismatch recheck failed; in RUN it enters SAFE (R188). -/
theorem recheckEffect_due {s : State} {c : ModeController} (due : timerDue s.control.recheckTimer 1000 s.now = true)
    (hc : c = { s.control with recheckTimer := timerNext s.control.recheckTimer 1000 }) :
    (s.recordChecks = true → recheckEffect s = s.setControl c) ∧
    (s.recordChecks = false → s.control.mode ≠ .run → recheckEffect s = s.setControl { c with recheckFailed := true }) ∧
    (s.recordChecks = false → s.control.mode = .run →
      recheckEffect s = enterSafe (s.setControl { c with recheckFailed := true })) := by
  subst hc
  have hsame : (s.setControl { s.control with recheckTimer := timerNext s.control.recheckTimer 1000 }).recordChecks =
      s.recordChecks := rfl
  unfold recheckEffect
  simp only [due, hsame, if_true]
  refine ⟨fun h => by simp [h], fun h hm => by simp [h, hm], fun h hm => by simp [h, hm]⟩

theorem recordChecks_eq {s : State} {r : ConfigRecord} (h : s.control.active = some r) :
    s.recordChecks = decide (checkValue r.bytes = r.check) := by
  rw [State.recordChecks, h]; rfl

/-- Settles O26: the recheck's mismatch enters SAFE, and no source is raised. -/
theorem recheckGuardsTheRecord : Obligations.RecheckGuardsTheRecord := by
  unfold Obligations.RecheckGuardsTheRecord
  rintro dt s r ha hr due next rfl
  have hexec : exec (.configurationRecheck dt) s = .next (recheckEffect (s.advance dt)) := exec_accepted ha
  have hchecks := recordChecks_eq (s := s.advance dt) hr
  obtain ⟨hmatch, hsafe, hrun⟩ := recheckEffect_due (s := s.advance dt) due rfl
  rw [hchecks, decide_eq_true_eq] at hmatch
  rw [hchecks, decide_eq_false_iff_not] at hsafe hrun
  rw [hexec]
  refine ⟨fun h => congrArg _ (hmatch h), fun h hm => congrArg _ (hsafe h hm), fun h hm hl h1 h8 => ?_⟩
  have heffect : recheckEffect (s.advance dt) = enterSafe ((s.advance dt).setControl { s.control with
    recheckTimer := timerNext s.control.recheckTimer 1000, recheckFailed := true }) := hrun h hm
  refine ⟨_, congrArg _ heffect, ?_⟩
  have hb := blocksSafe_enterSafe dt (s := s) (c := { s.control with
    recheckTimer := timerNext s.control.recheckTimer 1000, recheckFailed := true }) rfl h1 (by omega)
  have hnow := now_congr hb.clock
  have hcontrol := enterSafe_control ((s.advance dt).setControl { s.control with
    recheckTimer := timerNext s.control.recheckTimer 1000, recheckFailed := true })
  have hrecorder := enterSafe_recorder ((s.advance dt).setControl { s.control with
    recheckTimer := timerNext s.control.recheckTimer 1000, recheckFailed := true })
  refine ⟨hcontrol, hb.demand, hb.blend, hb.slide, hb.output, hb.line, hb.roster, hb.peers, hb.own, ?recorder,
    fun h => enterSafe_no_image h, fun img himg returned filling full hret hfill hfull => ?image, by simp, hb.speed, hb.port,
    hb.pins, hb.clock⟩
  case recorder =>
    rw [hnow, hrecorder]
    simp [Recorder.log, hm]
  case image =>
    have hborn : img.bornBy s.line.noticesTaken = returned := by
      rw [Bool.eq_iff_iff, hret, bornBy_noticesTaken_iff]
    rw [hnow, enterSafe_image dt himg, ← hborn, ← returned_offer_eq _ _ img hfull, hfill, hm]
    simp

end Sys2Proof.Machine
end

section
/-!
PROOFS. The power-fail warning in RUN (R144, R146, R147, R186): what the firing of POWER does outside RUN, by the capture state.
-/

namespace Sys2Proof.Machine

open Sys2Proof

/-! ### The image -/

/-- `img'` is the image `img` later on. Nothing that an opening fixes has changed, and its NOTICE has become not sent if it was
`unsent` (R139, R140). -/
structure Image.Continues (img img' : Image) (unsent : Prop) : Prop where
  number : img'.number = img.number
  cause : img'.cause = img.cause
  pre : img'.pre = img.pre
  post : img'.post = img.post
  notSent : img'.flags.noticeNotSent = true ↔ img.flags.noticeNotSent = true ∨ unsent

theorem Image.Continues.trans {img img' img'' : Image} {p q : Prop} (h : img.Continues img' p) (k : img'.Continues img'' q) :
    img.Continues img'' (p ∨ q) where
  number := k.number.trans h.number
  cause := k.cause.trans h.cause
  pre := k.pre.trans h.pre
  post := k.post.trans h.post
  notSent := by rw [k.notSent, h.notSent, or_assoc]

theorem Image.Continues.congr {img img' : Image} {p q : Prop} (h : img.Continues img' p) (hpq : p ↔ q) :
    img.Continues img' q := propext hpq ▸ h

/-- An event offered to the image changes its events, and at most the flag for truncated events (R142). -/
@[simp] theorem Image.offer_fields (e : Event) (img : Image) :
    (img.offer e).number = img.number ∧ (img.offer e).cause = img.cause ∧ (img.offer e).pre = img.pre ∧
    (img.offer e).post = img.post ∧ (img.offer e).noticeEnqueued = img.noticeEnqueued ∧
    (img.offer e).flags.noticeNotSent = img.flags.noticeNotSent := by
  unfold Image.offer; split <;> simp

/-- Whether an image of class SEVERE has its NOTICE still to be enqueued (R140). -/
def Image.owesNotice (img : Image) : Bool := img.cause != .peerNotice && !img.noticeEnqueued

theorem Image.owesNotice_iff {img : Image} :
    img.owesNotice = true ↔ img.cause ≠ .peerNotice ∧ img.noticeEnqueued = false := by simp [Image.owesNotice]

/-- A SEVERE image whose NOTICE the Line Controller refuses: it was handed over, and comes back as not sent (R104, R140). -/
def Image.refused (img : Image) : Image := { img with
  noticeEnqueued := img.noticeEnqueued || img.owesNotice
  flags := { img.flags with noticeNotSent := img.flags.noticeNotSent || img.owesNotice } }

/-- The image after a firing of POWER while FILLING and outside RUN: the event is offered, the firing merges, the NOTICE is
refused, and POWER ends the window (R142 to R144). -/
def Image.powerFired (e : Event) (img : Image) : Image :=
  let img := ((img.offer e).merge .severe).refused
  { img with flags := { img.flags with power := true } }

theorem Image.powerFired_severe (e : Event) (img : Image) :
    (img.powerFired e).cls = .severe ∧ (img.powerFired e).flags.power = true := by
  simp [Image.powerFired, Image.refused, Image.merge, Class.max]

theorem Image.powerFired_continues (e : Event) (img : Image) : img.Continues (img.powerFired e) (img.owesNotice = true) := by
  constructor <;> simp [Image.powerFired, Image.refused, Image.merge, Image.owesNotice]

/-- Entry to SAFE leaves whether the image owes its NOTICE, and sets as not sent what was queued or on air (R113, R140). -/
theorem enterSafe_image_continues (dt : Passage) {s : State} {c : ModeController} {img : Image}
    (h : s.recorder.image = some img) : ∃ img', (enterSafe ((s.advance dt).setControl c)).recorder.image = some img' ∧
      img.Continues img' (img.bornBy s.line.noticesTaken = true) ∧ img'.owesNotice = img.owesNotice := by
  refine ⟨_, enterSafe_image dt h, ?_, ?_⟩
  · constructor <;> split <;> simp [Image.returned, Image.bornBy]
  · split <;> simp [Image.returned, Image.owesNotice]

/-! ### A firing of POWER outside RUN -/

/-- Outside RUN the Line Controller refuses every NOTICE, so the one offered comes back to the image (R104, R140). -/
theorem offerNotice_refused {s : State} {img : Image} (hm : s.control.mode ≠ .run) (himg : s.recorder.image = some img)
    (hsevere : img.cls = .severe) :
    offerNotice s = s.setRecorder { s.recorder with image := some img.refused } := by
  by_cases h : img.cause ≠ .peerNotice ∧ img.noticeEnqueued = false
  · have howes : img.owesNotice = true := Image.owesNotice_iff.2 h
    simp [offerNotice, himg, hsevere, h, enqueueNotice, hm, noticeReturned, Recorder.noticeReturned, Image.refused, howes]
  · have howes : img.owesNotice = false := by simpa using mt Image.owesNotice_iff.1 h
    have hsame : some img.refused = s.recorder.image := by simp [Image.refused, howes, himg]
    simp only [offerNotice, himg, hsevere, true_and, if_neg h]
    rw [hsame]; rfl

/-- The firing of POWER at a time (R135, R146). -/
def powerFiring (now : Time) : Pending := ⟨.power, .severe, now, none, 0, true⟩

/-- In IDLE, POWER opens an incident straight into COMMITTING (R144). -/
theorem fire_power_idle {now : Time} {s : State} (hm : s.control.mode ≠ .run) (hcap : s.recorder.capture = .idle) :
    (fire (powerFiring now) s).line = s.line ∧ (fire (powerFiring now) s).recorder = { s.recorder with
      image := some (s.openedImage (powerFiring now)).refused, lastOpened := (s.openedImage (powerFiring now)).number
      capture := .committing } := by
  have hopen : fire (powerFiring now) s = openIncident (powerFiring now) s := by simp [fire, hcap]
  rw [hopen, openIncident, offerNotice_refused (img := s.openedImage (powerFiring now)) (by simpa using hm) rfl rfl]
  simp [powerFiring]

/-- While FILLING, POWER merges into the incident and ends the window (R143, R144). -/
theorem fire_power_filling {now : Time} {s : State} {img : Image} (hm : s.control.mode ≠ .run)
    (hcap : s.recorder.capture = .filling) (himg : s.recorder.image = some img) :
    (fire (powerFiring now) s).line = s.line ∧
    (fire (powerFiring now) s).recorder.image = some (img.powerFired ⟨s.now, .secondaryTrigger .power .severe⟩) ∧
    (fire (powerFiring now) s).recorder.capture = .committing := by
  have hfire : fire (powerFiring now) s = endFillingOnPower (mergeIntoImage (powerFiring now) s) := by
    simp [fire, hcap, powerFiring]
  have hmerge : mergeIntoImage (powerFiring now) s = (logEvent (.secondaryTrigger .power .severe) s).setRecorder
      { (logEvent (.secondaryTrigger .power .severe) s).recorder with
        image := some ((img.offer ⟨s.now, .secondaryTrigger .power .severe⟩).merge .severe).refused } := by
    rw [mergeIntoImage, offerNotice_refused
      (img := (img.offer ⟨s.now, .secondaryTrigger .power .severe⟩).merge .severe)]
    · rfl
    · simpa [logEvent] using hm
    · simp [logEvent, Recorder.log, hcap, himg, powerFiring]
    · simp [Image.merge, Class.max]
  rw [hfire, endFillingOnPower, hmerge]
  simp [Image.powerFired, logEvent]

/-- In COMMITTING, POWER becomes the pending trigger or merges into it (R146, R147). -/
theorem fire_power_committing {now : Time} {s : State} (hcap : s.recorder.capture = .committing) :
    (fire (powerFiring now) s).line = s.line ∧ (fire (powerFiring now) s).recorder.image = s.recorder.image ∧
    (fire (powerFiring now) s).recorder.capture = .committing ∧
    ∃ p, (fire (powerFiring now) s).recorder.pendingTrigger = some p ∧ p.cls = .severe ∧ p.power = true := by
  have hhold : fire (powerFiring now) s = holdFiring (powerFiring now) s := by simp [fire, hcap]
  rw [hhold, holdFiring]
  cases s.recorder.pendingTrigger with
  | none => simp [powerFiring, hcap]
  | some p => simp [powerFiring, logEvent, Recorder.log, hcap, Pending.merge, Class.max]

/-- In SAFE a raising of POWER always fires, whatever the trigger table says (R136, R137). -/
theorem raise_power {s : State} (hm : s.control.mode = .safe) : raise .power s = fire (powerFiring s.now)
    (s.setRecorder { s.recorder with lastOccurrence := s.recorder.lastOccurrence.set 11 (some s.now) }) := by
  simp [raise, raiseWith, State.fires, hm, powerFiring, State.classOf, Source.codeNat]

/-- From `s` to `t` POWER has fired outside RUN: a window that was FILLING has ended, an incident was opened from IDLE, and in
COMMITTING the firing waits (R144, R146, R147). -/
structure PowerFired (s t : State) : Prop where
  line : t.line = s.line
  capture : t.recorder.capture = .committing
  opened : s.recorder.capture ≠ .committing →
    ∃ img, t.recorder.image = some img ∧ img.cls = .severe ∧ img.flags.power = true
  held : s.recorder.capture = .committing →
    ∃ p, t.recorder.pendingTrigger = some p ∧ p.cls = .severe ∧ p.power = true
  image : ∀ img, s.recorder.image = some img → ∃ img', t.recorder.image = some img' ∧
    img.Continues img' (s.recorder.capture = .filling ∧ img.owesNotice = true)

theorem powerFired_fire {now : Time} {s : State} (hm : s.control.mode ≠ .run)
    (hsome : s.recorder.image.isSome = decide (s.recorder.capture ≠ .idle)) : PowerFired s (fire (powerFiring now) s) := by
  cases hcap : s.recorder.capture with
  | idle =>
    obtain ⟨hline, hrecorder⟩ := fire_power_idle (now := now) hm hcap
    have hnone : s.recorder.image = none := by simpa [hcap] using hsome
    exact ⟨hline, by rw [hrecorder], fun _ => ⟨_, by rw [hrecorder], rfl, rfl⟩, by simp [hcap], by simp [hnone]⟩
  | filling =>
    obtain ⟨img, himg⟩ := Option.isSome_iff_exists.1 (hsome.trans (by simp [hcap]))
    obtain ⟨hline, himage, hcapture⟩ := fire_power_filling (now := now) hm hcap himg
    refine ⟨hline, hcapture, fun _ => ⟨_, himage, Image.powerFired_severe _ _⟩, by simp [hcap],
      fun x hx => ⟨_, himage, ?_⟩⟩
    obtain rfl : img = x := Option.some.inj (himg.symm.trans hx)
    exact (Image.powerFired_continues _ img).congr (by simp [hcap])
  | committing =>
    obtain ⟨hline, himage, hcapture, hpending⟩ := fire_power_committing (now := now) hcap
    refine ⟨hline, hcapture, by simp [hcap], fun _ => hpending, fun x hx => ⟨x, himage.trans hx, ?_⟩⟩
    constructor <;> simp [hcap]

theorem powerFired_raise {s : State} (hm : s.control.mode = .safe)
    (hsome : s.recorder.image.isSome = decide (s.recorder.capture ≠ .idle)) : PowerFired s (raise .power s) := by
  rw [raise_power hm]
  obtain ⟨line, capture, opened, held, image⟩ := powerFired_fire (now := s.now) (s := s.setRecorder { s.recorder with
    lastOccurrence := s.recorder.lastOccurrence.set 11 (some s.now) }) (by simp [hm]) hsome
  exact ⟨line, capture, opened, held, image⟩

/-! ### The warning -/

theorem exec_powerFailWarningAsserted (dt : Passage) {s : State} (ha : Accepts s) (hrun : s.control.mode = .run) :
    exec (.powerFailWarningAsserted dt) s =
      .next (powerFail ((s.advance dt).setControl { s.control with warning := true, releaseTimer := none })) := by
  have heffect : warningAssertedEffect (s.advance dt) =
      powerFail ((s.advance dt).setControl { s.control with warning := true, releaseTimer := none }) := by
    simp [warningAssertedEffect, hrun]
  rw [exec_accepted ha, ← heffect]; rfl

theorem lacksRecord_false {s : State} (h : ModeSafe s) : s.lacksRecord = false := by
  have hmode : (s.control.mode == .run || s.control.mode == .safe) = s.control.mode.working := by
    cases s.control.mode <;> rfl
  cases hworks : s.control.mode.working with
  | true => simp [State.lacksRecord, Option.isNone_eq_false_iff.2 (h.works hworks)]
  | false => simp [State.lacksRecord, hmode, hworks]

theorem enterSafe_image_isSome (s : State) : (enterSafe s).recorder.image.isSome = s.recorder.image.isSome := by
  rw [enterSafe_recorder]
  simp only [Recorder.log, Option.isSome_map]
  split <;> simp

theorem enterSafe_capture (s : State) : (enterSafe s).recorder.capture = s.recorder.capture := by
  rw [enterSafe_recorder]; rfl

theorem enterSafe_logged (s : State) : Logged [⟨s.now, .mode s.control.mode .safe⟩] s (enterSafe s) := by
  rw [Logged, enterSafe_recorder]; rfl

/-- After the entry to SAFE and the raising of POWER the MODE event still stands in the event ring (R134, R186). -/
theorem powerFail_logs_mode (s : State) : ⟨s.now, .mode s.control.mode .safe⟩ ∈ (powerFail s).recorder.events := by
  obtain ⟨es, hes, hraise⟩ := raise_logged .power (enterSafe s)
  have := hes.length
  exact ((enterSafe_logged s).trans hraise).mem (by simp; omega) (by simp)

theorem powerFail_occurrence {s : State} (h : s.recorder.lastOccurrence.length = 12) :
    (powerFail s).recorder.lastOccurrenceOf 12 = some s.now := by
  have hlength : (enterSafe s).recorder.lastOccurrence.length = 12 := by rw [enterSafe_recorder]; exact h
  have hnow : (enterSafe s).now = s.now := now_congr (by simp)
  rw [powerFail, raise_lastOccurrenceOf .power hlength (by decide), hnow]; rfl

theorem powerFail_history (s : State) : (powerFail s).recorder.history = s.recorder.history := by
  rw [powerFail, raise, raiseWith_history, enterSafe_recorder]; rfl

theorem BlocksSafe.raised {dt : Passage} {s t : State} (h : BlocksSafe dt s t) (c : Source) (hl : (raise c t).line = t.line) :
    BlocksSafe dt s (raise c t) := by
  obtain ⟨demand, blend, slide, output, line, roster, peers, own, speed, port, pins, clock⟩ := h
  constructor
  case line => exact hl.trans line
  all_goals simpa

/-- Settles O24: by the capture state, with the image's NOTICE followed through the entry to SAFE and the firing. -/
theorem powerFailInRunEntersSafe : Obligations.PowerFailInRunEntersSafe := by
  unfold Obligations.PowerFailInRunEntersSafe
  intro dt s hs hreleased hrun
  have haccepts : Accepts s := ⟨hreleased, lacksRecord_false hs.mode⟩
  have hexec := exec_powerFailWarningAsserted dt haccepts hrun
  have hentered := blocksSafe_enterSafe dt (s := s) (c := { s.control with warning := true, releaseTimer := none }) rfl
    hs.mode.station.1 (hs.roster.entries.symm ▸ hs.mode.station.2)
  have himage := fun img => enterSafe_image_continues dt (s := s)
    (c := { s.control with warning := true, releaseTimer := none }) (img := img)
  generalize hv : (s.advance dt).setControl { s.control with warning := true, releaseTimer := none } = v
    at hexec hentered himage
  have hcontrol : v.control = { s.control with warning := true, releaseTimer := none } := hv ▸ rfl
  have hrecorder : v.recorder = s.recorder := by simp [← hv]
  have hcapture : (enterSafe v).recorder.capture = s.recorder.capture := by rw [enterSafe_capture, hrecorder]
  have hsome : (enterSafe v).recorder.image.isSome = decide ((enterSafe v).recorder.capture ≠ .idle) := by
    rw [hcapture, enterSafe_image_isSome, hrecorder, hs.recorder.image]
  have hfired : PowerFired (enterSafe v) (powerFail v) := powerFired_raise (by simp) hsome
  have hb : BlocksSafe dt s (powerFail v) := hentered.raised .power hfired.line
  have hnow : (powerFail v).now = v.now := now_congr (by simp)
  refine ⟨_, hexec, by rw [powerFail_control, hcontrol], hb.demand, hb.blend, hb.slide, hb.output, hb.line,
    by rw [hb.roster], by rw [hb.roster], by rw [hb.roster], by rw [hb.roster], hb.peers,
    fun e p he hp => by simpa [hp] using hb.own e he, ?mode, ?occurrence, hfired.capture,
    fun h => hfired.opened (hcapture ▸ h), fun h => hfired.held (hcapture ▸ h), ?image,
    by rw [powerFail_history, hrecorder], hb.speed, hb.port, hb.pins, hb.clock⟩
  case mode =>
    have := powerFail_logs_mode v
    rwa [← hnow, hcontrol, hrun] at this
  case occurrence => rw [hnow, powerFail_occurrence (hrecorder ▸ hs.recorder.occurrences)]
  case image =>
    intro img himg returned refused hreturned hrefused
    obtain ⟨img₁, himg₁, hreturn, howes⟩ := himage img himg
    obtain ⟨img₂, himg₂, hfire⟩ := hfired.image img₁ himg₁
    obtain ⟨number, cause, pre, post, notSent⟩ := hreturn.trans hfire
    refine ⟨img₂, himg₂, number, cause, pre, post, ?_⟩
    rw [notSent, bornBy_noticesTaken_iff, ← hreturned, hcapture, howes, Image.owesNotice_iff, ← hrefused]

end Sys2Proof.Machine
end

section
/-!
PROOFS. The blend computation (R22): the results stored, the requests handed over and the shortfall watch, each as an equation
about the block it changes. On them rest the outputs' relations (O8) and the blend's own statements (O41, O43).
-/

namespace Sys2Proof.Machine

open Sys2Proof

/-! ### The requests -/

/-- The requests at a blend completion, by the emergency state (R38, R88 to R90). -/
theorem handOff_eq (p : Params) (em : EmergencyState) (dTarget air avail : Nat) (o : OutputStage) :
    o.handOff p em dTarget air avail = { o with
      dReq := dynamicRequest p.j o.dReq (if em = .clear then dTarget else 0) avail
      pReq := if em = .emergency then p.pEmer else pressureRequest p.pTake p.pMax p.rAir air } := by
  cases em <;> rfl

/-- The cut (R88). -/
theorem dynamicRequest_le (j prev target avail : Nat) : dynamicRequest j prev target avail ≤ avail :=
  Nat.min_le_right _ _

/-- A part of a range, rounded, lies within the range. -/
theorem roundDiv_mul_le {range part whole : Nat} (hw : 0 < whole) (hp : part ≤ whole) :
    roundDiv (range * part) whole ≤ range := by
  have hmul : range * part ≤ range * whole := Nat.mul_le_mul_left range hp
  rw [roundDiv, if_neg (by omega), ← Nat.lt_succ_iff, Nat.div_lt_iff_lt_mul (by omega)]
  calc 2 * (range * part) + whole < 2 * (range * whole) + 2 * whole := by omega
    _ = (range + 1) * (2 * whole) := by ring

/-- Without an air demand the pressure request is 0, and else it lies between p_take and p_max (R89). -/
theorem pressureRequest_range {pTake pMax rAir : Nat} (hr : 0 < rAir) (hp : pTake ≤ pMax) (air : Nat) :
    pressureRequest pTake pMax rAir air = 0 ∨
      pTake ≤ pressureRequest pTake pMax rAir air ∧ pressureRequest pTake pMax rAir air ≤ pMax := by
  unfold pressureRequest
  split
  · exact .inl rfl
  · have := roundDiv_mul_le (range := pMax - pTake) hr (Nat.min_le_right air rAir)
    omega

/-! ### The shortfall watch -/

/-- Whether the shortfall watch raises SHORTFALL (R42). -/
def State.shortfallOpens (s : State) : Bool := s.shortfallHolds && s.blend.shortfallRaises s.now

/-- The Blend Unit after the shortfall watch (R41, R42). -/
def State.shortfallWatched (s : State) : BlendUnit := { s.blend with
  shortfallSince := if s.shortfallHolds then some (s.blend.shortfallSince.getD s.now) else none
  shortfallOpen := s.shortfallHolds && (s.blend.shortfallOpen || s.blend.shortfallRaises s.now) }

theorem shortfallWatch_eq (s : State) : shortfallWatch s =
    if s.shortfallOpens then raise .shortfall (s.setBlend s.shortfallWatched) else s.setBlend s.shortfallWatched := by
  cases h : s.shortfallHolds <;> simp [shortfallWatch, State.shortfallOpens, State.shortfallWatched, h]

theorem shortfallWatch_blend (s : State) : (shortfallWatch s).blend = s.shortfallWatched := by
  rw [shortfallWatch_eq]; split <;> simp

/-- An open shortfall episode has its run's beginning (R41, R42). -/
theorem shortfallWatched_episode (s : State) (h : s.shortfallWatched.shortfallOpen = true) :
    s.shortfallWatched.shortfallSince.isSome = true := by
  simp only [State.shortfallWatched, Bool.and_eq_true] at h ⊢
  rw [if_pos h.1]; rfl

/-! ### The computation -/

/-- The state after stages 1 to 5 of a blend computation, the timer set on (R22). -/
def State.handedOver (s : State) : State :=
  blendHandOff s.blendResult (s.setBlend { s.blend with timer := timerNext s.blend.timer 20 })

theorem blendEffect_due {s : State} (due : timerDue s.blend.timer 20 s.now = true) :
    blendEffect s = shortfallWatch s.handedOver := if_pos due

theorem handedOver_blend (s : State) : s.handedOver.blend =
    ({ s.blend with timer := timerNext s.blend.timer 20 } : BlendUnit).store s.blendResult := by
  simp [State.handedOver, blendHandOff]

theorem handedOver_output (s : State) : s.handedOver.output =
    s.output.handOff s.params s.demand.emergency s.blendResult.dTarget s.blendResult.air s.blendResult.avail := by
  simp [State.handedOver, blendHandOff]

theorem handedOver_roster (s : State) : s.handedOver.roster = s.roster.setEntry s.control.station (Entry.ownSelf
    (ownFields s.output.participation s.params.rOwn s.blendResult.avail s.output.eOwn s.speed.vRef s.demand.dEff)) := by
  cases hem : s.demand.emergency <;> simp [State.handedOver, blendHandOff, refreshOwn, OutputStage.handOff, hem]

/-- Stages 1 to 5 change the Blend Unit, the requests and the roster alone. -/
@[simp] theorem handedOver_frame (s : State) :
    s.handedOver.pending = s.pending ∧ s.handedOver.clock = s.clock ∧ s.handedOver.pins = s.pins ∧
    s.handedOver.demand = s.demand ∧ s.handedOver.speed = s.speed ∧ s.handedOver.slide = s.slide ∧
    s.handedOver.line = s.line ∧ s.handedOver.recorder = s.recorder ∧ s.handedOver.store = s.store ∧
    s.handedOver.port = s.port ∧ s.handedOver.control = s.control := by
  simp [State.handedOver]

/-- The Blend Unit after a blend computation (R37, R41, R42). -/
theorem blendEffect_blend {s : State} (due : timerDue s.blend.timer 20 s.now = true) :
    (blendEffect s).blend = s.handedOver.shortfallWatched := by
  rw [blendEffect_due due, shortfallWatch_blend]

/-- The Output Stage after a blend computation. -/
theorem blendEffect_output {s : State} (due : timerDue s.blend.timer 20 s.now = true) :
    (blendEffect s).output =
      s.output.handOff s.params s.demand.emergency s.blendResult.dTarget s.blendResult.air s.blendResult.avail := by
  rw [blendEffect_due due, ← handedOver_output]; simp

end Sys2Proof.Machine
end

section
/-!
PROOFS. Every step keeps the outputs and the blend results with the mode (O8): first the commands that work on the outputs, then
the changes of mode, then all commands.
-/

namespace Sys2Proof.Machine

open Sys2Proof

/-! ### What the relations are about -/

/-- The relations of the feedback, which the mode does not enter (R85, R86, R93 to R95). -/
structure OutputStage.FeedbackSafe (o : OutputStage) : Prop where
  effort : o.eOwn ≤ 800 ∧ o.lConv ≤ 800
  stale : o.participation ≠ .blend → o.participation = .air ∧ o.eOwn = 0 ∧ o.lConv = 0
  fresh : o.stalenessTimer.isSome = decide (o.participation = .blend)
  truck1 : TruckOutputSafe o.truck1
  truck2 : TruckOutputSafe o.truck2

theorem OutputSafe.feedback {s : State} (h : OutputSafe s) : s.output.FeedbackSafe :=
  ⟨h.effort, h.stale, h.fresh, h.truck1, h.truck2⟩

/-- The feedback may change within its own relations, as long as the requests and the running of the pressure timer stay. -/
theorem OutputSafe.setOutput {s : State} (h : OutputSafe s) {o : OutputStage} (ho : o.FeedbackSafe)
    (requests : o.valid = s.output.valid ∧ o.dReq = s.output.dReq ∧ o.pReq = s.output.pReq)
    (timer : o.pressureTimer.isSome = s.output.pressureTimer.isSome) : OutputSafe (s.setOutput o) := by
  obtain ⟨hvalid, hd, hp⟩ := requests
  constructor
  case valid => exact hvalid.trans h.valid
  case cut => exact hd.trans_le h.cut
  case pressure => simpa [hp] using h.pressure
  case outside => simpa [hp] using h.outside
  case blendTimer => exact h.blendTimer
  case episode => exact h.episode
  case pressureTimer => exact timer.trans h.pressureTimer
  case effort => exact ho.effort
  case stale => exact ho.stale
  case fresh => exact ho.fresh
  case truck1 => exact ho.truck1
  case truck2 => exact ho.truck2

/-- The relations are about the outputs, the blend and the mode; outside RUN, where the pressure request is 0, the record in force
does not enter. -/
theorem OutputSafe.congr {s t : State} (h : OutputSafe s) (output : t.output = s.output) (blend : t.blend = s.blend)
    (mode : t.control.mode = s.control.mode) (record : t.control.active = s.control.active ∨ s.control.mode ≠ .run) :
    OutputSafe t := by
  have pressure : t.output.pReq = 0 ∨ (t.params.pTake ≤ t.output.pReq ∧ t.output.pReq ≤ t.params.pMax) ∨
      t.output.pReq = t.params.pEmer := by
    rw [output]
    rcases record with hactive | hmode
    · rw [params_congr hactive]; exact h.pressure
    · exact .inl (h.outside hmode).1
  obtain ⟨valid, cut, -, outside, blendTimer, episode, pressureTimer, effort, stale, fresh, truck1, truck2⟩ := h
  constructor
  case pressure => exact pressure
  all_goals simpa only [output, blend, mode]

/-- Outside RUN the Blend Unit is as entry to SAFE leaves it (R21). -/
theorem OutputSafe.blend_idle {s : State} (h : OutputSafe s) (hm : s.control.mode ≠ .run) : s.blend = s.blend.toSafe := by
  obtain ⟨-, havail, htarget, hdyn, hshortfall, hdTarget, hair, hsince⟩ := h.outside hm
  have htimer : s.blend.timer = none := by simpa [hm] using h.blendTimer
  have hopen : s.blend.shortfallOpen = false := by
    rw [← Bool.not_eq_true]
    exact fun ho => by simpa [hsince] using h.episode ho
  unfold BlendUnit.toSafe
  cases hb : s.blend
  simp_all

/-! ### Valves, feedback and pressures -/

/-- A new command to the valve drive leaves the pressure feedback. -/
theorem TruckOutputSafe.drive {t : TruckOutput} (h : TruckOutputSafe t) (v : Valve) : TruckOutputSafe { t with drive := v } :=
  ⟨h.pMeas, h.episode⟩

theorem OutputSafe.takeSlideCommands {s : State} (h : OutputSafe s) : OutputSafe (takeSlideCommands s) :=
  h.setOutput ⟨h.effort, h.stale, h.fresh, h.truck1.drive _, h.truck2.drive _⟩ ⟨rfl, rfl, rfl⟩ rfl

theorem OutputSafe.speedSweep {s : State} (h : OutputSafe s) : OutputSafe (speedSweepEffect s) := by
  unfold speedSweepEffect slideEvaluation
  simp only []
  repeat' split
  · exact OutputSafe.takeSlideCommands (h.congr (by simp) (by simp) (by simp) (.inl (by simp)))
  · exact h.congr rfl rfl rfl (.inl rfl)
  · exact h

/-- An accepted feedback message clamps both values (R85). -/
theorem OutputSafe.converterFeedback {s : State} (h : OutputSafe s) (chars : List Byte) :
    OutputSafe (converterFeedbackEffect chars s) := by
  unfold converterFeedbackEffect
  split
  · exact h.setOutput ⟨⟨Nat.min_le_right _ _, Nat.min_le_right _ _⟩, fun hne => absurd rfl hne, rfl, h.truck1, h.truck2⟩
      ⟨rfl, rfl, rfl⟩ rfl
  · exact h

theorem OutputSafe.staleness {s : State} (h : OutputSafe s) : OutputSafe (stalenessEffect s) := by
  unfold stalenessEffect
  split
  · exact h.setOutput ⟨⟨Nat.zero_le _, Nat.zero_le _⟩, fun _ => ⟨rfl, rfl, rfl⟩, rfl, h.truck1, h.truck2⟩ ⟨rfl, rfl, rfl⟩ rfl
  · exact h

theorem OutputSafe.requestMessage {s : State} (h : OutputSafe s) : OutputSafe (requestMessageEffect s) := by
  unfold requestMessageEffect
  split
  · exact h.setOutput ⟨h.effort, h.stale, h.fresh, h.truck1, h.truck2⟩ ⟨rfl, rfl, rfl⟩ rfl
  · exact h

/-- A reading above 700 is a fault and is not taken (R93). -/
theorem TruckOutputSafe.read {t : TruckOutput} (h : TruckOutputSafe t) (p : BitVec 10) : TruckOutputSafe (t.read p) := by
  unfold TruckOutput.read
  split
  · exact ⟨h.pMeas, h.episode⟩
  · rename_i hfault
    exact ⟨by simpa [pressureFault] using hfault, h.episode⟩

/-- An episode opens within a mismatch run (R94, R95). -/
theorem TruckOutputSafe.watch {t : TruckOutput} (h : TruckOutputSafe t) (mode : Mode) (pReq : Nat) (now : Time) :
    TruckOutputSafe (t.watch mode pReq now) := by
  unfold TruckOutput.watch
  split
  · exact ⟨h.pMeas, fun _ => rfl⟩
  · exact ⟨h.pMeas, nofun⟩

theorem OutputSafe.watchTruck {s : State} (h : OutputSafe s) (n : Nat) : OutputSafe (watchTruck n s) := by
  have hset : OutputSafe (s.setOutput
      (s.output.setTruck n ((s.output.truck n).watch s.control.mode s.output.pReq s.now))) := by
    unfold OutputStage.setTruck OutputStage.truck
    split
    · exact h.setOutput ⟨h.effort, h.stale, h.fresh, h.truck1.watch _ _ _, h.truck2⟩ ⟨rfl, rfl, rfl⟩ rfl
    · exact h.setOutput ⟨h.effort, h.stale, h.fresh, h.truck1, h.truck2.watch _ _ _⟩ ⟨rfl, rfl, rfl⟩ rfl
  unfold Machine.watchTruck
  simp only []
  split
  · exact hset.congr (by simp) (by simp) (by simp) (.inl (by simp))
  · exact hset

theorem OutputSafe.pressureSample {s : State} (h : OutputSafe s) (p1 p2 : BitVec 10) :
    OutputSafe (pressureSampleEffect p1 p2 s) := by
  unfold pressureSampleEffect
  split
  · have hpins : OutputSafe (s.setPins { s.pins with pressure1 := p1, pressure2 := p2 }) := h.congr rfl rfl rfl (.inl rfl)
    have hread : OutputSafe (readPressures p1 p2 s) :=
      hpins.setOutput ⟨h.effort, h.stale, h.fresh, h.truck1.read p1, h.truck2.read p2⟩ ⟨rfl, rfl, rfl⟩ (Option.isSome_map ..)
    exact (hread.watchTruck 1).watchTruck 2
  · exact h

/-! ### The blend computation -/

/-- R189 keeps R_air above 0 and p_max above p_take. -/
theorem Params.valid_pressures {axles : Nat} {p : Params} (h : p.valid axles = true) : 0 < p.rAir ∧ p.pTake ≤ p.pMax := by
  simp only [Params.valid, Bool.and_eq_true, decide_eq_true_eq] at h
  omega

/-- A device that works has parameters within R189 (R183, R184). -/
theorem ModeSafe.params_valid {s : State} (h : ModeSafe s) (works : s.control.mode.working = true) :
    s.params.valid s.control.axleCount = true := by
  obtain ⟨r, hr⟩ := Option.isSome_iff_exists.1 (h.works works)
  have hvalid := h.active r hr
  simp only [ConfigRecord.valid, Bool.and_eq_true] at hvalid
  simpa [State.params, hr] using hvalid.2

/-- A blend computation forms the requests within their bounds, in RUN alone (R21, R88 to R90). -/
theorem OutputSafe.blendComputation {s : State} (h : OutputSafe s) (hmode : ModeSafe s) : OutputSafe (blendEffect s) := by
  by_cases due : timerDue s.blend.timer 20 s.now = true
  case neg => rw [blendEffect, if_neg due]; exact h
  have hrun : s.control.mode = .run := by simpa [isSome_of_timerDue due] using h.blendTimer
  obtain ⟨hair, hpressures⟩ := Params.valid_pressures (hmode.params_valid (by rw [hrun]; rfl))
  have hcontrol : (blendEffect s).control = s.control := by simp
  have hblend := blendEffect_blend due
  have houtput := blendEffect_output due
  rw [handOff_eq] at houtput
  constructor
  case valid => rw [houtput, hcontrol]; exact h.valid
  case cut => rw [houtput, hblend, State.shortfallWatched, handedOver_blend]; exact dynamicRequest_le _ _ _ _
  case pressure =>
    rw [houtput, params_congr (congrArg _ hcontrol)]
    by_cases hem : s.demand.emergency = .emergency
    · simp [hem]
    · simpa [hem] using (pressureRequest_range hair hpressures s.blendResult.air).imp_right .inl
  case outside => exact fun hne => absurd (hcontrol ▸ hrun) hne
  case blendTimer =>
    rw [hblend, hcontrol, State.shortfallWatched, handedOver_blend]
    exact (Option.isSome_map ..).trans h.blendTimer
  case episode => rw [hblend]; exact shortfallWatched_episode _
  case pressureTimer => rw [houtput, hcontrol]; exact h.pressureTimer
  all_goals rw [houtput]
  case effort => exact h.effort
  case stale => exact h.stale
  case fresh => exact h.fresh
  case truck1 => exact h.truck1
  case truck2 => exact h.truck2

/-! ### Changes of mode -/

/-- With both requests 0 the relations ask of the outputs what their feedback keeps, and that the valid line and the timers
follow the mode (R21, R92). -/
theorem OutputSafe.of_requests_zero {t : State} (feedback : t.output.FeedbackSafe) (dReq : t.output.dReq = 0)
    (pReq : t.output.pReq = 0) (valid : t.output.valid = decide (t.control.mode = .run))
    (blendTimer : t.blend.timer.isSome = decide (t.control.mode = .run))
    (pressureTimer : t.output.pressureTimer.isSome = t.control.mode.working)
    (idle : t.control.mode ≠ .run → t.blend = t.blend.toSafe)
    (episode : t.blend.shortfallOpen = true → t.blend.shortfallSince.isSome = true) : OutputSafe t := by
  refine ⟨valid, dReq ▸ Nat.zero_le _, .inl pReq, fun hne => ?_, blendTimer, episode, pressureTimer, feedback.effort,
    feedback.stale, feedback.fresh, feedback.truck1, feedback.truck2⟩
  rw [idle hne]
  exact ⟨pReq, rfl, rfl, rfl, rfl, rfl, rfl, rfl⟩

/-- Entry to SAFE makes the outputs invalid and zeroes the blend; the pressure timer runs on (R21, R92, R94). -/
theorem OutputSafe.toSafe {s t : State} (h : OutputSafe s) (works : s.control.mode.working = true)
    (output : t.output = s.output.toSafe) (blend : t.blend = s.blend.toSafe) (mode : t.control.mode = .safe) :
    OutputSafe t := by
  apply OutputSafe.of_requests_zero <;> simp only [output, blend, mode]
  case feedback => exact ⟨h.effort, h.stale, h.fresh, ⟨h.truck1.pMeas, nofun⟩, ⟨h.truck2.pMeas, nofun⟩⟩
  case pressureTimer => exact h.pressureTimer.trans works
  case idle => exact fun _ => rfl
  case episode => exact fun ho => absurd ho Bool.false_ne_true
  all_goals rfl

theorem OutputSafe.enterSafe {s : State} (h : OutputSafe s) (works : s.control.mode.working = true) :
    OutputSafe (enterSafe s) := h.toSafe works (by simp) (by simp) (by simp)

theorem OutputSafe.powerFail {s : State} (h : OutputSafe s) (works : s.control.mode.working = true) :
    OutputSafe (powerFail s) := h.toSafe works (by simp) (by simp) (by simp)

/-- Between INIT and CONFIG the outputs and the blend stay at rest. -/
theorem OutputSafe.atRest {s t : State} (h : OutputSafe s) (hs : s.control.mode.working = false)
    (ht : t.control.mode.working = false) (output : t.output = s.output) (blend : t.blend = s.blend) : OutputSafe t := by
  have hsrun : s.control.mode ≠ .run := fun hm => by rw [hm] at hs; cases hs
  have htrun : t.control.mode ≠ .run := fun hm => by rw [hm] at ht; cases ht
  have hd : s.output.dReq = 0 := Nat.le_zero.1 (h.cut.trans_eq (h.outside hsrun).2.1)
  apply OutputSafe.of_requests_zero <;> simp only [output, blend, htrun, decide_false]
  case feedback => exact h.feedback
  case dReq => exact hd
  case pReq => exact (h.outside hsrun).1
  case valid => simpa [hsrun] using h.valid
  case blendTimer => simpa [hsrun] using h.blendTimer
  case pressureTimer => rw [ht, h.pressureTimer, hs]
  case idle => exact fun _ => h.blend_idle hsrun
  case episode => exact h.episode

/-- The outputs at an entry to RUN: valid, requests 0, the valve drives at the slide commands (R91, R92). -/
theorem runOutputs_output (s : State) : (runOutputs s).output = { s.output with
    valid := true, dReq := 0, pReq := 0
    truck1 := { s.output.truck1 with drive := s.slide.truck1.valve }
    truck2 := { s.output.truck2 with drive := s.slide.truck2.valve } } := by
  simp [runOutputs, evalUnheard, takeSlideCommands, OutputStage.enterRun]

theorem runOutputs_blend (s : State) : (runOutputs s).blend = { s.blend with timer := some s.now } := by
  simp [runOutputs, evalUnheard]

/-- What entry to RUN does to the outputs, once the mode is RUN and the pressure timer runs (R21, R91, R92). -/
theorem OutputSafe.runOutputs {s : State} (feedback : s.output.FeedbackSafe) (mode : s.control.mode = .run)
    (pressureTimer : s.output.pressureTimer.isSome = true)
    (episode : s.blend.shortfallOpen = true → s.blend.shortfallSince.isSome = true) : OutputSafe (runOutputs s) := by
  obtain ⟨effort, stale, fresh, truck1, truck2⟩ := feedback
  have hmode : (Machine.runOutputs s).control.mode = .run := by simpa
  apply OutputSafe.of_requests_zero <;> simp only [runOutputs_output, runOutputs_blend, hmode]
  case feedback => exact ⟨effort, stale, fresh, truck1.drive _, truck2.drive _⟩
  case pressureTimer => exact pressureTimer
  case idle => exact fun hne => absurd rfl hne
  case episode => exact episode
  all_goals rfl

/-- A warning that stands at an entry to RUN leads on to SAFE (R185). -/
theorem OutputSafe.warningAtEntry {s : State} (h : OutputSafe s) (works : s.control.mode.working = true) :
    OutputSafe (warningAtEntry s) := by
  unfold Machine.warningAtEntry
  split
  · exact OutputSafe.powerFail (h.congr (by simp) (by simp) (by simp) (.inl (by simp))) (by simpa using works)
  · exact h

/-- Entry to RUN, from INIT or CONFIG with all timers started, or back from SAFE (R185, R187). -/
theorem OutputSafe.enterRun {s : State} (h : OutputSafe s) {fresh : Bool}
    (kind : fresh = true ∨ s.control.mode = .safe) : OutputSafe (enterRun fresh s) := by
  have hrun : OutputSafe
      (Machine.runOutputs (if fresh = true then startWork (changeMode .run s) else changeMode .run s)) := by
    apply OutputSafe.runOutputs
    case feedback => split <;> simpa [startWork] using ⟨h.effort, h.stale, h.fresh, h.truck1, h.truck2⟩
    case mode => split <;> simp
    case pressureTimer =>
      split
      · simp [startWork]
      · rename_i hf
        have hsafe := kind.resolve_left hf
        simpa [hsafe, Mode.working] using h.pressureTimer
    case episode => split <;> simpa using h.episode
  exact hrun.warningAtEntry (by simp only [runOutputs_frame]; split <;> simp [Mode.working])

/-! ### The commands that change the mode -/

theorem OutputSafe.warningAsserted {s : State} (h : OutputSafe s) : OutputSafe (warningAssertedEffect s) := by
  have hs : OutputSafe (s.setControl { s.control with warning := true, releaseTimer := none }) :=
    h.congr rfl rfl rfl (.inl rfl)
  unfold warningAssertedEffect
  simp only []
  split
  · rename_i hm; exact hs.powerFail (by rw [hm]; rfl)
  · exact hs

theorem OutputSafe.recheck {s : State} (h : OutputSafe s) : OutputSafe (recheckEffect s) := by
  unfold recheckEffect
  simp only []
  repeat' split
  · exact h.congr rfl rfl rfl (.inl rfl)
  · rename_i hm
    exact OutputSafe.enterSafe (h.congr rfl rfl rfl (.inl rfl)) (by rw [hm]; rfl)
  · exact h.congr rfl rfl rfl (.inl rfl)
  · exact h

theorem OutputSafe.releaseTimer {s : State} (h : OutputSafe s) : OutputSafe (releaseTimerEffect s) := by
  have hs : OutputSafe (s.setControl { s.control with releaseTimer := none }) := h.congr rfl rfl rfl (.inl rfl)
  unfold releaseTimerEffect
  simp only []
  split
  · rename_i hm
    split
    · exact hs
    · split
      · exact hs.enterRun (.inr hm.1)
      · exact hs.congr rfl rfl rfl (.inl rfl)
  · exact h

/-- INIT's record may go absent, which the outputs of a device in INIT do not notice (R183). -/
theorem OutputSafe.scanEnd {s : State} (h : OutputSafe s) (cut : MarkReading) : OutputSafe (scanEndEffect cut s) := by
  rw [scanEndEffect_eq]
  split
  case isFalse => exact h
  case isTrue hinit =>
    have hmode : (s.settled cut).control.mode = s.control.mode := by simp [State.settled, settleRecord_mode]
    have hs : OutputSafe (s.settled cut) :=
      h.congr (by simp [State.settled]) (by simp [State.settled]) hmode (.inr (by simp [hinit.1]))
    split
    · exact hs.enterRun (.inl rfl)
    · exact hs.atRest (by rw [hmode, hinit.1]; rfl) (by simp [Mode.working]) (by simp) (by simp)

theorem OutputSafe.answerStart {s : State} (h : OutputSafe s) : OutputSafe (answerStart s) := by
  unfold Machine.answerStart
  split
  · rename_i l hconfig _
    have hs : OutputSafe (activate l s) := h.congr (by simp) (by simp) (by simp [activate]) (.inr (by simp [hconfig]))
    exact OutputSafe.congr (hs.enterRun (fresh := true) (.inl rfl)) (by simp) (by simp) (by simp) (.inl (by simp))
  · exact h.congr (by simp) (by simp) (by simp) (.inl (by simp))

theorem OutputSafe.start {s : State} (h : OutputSafe s) (params : List Byte) : OutputSafe (startEffect params s) := by
  unfold startEffect takeCommand withLength
  split
  · split
    · exact OutputSafe.answerStart (h.congr rfl rfl rfl (.inl rfl))
    · exact h.congr (by simp) (by simp) (by simp) (.inl (by simp))
  · exact h

/-- A released device (R46, R96). -/
theorem OutputSafe.ofReset {t : State} (output : t.output = OutputStage.reset) (blend : t.blend = BlendUnit.reset)
    (mode : t.control.mode = .init) : OutputSafe t :=
  outputSafe_reset.atRest rfl (by rw [mode]; rfl) output blend

theorem OutputSafe.resetReleased {s : State} (h : OutputSafe s) (powerOn : Bool) (levels : ReleaseLevels) :
    OutputSafe (resetReleased powerOn levels s) := by
  unfold Machine.resetReleased
  repeat' split
  · exact h
  · exact .ofReset rfl rfl rfl
  · exact .ofReset rfl rfl rfl

theorem loadConfigEffect_active (params : List Byte) (s : State) :
    (loadConfigEffect params s).control.active = s.control.active := by
  simp only [loadConfigEffect, takeCommand, withLength, answerLoadConfig, loadRecord]
  repeat' split
  all_goals simp

/-- The answer UNKNOWN changes the port alone (R171). -/
theorem takeCommand_unknown_outputs (code : Byte) (params : List Byte) (s : State) :
    (takeCommand code params (refuse .unknown) s).output = s.output ∧
    (takeCommand code params (refuse .unknown) s).blend = s.blend := by
  unfold takeCommand; split <;> simp

theorem OutputSafe.unknownCommand {s : State} (h : OutputSafe s) (code : Byte) (params : List Byte) :
    OutputSafe (unknownCommandEffect code params s) := by
  unfold unknownCommandEffect
  split
  case h_3 =>
    exact h.congr (by simp) (by simp) (loadConfigEffect_mode params s) (.inl (loadConfigEffect_active params s))
  case h_4 => exact h.start params
  case h_13 =>
    obtain ⟨ho, hb⟩ := takeCommand_unknown_outputs code params s
    obtain ⟨-, hc⟩ := takeCommand_unknown code params s
    exact h.congr ho hb (by rw [hc]) (.inl (by rw [hc]))
  all_goals exact h.congr (by simp) (by simp) (by simp) (.inl (by simp))

/-! ### All commands -/

/-- The commands that may change the outputs, the blend, the mode or the record in force. -/
def movesOutputs : Instr → Bool
  | .powerOnResetRelease _ _ => true
  | .hardResetRelease _ _ => true
  | .scanEnd _ _ => true
  | .powerFailWarningAsserted _ => true
  | .releaseTimerExpiry _ => true
  | .configurationRecheck _ => true
  | .speedSweep _ => true
  | .blendComputation _ => true
  | .converterFeedback _ _ => true
  | .stalenessExpiry _ => true
  | .requestMessage _ => true
  | .pressureSample _ _ _ => true
  | .unknownCommand _ _ _ => true
  | .start _ _ => true
  | _ => false

/-- Every other command leaves them. -/
theorem effectOf_keeps_outputs {c : Instr} (hc : movesOutputs c = false) (s : State) :
    (effectOf c s).output = s.output ∧ (effectOf c s).blend = s.blend ∧
    (effectOf c s).control.mode = s.control.mode ∧ (effectOf c s).control.active = s.control.active := by
  cases c
  case loadConfig =>
    exact ⟨by simp [effectOf], by simp [effectOf], loadConfigEffect_mode _ s, loadConfigEffect_active _ s⟩
  case resetAsserted => exact ⟨by simp [effectOf], by simp [effectOf], rfl, rfl⟩
  all_goals first | (cases hc; done) | simp [effectOf, warningDeassertedEffect]

theorem OutputSafe.effectOf {s : State} (h : OutputSafe s) (hmode : ModeSafe s) (c : Instr) :
    OutputSafe (effectOf c s) := by
  cases hc : movesOutputs c with
  | false =>
    obtain ⟨ho, hb, hm, ha⟩ := effectOf_keeps_outputs hc s
    exact h.congr ho hb hm (.inl ha)
  | true =>
    cases c with
    | powerOnResetRelease dt levels =>
      have hs : OutputSafe (s.setPins { s.pins with powerOnReset := false }) := h.congr rfl rfl rfl (.inl rfl)
      exact hs.resetReleased true levels
    | hardResetRelease dt levels =>
      have hs : OutputSafe (s.setPins { s.pins with hardReset := false }) := h.congr rfl rfl rfl (.inl rfl)
      exact hs.resetReleased false levels
    | scanEnd dt cut => exact h.scanEnd cut
    | powerFailWarningAsserted dt => exact h.warningAsserted
    | releaseTimerExpiry dt => exact h.releaseTimer
    | configurationRecheck dt => exact h.recheck
    | speedSweep dt => exact h.speedSweep
    | blendComputation dt => exact h.blendComputation hmode
    | converterFeedback dt chars => exact h.converterFeedback chars
    | stalenessExpiry dt => exact h.staleness
    | requestMessage dt => exact h.requestMessage
    | pressureSample dt p1 p2 => exact h.pressureSample p1 p2
    | unknownCommand dt code params => exact h.unknownCommand code params
    | start dt params => exact h.start params
    | _ => cases hc

theorem OutputSafe.advance {s : State} (h : OutputSafe s) (dt : Passage) : OutputSafe (s.advance dt) :=
  h.congr (by simp) (by simp) (by simp) (.inl (by simp))

/-- The Mode Controller's relations are its own block's. -/
theorem ModeSafe.congr {s t : State} (h : ModeSafe s) (control : t.control = s.control) : ModeSafe t := by
  obtain ⟨station, axles, active, loaded, works, config, loadedIn, failed, releasing, recheck⟩ := h
  rw [← control] at *
  exact ⟨station, axles, active, loaded, works, config, loadedIn, failed, releasing, recheck⟩

/-- Settles O8: a step is a passage and at most one command's effect, and both keep the relations. -/
theorem outputsFollowTheMode : Obligations.OutputsFollowTheMode := by
  unfold Obligations.OutputsFollowTheMode
  intro s t hs hstep
  have h := hs.output
  unfold step at hstep
  split at hstep
  · cases hstep; exact h.advance _
  · rename_i c rest _
    have hrest : OutputSafe (s.setPending rest) := h.congr rfl rfl rfl (.inl rfl)
    rcases exec_cases hstep with ⟨rfl, -⟩ | ⟨rfl, -⟩
    · exact (hrest.advance _).effectOf (hs.mode.congr (by simp)) _
    · exact hrest.advance _

end Sys2Proof.Machine
end

section
/-!
PROOFS. The capability curve (R24, O39): where the walk along the points stops, and what a segment gives there.
-/

namespace Sys2Proof.Machine

open Sys2Proof

/-! ### A segment -/

/-- The quotient rounded up is the least whole number that is not below the exact one. -/
theorem roundedUp_bounds (a : Nat) {b : Nat} (hb : 0 < b) :
    a ≤ b * ((a + b - 1) / b) ∧ b * ((a + b - 1) / b) < a + b := by
  have hdiv := Nat.div_add_mod (a + b - 1) b
  have hmod := Nat.mod_lt (a + b - 1) hb
  omega

/-- Rounding down a negative quotient rounds its magnitude up. -/
theorem neg_ediv_eq_roundedUp (a : Nat) {b : Nat} (hb : 0 < b) :
    -(a : Int) / (b : Int) = -(((a + b - 1) / b : Nat) : Int) := by
  obtain ⟨hle, hlt⟩ := roundedUp_bounds a hb
  generalize (a + b - 1) / b = c at *
  have hle : (a : Int) ≤ b * c := by exact_mod_cast hle
  have hlt : (b : Int) * c < a + b := by exact_mod_cast hlt
  refine ((Int.ediv_emod_unique (r := b * c - a) (by omega)).2 ⟨?_, by omega, by omega⟩).1
  ring

/-- A rising segment (R24). -/
theorem segmentEffort_rising {v1 e1 v2 e2 v : Nat} (he : e1 ≤ e2) (h1 : v1 ≤ v) (h2 : v < v2) :
    (segmentEffort v1 e1 v2 e2 v : Int) = e1 + ((e2 : Int) - e1) * ((v : Int) - v1) / ((v2 : Int) - v1) ∧
    e1 ≤ segmentEffort v1 e1 v2 e2 v ∧ segmentEffort v1 e1 v2 e2 v ≤ e2 := by
  have hmul : (e2 - e1) * (v - v1) ≤ (e2 - e1) * (v2 - v1) := Nat.mul_le_mul_left _ (by omega)
  have hpart : (e2 - e1) * (v - v1) / (v2 - v1) ≤ e2 - e1 := Nat.div_le_of_le_mul (hmul.trans_eq (Nat.mul_comm ..))
  rw [segmentEffort, if_pos he]
  refine ⟨?_, Nat.le_add_right _ _, (Nat.add_le_add_left hpart e1).trans_eq (Nat.add_sub_cancel' he)⟩
  push_cast [Nat.cast_sub he, Nat.cast_sub h1, Nat.cast_sub (h1.trans h2.le)]
  rfl

/-- A falling segment: what the effort has lost since the segment's start is rounded up (R24). -/
theorem segmentEffort_falling {v1 e1 v2 e2 v : Nat} (he : e2 < e1) (h1 : v1 ≤ v) (h2 : v < v2) :
    (segmentEffort v1 e1 v2 e2 v : Int) = e1 + ((e2 : Int) - e1) * ((v : Int) - v1) / ((v2 : Int) - v1) ∧
    e2 ≤ segmentEffort v1 e1 v2 e2 v ∧ segmentEffort v1 e1 v2 e2 v ≤ e1 := by
  have hd : 0 < v2 - v1 := by omega
  have hmul : (e1 - e2) * (v - v1) ≤ (e1 - e2) * (v2 - v1) := Nat.mul_le_mul_left _ (by omega)
  have hlost : ((e1 - e2) * (v - v1) + (v2 - v1) - 1) / (v2 - v1) ≤ e1 - e2 := by
    rw [← Nat.lt_succ_iff, Nat.div_lt_iff_lt_mul hd, Nat.succ_mul]
    omega
  have hexact : ((e2 : Int) - e1) * ((v : Int) - v1) / ((v2 : Int) - v1) =
      -((((e1 - e2) * (v - v1) + (v2 - v1) - 1) / (v2 - v1) : Nat) : Int) := by
    rw [← neg_ediv_eq_roundedUp _ hd]
    push_cast [Nat.cast_sub he.le, Nat.cast_sub h1, Nat.cast_sub (h1.trans h2.le)]
    congr 1
    ring
  rw [hexact, segmentEffort, if_neg (by omega)]
  generalize ((e1 - e2) * (v - v1) + (v2 - v1) - 1) / (v2 - v1) = lost at hlost
  omega

/-- A segment at a speed in it: the exact value rounded down, between the segment's ends (R24). -/
theorem segmentEffort_spec {p q : Nat × Nat} {v : Nat} (h1 : p.1 ≤ v) (h2 : v < q.1) :
    (segmentEffort p.1 p.2 q.1 q.2 v : Int) = p.2 + ((q.2 : Int) - p.2) * ((v : Int) - p.1) / ((q.1 : Int) - p.1) ∧
    min p.2 q.2 ≤ segmentEffort p.1 p.2 q.1 q.2 v ∧ segmentEffort p.1 p.2 q.1 q.2 v ≤ max p.2 q.2 := by
  rcases le_or_gt p.2 q.2 with he | he
  · obtain ⟨heq, hlo, hhi⟩ := segmentEffort_rising he h1 h2
    exact ⟨heq, by omega, by omega⟩
  · obtain ⟨heq, hlo, hhi⟩ := segmentEffort_falling he h1 h2
    exact ⟨heq, by omega, by omega⟩

/-- A segment starts at its first point's effort. -/
theorem segmentEffort_start {v1 v2 : Nat} (h : v1 < v2) (e1 e2 : Nat) : segmentEffort v1 e1 v2 e2 v1 = e1 := by
  have hd : (v2 - v1 - 1) / (v2 - v1) = 0 := Nat.div_eq_of_lt (by omega)
  simp [segmentEffort, hd]

/-! ### The walk along the points -/

/-- With no point above the speed the walk ends at the last point. -/
theorem curveFrom_last {points : List (Nat × Nat)} {v : Nat} {p : Nat × Nat} (hv : ∀ q ∈ points, q.1 ≤ v)
    (hp : points.getLast? = some p) : curveFrom v points = p.2 := by
  induction points with
  | nil => cases hp
  | cons x rest ih =>
    cases rest with
    | nil => cases hp; rfl
    | cons y rest =>
      have hy : y.1 ≤ v := hv y (by simp)
      rw [curveFrom, if_neg (by omega)]
      exact ih (fun q hq => hv q (List.mem_cons_of_mem x hq)) (by simpa using hp)

/-- The walk stops in the one interval that holds the speed: no earlier one reaches up to it. -/
theorem curveFrom_interval {points : List (Nat × Nat)} {v i : Nat} {p q : Nat × Nat}
    (hrise : points.Pairwise fun p q => p.1 < q.1) (hp : points[i]? = some p) (hq : points[i + 1]? = some q)
    (h1 : p.1 ≤ v) (h2 : v < q.1) : curveFrom v points = segmentEffort p.1 p.2 q.1 q.2 v := by
  induction points generalizing i with
  | nil => cases hp
  | cons x rest ih =>
    cases rest with
    | nil => simp at hq
    | cons y rest =>
      cases i with
      | zero =>
        obtain rfl : x = p := by simpa using hp
        obtain rfl : y = q := by simpa using hq
        rw [curveFrom, if_pos ⟨h1, h2⟩]
      | succ i =>
        have hrest := hrise.of_cons
        have hpmem : p ∈ y :: rest := List.mem_of_getElem? (by simpa using hp)
        have hyv : y.1 ≤ p.1 := by
          rcases List.mem_cons.1 hpmem with rfl | hmem
          · exact le_rfl
          · exact (List.rel_of_pairwise_cons hrest hmem).le
        rw [curveFrom, if_neg (by omega)]
        exact ih hrest (by simpa using hp) (by simpa using hq)

/-- The last point's effort holds from its speed on (R24). -/
theorem curveAt_last {points : List (Nat × Nat)} {v : Nat} {p : Nat × Nat} (hrise : points.Pairwise fun p q => p.1 < q.1)
    (hp : points.getLast? = some p) (hv : p.1 ≤ v) : curveAt points v = p.2 := by
  obtain ⟨init, rfl⟩ := List.getLast?_eq_some_iff.1 hp
  have hbelow : ∀ q ∈ init, q.1 < p.1 := by
    simpa using (List.pairwise_append.1 hrise).2.2
  have hall : ∀ q ∈ init ++ [p], q.1 ≤ v := by
    intro q hq
    rcases List.mem_append.1 hq with hq | hq
    · exact (hbelow q hq).le.trans hv
    · rwa [List.mem_singleton.1 hq]
  cases init with
  | nil =>
    have hfrom : curveFrom v [p] = p.2 := rfl
    simp [curveAt, hfrom]
  | cons x rest =>
    have hx : x.1 < p.1 := hbelow x (by simp)
    rw [List.cons_append, curveAt, if_neg (by omega)]
    exact curveFrom_last hall hp

/-- Inside the points' speeds the curve is the segment of the interval that holds the speed (R24). -/
theorem curveAt_interval {points : List (Nat × Nat)} {v i : Nat} {p q : Nat × Nat}
    (hrise : points.Pairwise fun p q => p.1 < q.1) (hp : points[i]? = some p) (hq : points[i + 1]? = some q)
    (h1 : p.1 ≤ v) (h2 : v < q.1) : curveAt points v = segmentEffort p.1 p.2 q.1 q.2 v := by
  cases points with
  | nil => cases hp
  | cons x rest =>
    rw [curveAt]
    split
    · rename_i hx
      rcases List.mem_cons.1 (List.mem_of_getElem? hp) with rfl | hmem
      · obtain rfl : v = p.1 := by omega
        rw [segmentEffort_start h2]
      · have := List.rel_of_pairwise_cons hrise hmem
        omega
    · exact curveFrom_interval hrise hp hq h1 h2

/-- Settles O39: at the first point, past the last, and on the segment between two neighbours. -/
theorem curveFollowsItsSegments : Obligations.CurveFollowsItsSegments := by
  unfold Obligations.CurveFollowsItsSegments
  intro points v hrise
  refine ⟨fun p hp hv => ?_, fun p hp hv => curveAt_last hrise hp hv, fun i p q hp hq h1 h2 => ?_⟩
  · obtain ⟨rest, rfl⟩ := List.head?_eq_some_iff.1 hp
    rw [curveAt, if_pos hv]
  · rw [curveAt_interval hrise hp hq h1 h2]
    exact segmentEffort_spec h1 h2

end Sys2Proof.Machine
end

section
/-!
PROOFS. The set K (R26 to R28, O40): each member is read from one roster entry, and the entries stand in the order of their
stations.
-/

namespace Sys2Proof.Machine

open Sys2Proof

/-- What R27 and R28 ask of a reported payload for a member, and the values they give it. -/
structure ReportPayload.Gives (p : ReportPayload) (m : Member) : Prop where
  participation : p.participation = 1 ∨ p.participation = 2
  r : m.r = min p.r.toNat 800
  pos : 0 < m.r
  e : m.e = min p.e.toNat 800
  a : m.a = if p.participation = 1 then min p.a.toNat 800 else 0

/-- A participation byte other than 1 and 2 gives no member (R27, R193). -/
theorem reported_eq (n : Nat) (p : ReportPayload) : peerMember.reported n p =
    if 0 < min p.r.toNat 800 ∧ (p.participation = 1 ∨ p.participation = 2) then
      some ⟨n, min p.r.toNat 800, if p.participation = 1 then min p.a.toNat 800 else 0, min p.e.toNat 800⟩
    else none := by
  unfold peerMember.reported
  by_cases hr : min p.r.toNat 800 = 0
  · simp [hr]
  have hpos : 0 < min p.r.toNat 800 := Nat.pos_of_ne_zero hr
  simp only [if_neg hr, hpos, true_and]
  by_cases hblend : p.participation = 1
  · have hbyte : Participation.ofByte 1#8 = .blend := rfl
    simp [hblend, hbyte]
  by_cases hair : p.participation = 2
  · have hbyte : Participation.ofByte 2#8 = .air := rfl
    simp [hair, hbyte]
  · have hbyte : Participation.ofByte p.participation = .out := by
      have hone : p.participation.toNat ≠ 1 := fun h => hblend (BitVec.eq_of_toNat_eq h)
      have htwo : p.participation.toNat ≠ 2 := fun h => hair (BitVec.eq_of_toNat_eq h)
      unfold Participation.ofByte
      split <;> simp_all
    rw [hbyte, if_neg (not_or.2 ⟨hblend, hair⟩)]

theorem reported_eq_some {n : Nat} {p : ReportPayload} {m : Member} :
    peerMember.reported n p = some m ↔ m.station = n ∧ p.Gives m := by
  rw [reported_eq]
  constructor
  · intro h
    split at h
    · rename_i hp
      cases h
      exact ⟨rfl, hp.2, rfl, hp.1, rfl, rfl⟩
    · cases h
  · rintro ⟨rfl, participation, r, pos, e, a⟩
    rw [if_pos ⟨r ▸ pos, participation⟩, ← r, ← a, ← e]

/-- A peer is a member when its entry is PRESENT or STALE and what it holds gives one (R26, R27). -/
theorem peerMember_eq_some {n : Nat} {x : Entry} {m : Member} : peerMember n x = some m ↔
    m.station = n ∧ (x.state = .present ∨ x.state = .stale) ∧ ∃ p, x.held = some p ∧ p.Gives m := by
  unfold peerMember
  split
  · rename_i p hstate hheld
    simp [hstate, hheld, reported_eq_some]
  · rename_i p hstate hheld
    simp [hstate, hheld, reported_eq_some]
  · rename_i hpresent hstale
    constructor
    · nofun
    · rintro ⟨-, hstate | hstate, p, hheld, -⟩
      · exact absurd hheld (hpresent p hstate)
      · exact absurd hheld (hstale p hstate)

/-- What the entry of a station contributes to K. -/
def Member.orPeer (own : Member) (p : Entry × Nat) : Option Member :=
  if p.2 = own.station then some own else peerMember p.2 p.1

theorem setK_eq (own : Member) (entries : List Entry) : setK own entries = (entries.zipIdx 1).filterMap own.orPeer := rfl

theorem orPeer_eq_some {own m : Member} {p : Entry × Nat} : own.orPeer p = some m ↔
    (p.2 = own.station ∧ m = own) ∨ (p.2 ≠ own.station ∧ peerMember p.2 p.1 = some m) := by
  unfold Member.orPeer
  by_cases h : p.2 = own.station <;> simp [h, eq_comm]

/-- An entry's member is of the entry's own station. -/
theorem orPeer_station {own m : Member} {p : Entry × Nat} (h : own.orPeer p = some m) : m.station = p.2 := by
  rcases orPeer_eq_some.1 h with ⟨hown, rfl⟩ | ⟨-, hpeer⟩
  · exact hown.symm
  · exact (peerMember_eq_some.1 hpeer).1

theorem mem_setK {own m : Member} {r : Roster} :
    m ∈ setK own r.entries ↔ ∃ e, r.entry? m.station = some e ∧ own.orPeer (e, m.station) = some m := by
  rw [setK_eq, List.mem_filterMap]
  constructor
  · rintro ⟨⟨e, n⟩, hmem, hm⟩
    obtain rfl : m.station = n := orPeer_station hm
    exact ⟨e, Roster.entry?_eq_some.2 (List.mk_mem_zipIdx_iff_le_and_getElem?_sub.1 hmem), hm⟩
  · rintro ⟨e, he, hm⟩
    exact ⟨(e, m.station), List.mk_mem_zipIdx_iff_le_and_getElem?_sub.2 (Roster.entry?_eq_some.1 he), hm⟩

/-- K stands in rising station number. -/
theorem setK_pairwise (own : Member) (entries : List Entry) :
    (setK own entries).Pairwise fun x y => x.station < y.station := by
  have hidx : (entries.zipIdx 1).Pairwise fun p q => p.2 < q.2 := by
    rw [← List.pairwise_map, List.zipIdx_map_snd]
    exact List.pairwise_lt_range'
  rw [setK_eq, List.pairwise_filterMap]
  refine hidx.imp fun hlt x hx y hy => ?_
  rw [orPeer_station hx, orPeer_station hy]
  exact hlt

/-- The own station is always in K (R26). -/
theorem own_mem_setK {own : Member} {r : Roster} (h1 : 1 ≤ own.station) (h2 : own.station ≤ r.entries.length) :
    own ∈ setK own r.entries := by
  obtain ⟨e, he⟩ := Roster.exists_entry h1 h2
  exact mem_setK.2 ⟨e, he, if_pos rfl⟩

/-- Settles O40: a member of K is the own station's or comes from another station's entry. -/
theorem blendSetHoldsTheRightStations : Obligations.BlendSetHoldsTheRightStations := by
  unfold Obligations.BlendSetHoldsTheRightStations
  intro s hl h1 h8
  refine ⟨?_, fun m => ?_, setK_pairwise _ _⟩
  · cases hp : s.output.participation <;> simp [State.ownMember, ownAvailable, hp]
  constructor
  · intro hm
    obtain ⟨e, he, hfrom⟩ := mem_setK.1 hm
    rcases orPeer_eq_some.1 hfrom with ⟨-, hown⟩ | ⟨hne, hpeer⟩
    · exact .inl hown
    · obtain ⟨-, hstate, p, hheld, participation, r, pos, eff, a⟩ := peerMember_eq_some.1 hpeer
      exact .inr ⟨hne, e, p, he, hstate, hheld, participation, r, pos, eff, a⟩
  · rintro (rfl | ⟨hne, e, p, he, hstate, hheld, participation, r, pos, eff, a⟩)
    · exact own_mem_setK h1 (hl.symm ▸ h8)
    · exact mem_setK.2 ⟨e, he, orPeer_eq_some.2 (.inr ⟨hne, peerMember_eq_some.2
        ⟨rfl, hstate, p, hheld, participation, r, pos, eff, a⟩⟩)⟩

end Sys2Proof.Machine
end

section
/-!
PROOFS. The division of the dynamic total and of the shortfall (R31 to R35, O42): what each member gets, what the shares add up
to, and what the rounded-up air efforts add up to.
-/

namespace Sys2Proof.Machine

open Sys2Proof

/-! ### What each member gets -/

theorem sharesFrom_stations (dyn total left : Nat) (k : List Member) :
    (sharesFrom dyn total left k).map Prod.fst = k.map Member.station := by
  induction k generalizing left with
  | nil => rfl
  | cons m rest ih => rw [sharesFrom]; split <;> simp [ih]

/-- A member gets 1 kN over its base when it has a remainder and fewer than `left` members before it have one (R33). -/
theorem sharesFrom_getElem? {dyn total left i : Nat} {k : List Member} {m : Member} (h : k[i]? = some m) :
    (sharesFrom dyn total left k)[i]? = some (m.station, base dyn total m +
      if remainder dyn total m ≠ 0 ∧ ((k.take i).filter fun y => remainder dyn total y ≠ 0).length < left then 1 else 0) := by
  induction k generalizing left i with
  | nil => cases h
  | cons x rest ih =>
    cases i with
    | zero =>
      obtain rfl : x = m := by simpa using h
      rw [sharesFrom]
      split <;> simp_all
    | succ i =>
      have h : rest[i]? = some m := by simpa using h
      rw [sharesFrom]
      by_cases hx : remainder dyn total x = 0
      · simp [hx, ih h]
      · by_cases hleft : 0 < left
        · have hcount : ∀ c : Nat, c + 1 < left ↔ c < left - 1 := by omega
          simp [hx, hleft, ih h, hcount]
        · obtain rfl : left = 0 := by omega
          simp [hx, ih h]

/-! ### What the shares add up to -/

/-- The members with a remainder. -/
def withRemainder (dyn total : Nat) (k : List Member) : Nat := k.countP fun m => remainder dyn total m ≠ 0

/-- Besides the base values the shares hold the kN left over, as far as there are members with a remainder (R33). -/
theorem sharesFrom_sum (dyn total left : Nat) (k : List Member) :
    ((sharesFrom dyn total left k).map Prod.snd).sum =
      (k.map (base dyn total)).sum + min left (withRemainder dyn total k) := by
  induction k generalizing left with
  | nil => simp [sharesFrom, withRemainder]
  | cons m rest ih =>
    rw [sharesFrom]
    by_cases hm : remainder dyn total m = 0
    · simp [hm, ih, withRemainder, Nat.add_assoc]
    · by_cases hleft : 0 < left
      · simp [hm, hleft, ih, withRemainder]; omega
      · simp [hm, hleft, ih, withRemainder]; omega

/-- The exact shares add up to the total: base values and remainders account for all of it (R32). -/
theorem bases_and_remainders {dyn total : Nat} (ht : 0 < total) (k : List Member) :
    total * (k.map (base dyn total)).sum + (k.map (remainder dyn total)).sum = dyn * sumA k := by
  induction k with
  | nil => rfl
  | cons m rest ih =>
    have hm : total * base dyn total m + remainder dyn total m = dyn * m.a := by
      rw [base, remainder, if_neg (by omega)]; exact Nat.div_add_mod _ _
    simp only [sumA, List.map_cons, List.sum_cons] at ih ⊢
    linarith

/-- Each remainder falls short of one kN. -/
theorem remainders_le (dyn total : Nat) (k : List Member) :
    (k.map (remainder dyn total)).sum ≤ total * withRemainder dyn total k := by
  induction k with
  | nil => simp
  | cons m rest ih =>
    by_cases hm : remainder dyn total m = 0
    · simpa [hm, withRemainder] using ih
    · have ht : total ≠ 0 := fun ht => hm (by simp [remainder, ht])
      have hlt : remainder dyn total m < total := by
        rw [remainder, if_neg ht]; exact Nat.mod_lt _ (Nat.pos_of_ne_zero ht)
      have hcount : withRemainder dyn total (m :: rest) = withRemainder dyn total rest + 1 := by simp [withRemainder, hm]
      rw [hcount, List.map_cons, List.sum_cons, Nat.mul_succ]
      omega

/-- The whole parts leave at most 1 kN for each member with a remainder, and never more than there is (R32). -/
theorem bases_bounds {dyn : Nat} {k : List Member} (h : dyn ≤ sumA k) :
    (k.map (base dyn (sumA k))).sum ≤ dyn ∧ dyn ≤ (k.map (base dyn (sumA k))).sum + withRemainder dyn (sumA k) k := by
  rcases Nat.eq_zero_or_pos (sumA k) with ht | ht
  · obtain rfl : dyn = 0 := by omega
    have hbase : base 0 (sumA k) = fun _ => 0 := by funext m; simp [base]
    simp [hbase]
  · have hall := bases_and_remainders (dyn := dyn) ht k
    have hrest := remainders_le dyn (sumA k) k
    have hnonneg := Nat.zero_le (k.map (remainder dyn (sumA k))).sum
    constructor <;> refine Nat.le_of_mul_le_mul_left ?_ ht <;> linarith

/-- The shares add up to the dynamic total (R33). -/
theorem shares_sum {dyn : Nat} {k : List Member} (h : dyn ≤ sumA k) : ((shares dyn k).map Prod.snd).sum = dyn := by
  obtain ⟨hle, hge⟩ := bases_bounds h
  rw [shares, sharesFrom_sum, leftOver]
  omega

/-- A member with a remainder has room for 1 kN over its base. -/
theorem base_le {dyn total : Nat} (h : dyn ≤ total) (m : Member) :
    base dyn total m ≤ m.a ∧ (remainder dyn total m ≠ 0 → base dyn total m < m.a) := by
  have hmul : dyn * m.a ≤ total * m.a := Nat.mul_le_mul_right _ h
  refine ⟨Nat.div_le_of_le_mul hmul, fun hr => ?_⟩
  have ht : total ≠ 0 := fun ht => hr (by simp [remainder, ht])
  have hdiv : total * base dyn total m + remainder dyn total m = dyn * m.a := by
    rw [base, remainder, if_neg ht]; exact Nat.div_add_mod _ _
  exact Nat.lt_of_mul_lt_mul_left (a := total) (by omega)

/-- With the total within its bound, a remainder is the exact share's own, also where nothing is available. -/
theorem remainder_eq {dyn : Nat} {k : List Member} (h : dyn ≤ sumA k) (m : Member) :
    remainder dyn (sumA k) m = dyn * m.a % sumA k := by
  unfold remainder
  split
  · obtain rfl : dyn = 0 := by omega
    simp
  · rfl

/-! ### The air efforts -/

/-- Each air effort is at least the exact part of the shortfall, and less than 1 kN above it (R35). -/
theorem airEfforts_bounds {shortfall total : Nat} (ht : 0 < total) (k : List Member) :
    shortfall * sumR k ≤ total * (k.map fun m => ceilDiv (shortfall * m.r) total).sum ∧
    total * (k.map fun m => ceilDiv (shortfall * m.r) total).sum + k.length ≤ shortfall * sumR k + total * k.length := by
  induction k with
  | nil => simp [sumR]
  | cons m rest ih =>
    obtain ⟨ihle, ihlt⟩ := ih
    obtain ⟨hle, hlt⟩ := roundedUp_bounds (shortfall * m.r) ht
    have hm : ceilDiv (shortfall * m.r) total = (shortfall * m.r + total - 1) / total := if_neg (by omega)
    rw [← hm] at hle hlt
    simp only [sumR, List.map_cons, List.sum_cons, List.length_cons] at ihle ihlt ⊢
    constructor <;> linarith

/-- Settles O42: the shares one by one and in sum, and the bounds of the air efforts divided by the sum of the ratings. -/
theorem sharesAddUpAndAirCoversTheGap : Obligations.SharesAddUpAndAirCoversTheGap := by
  unfold Obligations.SharesAddUpAndAirCoversTheGap
  intro k dyn h
  refine ⟨shares_sum h, sharesFrom_stations _ _ _ _, fun i m hm => ⟨_, sharesFrom_getElem? hm, ?_, ?_⟩,
    fun shortfall hr => ?_⟩
  · obtain ⟨hle, hlt⟩ := base_le h m
    split
    · rename_i hone
      exact hlt hone.1
    · exact hle
  · simp only [remainder_eq h]; rfl
  · obtain ⟨hle, hlt⟩ := airEfforts_bounds (shortfall := shortfall) hr k
    have hlength : 0 < k.length := by
      rw [List.length_pos_iff]
      rintro rfl
      exact absurd hr (lt_irrefl 0)
    constructor
    · exact Nat.le_of_mul_le_mul_left (by linarith) hr
    · exact Nat.lt_of_mul_lt_mul_left (a := sumR k) (by linarith)

end Sys2Proof.Machine
end

section
/-!
PROOFS. The blend computation as a command: what it stores (O41), and what it hands over with the shortfall watch (O43).
-/

namespace Sys2Proof.Machine

open Sys2Proof

/-! ### The results -/

/-- Under UNHEARD, under DUPLICATE and with no other member in K the results are the own station's (R29, R36). -/
theorem blendResult_local {s : State} (h : s.roster.unheard = true ∨ s.roster.duplicate = true ∨
    (setK s.ownMember s.roster.entries).length ≤ 1) : s.blendResult = localBlend s.demand.dEff s.ownMember := by
  have hmode : selectMode s.roster.unheard s.roster.duplicate (setK s.ownMember s.roster.entries) = .localBlend :=
    if_pos (by rcases h with h | h | h <;> simp [h])
  simp only [State.blendResult, hmode]

/-- In every other case they are formed over K (R29 to R35). -/
theorem blendResult_shared {s : State} (hu : s.roster.unheard = false) (hd : s.roster.duplicate = false)
    (hk : 1 < (setK s.ownMember s.roster.entries).length) :
    s.blendResult = sharedBlend s.demand.dEff s.ownMember (setK s.ownMember s.roster.entries) := by
  have hmode : selectMode s.roster.unheard s.roster.duplicate (setK s.ownMember s.roster.entries) = .sharedBlend :=
    if_neg (by simpa [hu, hd] using hk)
  simp only [State.blendResult, hmode]

/-- A_own is stored in either mode (R37). -/
theorem blendResult_avail (s : State) : s.blendResult.avail = s.ownMember.a := by
  unfold State.blendResult
  simp only []
  split <;> rfl

/-- A passage leaves everything that a computation reads but the clock. -/
@[simp] theorem advance_ownMember (dt : Passage) (s : State) : (s.advance dt).ownMember = s.ownMember := by
  simp [State.ownMember]

@[simp] theorem advance_blendResult (dt : Passage) (s : State) : (s.advance dt).blendResult = s.blendResult := by
  simp [State.blendResult]

/-- A blend computation that is due, as a command. -/
theorem exec_blendComputation {dt : Passage} {s : State} (ha : Accepts s) :
    exec (.blendComputation dt) s = .next (blendEffect (s.advance dt)) := exec_accepted ha

/-- The results that a blend computation stores, and the shortfall watch's own two fields (R37, R41, R42). -/
theorem blendEffect_advance_blend {dt : Passage} {s : State} (due : timerDue s.blend.timer 20 (s.advance dt).now = true) :
    (blendEffect (s.advance dt)).blend = { s.blend with
      timer := timerNext s.blend.timer 20
      mode := s.blendResult.mode
      avail := s.blendResult.avail
      target := s.blendResult.target
      dyn := s.blendResult.dyn
      shortfall := s.blendResult.shortfall
      dTarget := s.blendResult.dTarget
      air := s.blendResult.air
      shortfallSince := (s.advance dt).handedOver.shortfallWatched.shortfallSince
      shortfallOpen := (s.advance dt).handedOver.shortfallWatched.shortfallOpen } := by
  rw [blendEffect_blend (by simpa using due)]
  simp [State.shortfallWatched, handedOver_blend, BlendUnit.store]

/-- K with at most one member is the own station alone. -/
theorem setK_alone_iff {own : Member} {r : Roster} (h1 : 1 ≤ own.station) (h2 : own.station ≤ r.entries.length) :
    (setK own r.entries).length ≤ 1 ↔ setK own r.entries = [own] := by
  have hown := own_mem_setK h1 h2
  constructor
  · intro hl
    obtain ⟨m, hm⟩ := List.length_eq_one_iff.1 (Nat.le_antisymm hl (List.length_pos_of_mem hown))
    rw [hm] at hown ⊢
    rw [List.mem_singleton.1 hown]
  · intro h; rw [h]; rfl

/-- The share of a station that has one stands in the list. -/
theorem shareOf_mem {n : Nat} {sh : List (Nat × Nat)} (h : n ∈ sh.map Prod.fst) : (n, shareOf n sh) ∈ sh := by
  obtain ⟨x, hx, hn⟩ := List.mem_map.1 h
  unfold shareOf
  split
  · rename_i y hy
    have hy1 : y.1 = n := by simpa using List.find?_some hy
    rw [← hy1]
    exact List.mem_of_find?_eq_some hy
  · rename_i hnone
    exact absurd (List.find?_eq_none.1 hnone x hx) (by simp [hn])

/-- Each member's rating counts in the sum. -/
theorem r_le_sumR {m : Member} {k : List Member} (h : m ∈ k) : m.r ≤ sumR k :=
  List.single_le_sum (by simp) _ (List.mem_map_of_mem h)

/-- Settles O41: which mode a computation takes, and the results that the mode gives. -/
theorem blendResultsFollowTheMode : Obligations.BlendResultsFollowTheMode := by
  unfold Obligations.BlendResultsFollowTheMode
  intro dt s ha due hr hl h1 h8
  have hblend := blendEffect_advance_blend due
  refine ⟨_, exec_blendComputation ha, by rw [hblend], by rw [hblend]; exact blendResult_avail s, ?_⟩
  rintro k rfl
  have halone := setK_alone_iff (own := s.ownMember) (r := s.roster) h1 (hl.symm ▸ h8)
  constructor
  · intro h
    rw [hblend, blendResult_local (by rwa [halone])]
    exact ⟨rfl, rfl, rfl, rfl, rfl, rfl⟩
  · intro hu hd hk
    have hown := own_mem_setK (own := s.ownMember) (r := s.roster) h1 (hl.symm ▸ h8)
    have hsum : 0 < sumR (setK s.ownMember s.roster.entries) := hr.trans_le (r_le_sumR hown)
    rw [hblend, blendResult_shared hu hd (Nat.lt_of_not_le (mt halone.1 hk))]
    refine ⟨rfl, rfl, rfl, shareOf_mem ?_, rfl, ?_⟩
    · rw [shares, sharesFrom_stations]
      exact List.mem_map_of_mem hown
    · rw [← Nat.add_sub_assoc hsum]
      exact if_neg (by omega)

/-! ### The hand-over -/

/-- The shortfall watch after the hand-over, in the terms of the state that the computation finds (R41, R42). -/
theorem handedOver_shortfall {s : State} :
    (s.handedOver.shortfallHolds = true ↔ s.demand.emergency = .clear ∧ s.params.rAir < s.blendResult.air) ∧
    s.handedOver.blend.shortfallSince = s.blend.shortfallSince ∧
    s.handedOver.blend.shortfallOpen = s.blend.shortfallOpen := by
  have hparams : s.handedOver.params = s.params := params_congr (by simp)
  refine ⟨?_, ?_, ?_⟩
  · simp [State.shortfallHolds, hparams, handedOver_blend, BlendUnit.store]
  · rw [handedOver_blend]; rfl
  · rw [handedOver_blend]; rfl

theorem shortfallRaises_iff {now : Time} {u : BlendUnit} : u.shortfallRaises now = true ↔
    u.shortfallOpen = false ∧ ∃ since, u.shortfallSince = some since ∧ 2000 ≤ elapsed since now := by
  unfold BlendUnit.shortfallRaises
  cases u.shortfallSince with
  | none => simp
  | some since => simp [and_comm]

/-- The shortfall watch by whether the condition holds and whether SHORTFALL is raised, whose occurrence is its own source's alone
(R41, R42, R137). -/
theorem shortfallWatch_spec {s t : State} (ht : t = shortfallWatch s) (hl : s.recorder.lastOccurrence.length = 12)
    {short raised : Prop} (hshort : short ↔ s.shortfallHolds = true)
    (hraised : raised ↔ short ∧ s.blend.shortfallOpen = false ∧
      ∃ since, s.blend.shortfallSince = some since ∧ 2000 ≤ elapsed since s.now) :
    (short → t.blend.shortfallSince = some (s.blend.shortfallSince.getD s.now)) ∧
    (¬ short → t.blend.shortfallSince = none) ∧
    (t.blend.shortfallOpen = true ↔ raised ∨ (short ∧ s.blend.shortfallOpen = true)) ∧
    (raised → t.recorder.lastOccurrenceOf 6 = some s.now) ∧
    (¬ raised → t.recorder.lastOccurrenceOf 6 = s.recorder.lastOccurrenceOf 6) := by
  rw [← shortfallRaises_iff] at hraised
  have hopens : s.shortfallOpens = true ↔ raised := by rw [State.shortfallOpens, Bool.and_eq_true, hraised, hshort]
  have hblend : t.blend = s.shortfallWatched := ht ▸ shortfallWatch_blend s
  rw [hblend, State.shortfallWatched]
  refine ⟨fun h => if_pos (hshort.1 h), fun h => if_neg (mt hshort.2 h), ?_, fun h => ?_, fun h => ?_⟩
  · rw [hraised, hshort]
    simp only [Bool.and_eq_true, Bool.or_eq_true]
    tauto
  · rw [ht, shortfallWatch_eq, if_pos (hopens.2 h)]
    exact raise_lastOccurrenceOf .shortfall hl (by decide)
  · rw [ht, shortfallWatch_eq, if_neg (mt hopens.1 h)]
    rfl

/-- Besides the Blend Unit, the requests and the roster a blend computation changes only what a raising may (R37 to R42). -/
theorem raisedFrom_blendEffect {s : State} (due : timerDue s.blend.timer 20 s.now = true) :
    RaisedFrom (((s.setBlend (blendEffect s).blend).setOutput { s.output with
      dReq := (blendEffect s).output.dReq, pReq := (blendEffect s).output.pReq }).setRoster (blendEffect s).roster)
      (blendEffect s) := by
  have hbase : ((s.setBlend (blendEffect s).blend).setOutput { s.output with
      dReq := (blendEffect s).output.dReq, pReq := (blendEffect s).output.pReq }).setRoster (blendEffect s).roster =
      s.handedOver.setBlend s.handedOver.shortfallWatched := by
    rw [blendEffect_blend due, blendEffect_output due, blendEffect_due due, handOff_eq]
    apply State.ext_blocks
    case output => simp [handedOver_output, handOff_eq]
    all_goals simp
  rw [hbase, blendEffect_due due, shortfallWatch_eq]
  split
  · exact raisedFrom_raiseWith _ _ _ _
  · exact .refl _

/-- The roster after a blend computation: the own entry refreshed (R39). -/
theorem blendEffect_roster {s : State} (due : timerDue s.blend.timer 20 s.now = true) :
    (blendEffect s).roster = s.roster.setEntry s.control.station (Entry.ownSelf (ownFields s.output.participation
      s.params.rOwn (blendEffect s).blend.avail s.output.eOwn s.speed.vRef s.demand.dEff)) := by
  have havail : (blendEffect s).blend.avail = s.blendResult.avail := by
    rw [blendEffect_blend due, State.shortfallWatched, handedOver_blend]; rfl
  rw [havail, blendEffect_due due, ← handedOver_roster]; simp

/-- Settles O43: the requests, the own entry and the shortfall watch of a computation, and its frame. -/
theorem blendCompletionHandsOver : Obligations.BlendCompletionHandsOver := by
  unfold Obligations.BlendCompletionHandsOver
  intro dt s ha due hair hl h1 h8 hocc
  have due' : timerDue (s.advance dt).blend.timer 20 (s.advance dt).now = true := by simpa using due
  have hexec := exec_blendComputation (dt := dt) ha
  have hblend := blendEffect_advance_blend due
  have houtput := blendEffect_output due'
  have hroster := blendEffect_roster due'
  have hraised := raisedFrom_blendEffect due'
  have hnow : (blendEffect (s.advance dt)).now = (s.advance dt).now := now_congr (by simp)
  simp only [advance_frame, advance_params, advance_blendResult, handOff_eq] at houtput hroster hraised
  refine ⟨_, hexec, ?dReq, ?pReq, ?own, fun n hn => ?peers, ?roster, fun short raised hshort hraises => ?watch, hraised⟩
  case dReq =>
    rintro target rfl
    rw [houtput, hblend]
    exact Nat.min_comm _ _
  case pReq =>
    rw [houtput, hblend]
    simp only [pressureRequest, roundDiv, if_neg (Nat.ne_of_gt hair)]
  case own => rw [hroster]; exact Roster.setEntry_entry?_same h1 (hl.symm ▸ h8)
  case peers => rw [hroster]; exact Roster.setEntry_entry?_other h1 hn
  case roster => rw [hroster]; rfl
  case watch =>
    obtain ⟨hholds, hsince, hopen⟩ := handedOver_shortfall (s := s.advance dt)
    have hhnow : (s.advance dt).handedOver.now = (s.advance dt).now := now_congr (by simp)
    have hwatch := shortfallWatch_spec (short := short) (raised := raised) (blendEffect_due due') (by simpa using hocc)
    simp only [hholds, hsince, hopen, hhnow, handedOver_frame, advance_frame, advance_params, advance_blendResult] at hwatch
    rw [hnow] at hraises ⊢
    exact hwatch (by rw [hshort, hblend]) hraises

end Sys2Proof.Machine
end

section
/-!
PROOFS. The power-fail warning outside RUN and the release timer (R186, R187, O25).
-/

namespace Sys2Proof.Machine

open Sys2Proof

/-! ### Return to RUN -/

/-- The unheard condition is read from the mode, the station number and the roster's entries (R123). -/
theorem unheardCondition_congr {s t : State} (control : t.control = s.control) (entries : t.roster.entries = s.roster.entries) :
    t.unheardCondition = s.unheardCondition := by
  simp only [State.unheardCondition, Roster.presentEntries, control, entries]

/-- The unheard run after its evaluation (R123). -/
theorem evalUnheard_roster {s t : State} (control : t.control = s.control) (roster : t.roster = s.roster)
    (now : t.now = s.now) : (evalUnheard t).roster = { s.roster with
      unheardSince := if s.unheardCondition then some (s.roster.unheardSince.getD s.now) else none } := by
  rw [evalUnheard, unheardCondition_congr control (by rw [roster]), roster, now]; rfl

/-- The roster after an entry to RUN, whose condition the entry leaves as it was evaluated (R123). -/
theorem runOutputs_roster (s : State) : (runOutputs s).roster = { s.roster with
    unheardSince := if (runOutputs s).unheardCondition then some (s.roster.unheardSince.getD s.now) else none } := by
  have hroster : (runOutputs s).roster = { s.roster with
      unheardSince := if s.unheardCondition then some (s.roster.unheardSince.getD s.now) else none } :=
    evalUnheard_roster (t := takeSlideCommands
      ((s.setBlend { s.blend with timer := some s.now }).setOutput s.output.enterRun)) (by simp) (by simp) rfl
  rw [unheardCondition_congr (s := s) (by simp) (by rw [hroster]), hroster]

/-- Without a warning a return from SAFE ends in RUN (R185, R187). -/
theorem enterRun_return {s : State} (h : s.control.warning = false) :
    enterRun false s = runOutputs (changeMode .run s) := by
  simp [enterRun, warningAtEntry, h]

/-! ### The release timer -/

/-- The release timer's expiry in SAFE (R187). -/
theorem releaseTimerEffect_due {s : State} (hm : s.control.mode = .safe)
    (due : timerDue s.control.releaseTimer 500 s.now = true) :
    (s.control.recheckFailed = true → releaseTimerEffect s = s.setControl { s.control with releaseTimer := none }) ∧
    (s.control.recheckFailed = false → s.recordChecks = false →
      releaseTimerEffect s = s.setControl { s.control with releaseTimer := none, recheckFailed := true }) ∧
    (s.control.recheckFailed = false → s.recordChecks = true →
      releaseTimerEffect s = enterRun false (s.setControl { s.control with releaseTimer := none })) := by
  have hsame : (s.setControl { s.control with releaseTimer := none }).recordChecks = s.recordChecks := rfl
  unfold releaseTimerEffect
  rw [if_pos ⟨hm, due⟩]
  simp only [State.setControl_control, hsame]
  exact ⟨fun h => if_pos h, fun h hc => by rw [if_neg (by simp [h]), if_neg (by simp [hc])]; rfl,
    fun h hc => by rw [if_neg (by simp [h]), if_pos hc]⟩

/-- Settles O25: the two changes of the warning, and the release timer's expiry by the recheck's outcome. -/
theorem warningAndReleaseTimerGovernSafe : Obligations.WarningAndReleaseTimerGovernSafe := by
  unfold Obligations.WarningAndReleaseTimerGovernSafe
  intro dt s ha
  have hasserted : exec (.powerFailWarningAsserted dt) s = .next (warningAssertedEffect (s.advance dt)) := exec_accepted ha
  have hdeasserted : exec (.powerFailWarningDeasserted dt) s = .next (warningDeassertedEffect (s.advance dt)) :=
    exec_accepted ha
  have hexpiry : exec (.releaseTimerExpiry dt) s = .next (releaseTimerEffect (s.advance dt)) := exec_accepted ha
  refine ⟨fun hm => ?asserted, fun hm => ?inSafe, fun hm => ?outsideSafe, fun h => ?early, fun hm due r hr => ?due⟩
  case asserted => rw [hasserted]; simp [warningAssertedEffect, hm]
  case inSafe => rw [hdeasserted]; simp [warningDeassertedEffect, hm]
  case outsideSafe => rw [hdeasserted]; simp [warningDeassertedEffect, hm]
  case early =>
    rw [hexpiry, releaseTimerEffect, if_neg]
    simpa [or_iff_not_imp_left] using h
  have hchecks := recordChecks_eq (s := s.advance dt) hr
  obtain ⟨hfailed, hmismatch, hmatch⟩ := releaseTimerEffect_due (s := s.advance dt) hm due
  rw [hchecks, decide_eq_false_iff_not] at hmismatch
  rw [hchecks, decide_eq_true_eq] at hmatch
  rw [hexpiry]
  refine ⟨fun h => congrArg _ (hfailed h), fun h hc => congrArg _ (hmismatch h hc), fun h hc hw => ?_⟩
  have hrun : releaseTimerEffect (s.advance dt) =
      runOutputs (changeMode .run ((s.advance dt).setControl { s.control with releaseTimer := none })) := by
    rw [hmatch h hc]; exact enterRun_return hw
  refine ⟨_, congrArg _ hrun, ?_⟩
  generalize hu : changeMode .run ((s.advance dt).setControl { s.control with releaseTimer := none }) = u
  have hnow : (runOutputs u).now = u.now := now_congr (by simp)
  refine ⟨?control, ?blend, ?output, ?recorder, ?roster, ?others⟩
  case blend => rw [runOutputs_blend, hnow]; subst hu; simp
  case output => rw [runOutputs_output]; subst hu; simp
  case roster => rw [hnow, runOutputs_roster]; subst hu; simp
  case recorder => subst hu; simp [hm, State.now]
  all_goals subst hu; simp

end Sys2Proof.Machine
end

section
/-!
PROOFS. The speed sweep (R49 to R60), axle by axle: what each of its steps does to an axle and to V_ref. On it rest the sweep's
own statements (O33 to O35) and the ranges of the Speed Unit (O7).
-/

namespace Sys2Proof.Machine

open Sys2Proof

/-! ### Step 1: measuring an axle -/

/-- The axle with its edges used up and a speed measured up to the edge `new` (R50, R51). -/
def Axle.measuredAt (new : Time) (speed : Nat) (a : Axle) : Axle :=
  { a.clearEdges with prevSpeed := a.speed, speed := speed, lastEdge := some new }

/-- The axle with no new speed; its last edge time is kept, or is a first edge (R52, R53). -/
def Axle.heldAt (last : Option Time) (a : Axle) : Axle :=
  { a.clearEdges with prevSpeed := a.speed, lastEdge := last }

/-- The axle without an edge for 250 ms (R53). -/
def Axle.silenced (a : Axle) : Axle :=
  { a.clearEdges with prevSpeed := a.speed, speed := 0, status := .noEdge, lastEdge := none, recoverySince := none }

theorem measure_fromLast {a : Axle} {new last : Time} (hc : 0 < a.edgeCount) (hn : a.newestEdge = some new)
    (hl : a.lastEdge = some last) (k : Nat) (micros : Time) :
    a.measure k micros = (a.measuredAt new (measuredSpeed a.edgeCount k (elapsed last new)), .speed) := by
  obtain ⟨c, hc⟩ := Nat.exists_eq_add_of_lt hc
  rw [Nat.zero_add] at hc
  simp [Axle.measure, Axle.measureEdges, hc, hn, hl, Axle.measuredAt, Axle.clearEdges]

theorem measure_fromFirst {a : Axle} {new first : Time} (hc : 2 ≤ a.edgeCount) (hn : a.newestEdge = some new)
    (hl : a.lastEdge = none) (hf : a.firstNewEdge = some first) (k : Nat) (micros : Time) :
    a.measure k micros = (a.measuredAt new (measuredSpeed (a.edgeCount - 1) k (elapsed first new)), .speed) := by
  obtain ⟨c, hc'⟩ := Nat.exists_eq_add_of_le' hc
  simp [Axle.measure, Axle.measureEdges, hc', hn, hl, hf, Axle.measuredAt, Axle.clearEdges]

theorem measure_start {a : Axle} {new : Time} (hc : a.edgeCount = 1) (hn : a.newestEdge = some new) (hl : a.lastEdge = none)
    (k : Nat) (micros : Time) : a.measure k micros = (a.heldAt (some new), .held) := by
  simp [Axle.measure, Axle.measureEdges, hc, hn, hl, Axle.heldAt, Axle.clearEdges]

/-- Without a new edge, whether 250 ms have passed since the last one decides (R53). -/
theorem measure_noEdges {a : Axle} (hn : a.newestEdge = none) (k : Nat) (micros : Time) : a.measure k micros =
    if ∃ last, a.lastEdge = some last ∧ 250000 ≤ elapsed last micros then (a.silenced, .noEdge)
    else (a.heldAt a.lastEdge, .held) := by
  have hnone : a.measure k micros = ((a.measureNone micros).1.clearEdges, (a.measureNone micros).2) := by
    unfold Axle.measure
    split
    · rename_i hnew; rw [hn] at hnew; cases hnew
    · rfl
  rw [hnone, Axle.measureNone]
  cases hl : a.lastEdge with
  | none => simp [Axle.heldAt, Axle.clearEdges, hl]
  | some last =>
    by_cases hd : 250000 ≤ elapsed last micros <;> simp [hd, Axle.silenced, Axle.heldAt, Axle.clearEdges, hl]

theorem measure_silent {a : Axle} {last : Time} (hn : a.newestEdge = none) (hl : a.lastEdge = some last) {micros : Time}
    (hd : 250000 ≤ elapsed last micros) (k : Nat) : a.measure k micros = (a.silenced, .noEdge) := by
  rw [measure_noEdges hn, if_pos ⟨last, hl, hd⟩]

theorem measure_quiet {a : Axle} {micros : Time} (hn : a.newestEdge = none)
    (hq : ∀ last, a.lastEdge = some last → elapsed last micros < 250000) (k : Nat) :
    a.measure k micros = (a.heldAt a.lastEdge, .held) := by
  rw [measure_noEdges hn, if_neg]
  rintro ⟨last, hl, hd⟩
  exact absurd (hq last hl) (by omega)

theorem measuredSpeed_le (m k dt : Nat) : measuredSpeed m k dt ≤ 16000 := by
  unfold measuredSpeed; split <;> omega

/-- Whether the sweep measures a speed of the axle: from the last edge used, or from two new ones (R51, R52). -/
def Axle.measures (a : Axle) : Prop := 2 ≤ a.edgeCount ∨ (a.edgeCount = 1 ∧ a.lastEdge ≠ none)

/-- An axle without new edges has gone silent at a microsecond reading (R53). -/
def Axle.silentAt (micros : Time) (a : Axle) : Prop :=
  a.edgeCount = 0 ∧ ∃ last, a.lastEdge = some last ∧ 250000 ≤ elapsed last micros

/-- Step 1 in its three outcomes: a speed is measured, the old one is held, or the axle is silent (R51 to R54). -/
theorem measure_cases {a : Axle} (h : AxleSafe a) (k : Nat) (micros : Time) :
    (a.measures ∧ ∃ new v, v ≤ 16000 ∧ a.measure k micros = (a.measuredAt new v, .speed)) ∨
    (¬ a.measures ∧ ¬ a.silentAt micros ∧
      ∃ last, (a.lastEdge.isSome = true → last.isSome = true) ∧ a.measure k micros = (a.heldAt last, .held)) ∨
    (¬ a.measures ∧ a.silentAt micros ∧ a.measure k micros = (a.silenced, .noEdge)) := by
  have hnewest := h.newest
  have hfirst := h.first
  cases hn : a.newestEdge with
  | some new =>
    have hc : 0 < a.edgeCount := by simpa [hn] using hnewest
    cases hl : a.lastEdge with
    | some last =>
      have hm : a.measures := by simp [Axle.measures, hl]; omega
      exact .inl ⟨hm, new, _, measuredSpeed_le _ _ _, measure_fromLast hc hn hl k micros⟩
    | none =>
      by_cases h2 : 2 ≤ a.edgeCount
      · obtain ⟨first, hf⟩ := Option.isSome_iff_exists.1 (hfirst.trans (decide_eq_true hc))
        exact .inl ⟨.inl h2, new, _, measuredSpeed_le _ _ _, measure_fromFirst h2 hn hl hf k micros⟩
      · exact .inr (.inl ⟨by simp [Axle.measures, h2, hl], by simp [Axle.silentAt, hl], some new, by simp,
          measure_start (by omega) hn hl k micros⟩)
  | none =>
    have hc : a.edgeCount = 0 := by simpa [hn] using hnewest
    have hm : ¬ a.measures := by simp [Axle.measures, hc]
    rw [measure_noEdges hn]
    by_cases hs : ∃ last, a.lastEdge = some last ∧ 250000 ≤ elapsed last micros
    · exact .inr (.inr ⟨hm, ⟨hc, hs⟩, if_pos hs⟩)
    · exact .inr (.inl ⟨hm, fun hsil => hs hsil.2, a.lastEdge, id, if_neg hs⟩)

/-! ### Steps 2 and 4: status and recovery -/

/-- Step 2 changes the status and the recovery alone (R54, R55). -/
theorem settle_frame (m : Measured) (a : Axle) :
    a.settle m = { a with status := (a.settle m).status, recoverySince := (a.settle m).recoverySince } := by
  unfold Axle.settle
  repeat' split
  all_goals rfl

/-- An axle that step 1 held or found silent keeps its status (R54, R55). -/
theorem settle_of_ne_speed {m : Measured} (h : m ≠ .speed) (a : Axle) : a.settle m = a := by
  cases m with
  | speed => exact absurd rfl h
  | held => simp [Axle.settle]
  | noEdge => simp [Axle.settle]

theorem settle_noEdge {a : Axle} (h : a.status = .noEdge) : a.settle .speed = { a with status := .ok } := by
  simp [Axle.settle, h]

/-- An axle that drops too far in one sweep (R55). -/
def Axle.suspected (a : Axle) : Axle := { a with status := .suspect, recoverySince := none }

theorem settle_ok {a : Axle} (h : a.status = .ok) :
    a.settle .speed = if a.speed + 60 < a.prevSpeed then a.suspected else a := by
  simp [Axle.settle, h, Axle.suspected]

theorem settle_suspect {a : Axle} (h : a.status = .suspect) (m : Measured) : a.settle m = a := by
  cases m <;> simp [Axle.settle, h]

/-- Step 4 changes the status and the recovery alone (R56). -/
theorem recover_frame (vRef : Nat) (now : Time) (a : Axle) :
    a.recover vRef now =
      { a with status := (a.recover vRef now).status, recoverySince := (a.recover vRef now).recoverySince } := by
  unfold Axle.recover
  repeat' split
  all_goals rfl

/-- Step 4 concerns SUSPECT axles alone (R56). -/
theorem recover_of_ne_suspect {a : Axle} (h : a.status ≠ .suspect) (vRef : Nat) (now : Time) : a.recover vRef now = a := by
  rw [Axle.recover, if_neg h]

theorem sweep_of_measure {a b : Axle} {m : Measured} {k : Nat} {micros : Time} (h : a.measure k micros = (b, m)) :
    a.sweep k micros = b.settle m := by rw [Axle.sweep, h]

/-- One axle after the four steps of a sweep that forms `vRef`. -/
def Axle.swept (k : Nat) (micros : Time) (vRef : Nat) (now : Time) (a : Axle) : Axle := (a.sweep k micros).recover vRef now

/-- Of the axle that step 1 leaves, steps 2 and 4 change the status and the recovery alone. -/
theorem swept_frame (k : Nat) (micros : Time) (vRef : Nat) (now : Time) (a : Axle) :
    a.swept k micros vRef now = { (a.measure k micros).1 with
      status := (a.swept k micros vRef now).status, recoverySince := (a.swept k micros vRef now).recoverySince } := by
  rw [Axle.swept, recover_frame, sweep_of_measure (Prod.mk.eta).symm, settle_frame]

/-! ### Step 3: the reference speed -/

/-- Step 3 leaves the axles, their constants and the timer, and no sweep but the first initialises (R57 to R60). -/
theorem formVRef_frame (served rise fall : Nat) (peers : List Nat) (u : SpeedUnit) :
    (u.formVRef served rise fall peers).axles = u.axles ∧ (u.formVRef served rise fall peers).constants = u.constants ∧
    (u.formVRef served rise fall peers).initialising = false := by
  unfold SpeedUnit.formVRef
  split
  · exact ⟨rfl, rfl, rfl⟩
  · split <;> simp_all

theorem measureAll_some {ks : List Nat} {u : SpeedUnit} (h : u.constants = some ks) (served : Nat) (micros : Time) :
    u.measureAll served micros =
      { u with axles := u.axles.mapIdx fun i a => if i < served then a.sweep (ks.getD i 0) micros else a } := by
  simp [SpeedUnit.measureAll, h]

theorem measureAll_none {u : SpeedUnit} (h : u.constants = none) (served : Nat) (micros : Time) :
    u.measureAll served micros = u := by
  simp [SpeedUnit.measureAll, h]

/-- Steps 1 and 2 change the axles alone. -/
theorem measureAll_frame (served : Nat) (micros : Time) (u : SpeedUnit) :
    u.measureAll served micros = { u with axles := (u.measureAll served micros).axles } := by
  unfold SpeedUnit.measureAll; split <;> rfl

/-! ### The whole sweep -/

/-- A sweep's axles, when there are constants to measure by: each served axle after the four steps (R47, R49). -/
theorem sweep_axles {ks : List Nat} {u : SpeedUnit} (h : u.constants = some ks) (served rise fall : Nat) (peers : List Nat)
    (micros now : Time) (n : Nat) : (u.sweep served rise fall peers micros now).axles[n]? =
      u.axles[n]?.map fun a =>
        if n < served then a.swept (ks.getD n 0) micros (u.sweep served rise fall peers micros now).vRef now else a := by
  have hrecovered : (u.sweep served rise fall peers micros now).axles = (u.measureAll served micros).axles.mapIdx fun i a =>
      if i < served then a.recover (u.sweep served rise fall peers micros now).vRef now else a := by
    rw [← (formVRef_frame served rise fall peers (u.measureAll served micros)).1]; rfl
  rw [hrecovered, measureAll_some h, List.getElem?_mapIdx, List.getElem?_mapIdx, Option.map_map]
  congr 1
  funext a
  by_cases hn : n < served <;> simp [hn, Axle.swept]

/-- Step 4 leaves V_ref as step 3 forms it. -/
theorem sweep_formed (served rise fall : Nat) (peers : List Nat) (micros now : Time) (u : SpeedUnit) :
    u.sweep served rise fall peers micros now = { (u.measureAll served micros).formVRef served rise fall peers with
      axles := (u.sweep served rise fall peers micros now).axles } := rfl

theorem sweep_axles_length (served rise fall : Nat) (peers : List Nat) (micros now : Time) (u : SpeedUnit) :
    (u.sweep served rise fall peers micros now).axles.length = u.axles.length := by
  obtain ⟨haxles, -, -⟩ := formVRef_frame served rise fall peers (u.measureAll served micros)
  simp only [SpeedUnit.sweep, SpeedUnit.recoverAll, haxles, List.length_mapIdx]
  unfold SpeedUnit.measureAll; split <;> simp

theorem sweep_constants (served rise fall : Nat) (peers : List Nat) (micros now : Time) (u : SpeedUnit) :
    (u.sweep served rise fall peers micros now).constants = u.constants := by
  obtain ⟨-, hconstants, -⟩ := formVRef_frame served rise fall peers (u.measureAll served micros)
  rw [sweep_formed, hconstants, measureAll_frame]

/-- The Speed Unit after a sweep of the device. -/
def State.sweptSpeed (s : State) : SpeedUnit :=
  { s.speed.sweep s.control.axleCount s.params.vRise s.params.vFall s.roster.presentSpeeds s.micros s.now with
    sweepTimer := timerNext s.speed.sweepTimer 10 }

theorem speedSweepEffect_due {s : State} (due : timerDue s.speed.sweepTimer 10 s.now = true) :
    speedSweepEffect s = slideEvaluation (s.setSpeed s.sweptSpeed) := by
  rw [speedSweepEffect, if_pos due]; rfl

theorem speedSweepEffect_speed {s : State} (due : timerDue s.speed.sweepTimer 10 s.now = true) :
    (speedSweepEffect s).speed = s.sweptSpeed := by
  rw [speedSweepEffect_due due]; simp

theorem exec_speedSweep {dt : Passage} {s : State} (ha : Accepts s) :
    exec (.speedSweep dt) s = .next (speedSweepEffect (s.advance dt)) := exec_accepted ha

end Sys2Proof.Machine
end

section
/-!
PROOFS. What a sweep keeps in range: the axles and V_ref (R50 to R60), and the trucks that the slide evaluation moves (R66 to R77).
-/

namespace Sys2Proof.Machine

open Sys2Proof

/-! ### One axle -/

/-- A measured axle is in range when it is no longer NO_EDGE (R50, R51). -/
theorem AxleSafe.measuredAt {a : Axle} (h : AxleSafe a) (new : Time) {v : Nat} (hv : v ≤ 16000) {st : AxleStatus}
    (hst : st ≠ .noEdge) {since : Option Time} (hsince : since.isSome = true → st = .suspect) :
    AxleSafe { a.measuredAt new v with status := st, recoverySince := since } :=
  ⟨Nat.zero_le _, rfl, rfl, hv, h.speed, fun hn => absurd hn hst, fun _ => rfl, hsince⟩

/-- Steps 1 and 2 keep an axle's ranges: only a measured axle leaves NO_EDGE (R51 to R55). -/
theorem AxleSafe.sweep {a : Axle} (h : AxleSafe a) (k : Nat) (micros : Time) : AxleSafe (a.sweep k micros) := by
  rcases measure_cases h k micros with ⟨-, new, v, hv, hm⟩ | ⟨-, -, last, hlast, hm⟩ | ⟨-, -, hm⟩ <;>
    rw [sweep_of_measure hm]
  · cases hst : a.status with
    | noEdge =>
      rw [settle_noEdge (a := a.measuredAt new v) hst]
      exact h.measuredAt new hv (by simp) fun hr => absurd (h.recovery hr) (by simp [hst])
    | suspect =>
      rw [settle_suspect (a := a.measuredAt new v) hst]
      exact h.measuredAt new hv (st := a.status) (by simp [hst]) h.recovery
    | ok =>
      rw [settle_ok (a := a.measuredAt new v) hst]
      split
      · exact h.measuredAt new hv (by simp) (by simp)
      · exact h.measuredAt new hv (st := a.status) (by simp [hst]) h.recovery
  · rw [settle_of_ne_speed (by simp)]
    exact ⟨Nat.zero_le _, rfl, rfl, h.speed, h.speed, h.noEdge, fun hne => hlast (h.last hne), h.recovery⟩
  · rw [settle_of_ne_speed (by simp)]
    exact ⟨Nat.zero_le _, rfl, rfl, Nat.zero_le _, h.speed, fun _ => rfl, fun hne => absurd rfl hne, nofun⟩

/-- Step 4 makes a SUSPECT axle OK or keeps it (R56). -/
theorem AxleSafe.recover {a : Axle} (h : AxleSafe a) (vRef : Nat) (now : Time) : AxleSafe (a.recover vRef now) := by
  by_cases hs : a.status = .suspect
  case neg => rw [recover_of_ne_suspect hs]; exact h
  have hlast := h.last (by simp [hs])
  unfold Axle.recover
  rw [if_pos hs]
  repeat' split
  · exact ⟨h.edges, h.newest, h.first, h.speed, h.prev, h.noEdge, h.last, fun _ => hs⟩
  · exact ⟨h.edges, h.newest, h.first, h.speed, h.prev, nofun, fun _ => hlast, nofun⟩
  · exact h
  · exact ⟨h.edges, h.newest, h.first, h.speed, h.prev, h.noEdge, h.last, nofun⟩

/-- A captured edge: both edge times stand while there are new edges, and the count stops at 100 (R50). -/
theorem AxleSafe.edge {a : Axle} (h : AxleSafe a) (now : Time) : AxleSafe (a.edge now) := by
  have hcount : (a.edge now).edgeCount = if a.edgeCount = 100 then 100 else a.edgeCount + 1 := rfl
  have hpos : 0 < (a.edge now).edgeCount := by rw [hcount]; split <;> omega
  have hle := h.edges
  refine ⟨by rw [hcount]; split <;> omega, (decide_eq_true hpos).symm, ?_, h.speed, h.prev, h.noEdge, h.last, h.recovery⟩
  rw [decide_eq_true hpos]
  have hfirst : (a.edge now).firstNewEdge = if a.edgeCount = 0 then some now else a.firstNewEdge := rfl
  rw [hfirst]
  split
  · rfl
  · rw [h.first]; exact decide_eq_true (by omega)

/-! ### V_ref -/

/-- The greatest of a list is the one that none exceeds. -/
theorem greatest_eq_some_iff {l : List Nat} {c : Nat} : greatest l = some c ↔ c ∈ l ∧ ∀ x ∈ l, x ≤ c := by
  have hmax : greatest l = l.max? := by cases l <;> rfl
  rw [hmax]
  exact List.max?_eq_some_iff

theorem greatest_eq_none_iff {l : List Nat} : greatest l = none ↔ l = [] := by
  cases l <;> simp [greatest]

/-- The limits of R58 as a formula: they never cross. -/
theorem limitedVRef_eq (rise fall vPrev candidate : Nat) :
    limitedVRef rise fall vPrev candidate = max (vPrev - fall) (min (vPrev + rise) candidate) := by
  unfold limitedVRef clamp
  split_ifs <;> omega

theorem presentSpeeds_le {r : Roster} {v : Nat} (h : v ∈ r.presentSpeeds) : v ≤ 16000 := by
  obtain ⟨e, -, rfl⟩ := List.mem_map.1 h
  split <;> omega

/-- The ranges of the Speed Unit itself (R47, R50 to R58). -/
structure SpeedUnit.InRange (u : SpeedUnit) : Prop where
  axles : u.axles.length = 6
  each : ∀ a ∈ u.axles, AxleSafe a
  vRef : u.vRef ≤ 16000

theorem SpeedUnit.InRange.measureAll {u : SpeedUnit} (h : u.InRange) (served : Nat) (micros : Time) :
    (u.measureAll served micros).InRange := by
  cases hk : u.constants with
  | none => rw [measureAll_none hk]; exact h
  | some ks =>
    rw [measureAll_some hk]
    refine ⟨(List.length_mapIdx ..).trans h.axles, fun a ha => ?_, h.vRef⟩
    obtain ⟨i, hi, rfl⟩ := List.mem_mapIdx.1 ha
    have hsafe := h.each _ (List.getElem_mem hi)
    split
    · exact hsafe.sweep _ _
    · exact hsafe

theorem SpeedUnit.InRange.okSpeeds_le {u : SpeedUnit} (h : u.InRange) {served v : Nat} (hv : v ∈ u.okSpeeds served) :
    v ≤ 16000 := by
  obtain ⟨a, ha, rfl⟩ := List.mem_map.1 hv
  exact (h.each a (List.mem_of_mem_take (List.mem_of_mem_filter ha))).speed

/-- V_ref is a speed in range or lies between the last one and a speed in range (R57 to R60). -/
theorem SpeedUnit.InRange.formVRef {u : SpeedUnit} (h : u.InRange) (served rise fall : Nat) {peers : List Nat}
    (hpeers : ∀ v ∈ peers, v ≤ 16000) : (u.formVRef served rise fall peers).InRange := by
  have hvRef := h.vRef
  unfold SpeedUnit.formVRef
  split
  · refine ⟨h.axles, h.each, ?_⟩
    cases hg : greatest (u.okSpeeds served) with
    | none => exact Nat.zero_le _
    | some c => exact h.okSpeeds_le (greatest_eq_some_iff.1 hg).1
  · split
    · exact ⟨h.axles, h.each, hvRef⟩
    · rename_i c hg
      have hc : c ≤ 16000 := by
        rcases List.mem_append.1 (greatest_eq_some_iff.1 hg).1 with hown | hpeer
        · exact h.okSpeeds_le hown
        · exact hpeers c hpeer
      exact ⟨h.axles, h.each, by rw [limitedVRef_eq]; exact max_le (by omega) (by omega)⟩

theorem SpeedUnit.InRange.recoverAll {u : SpeedUnit} (h : u.InRange) (served : Nat) (now : Time) :
    (u.recoverAll served now).InRange := by
  refine ⟨(List.length_mapIdx ..).trans h.axles, fun a ha => ?_, h.vRef⟩
  obtain ⟨i, hi, rfl⟩ := List.mem_mapIdx.1 ha
  have hsafe := h.each _ (List.getElem_mem hi)
  split
  · exact hsafe.recover _ _
  · exact hsafe

/-- A sweep of the device keeps the ranges. -/
theorem SpeedUnit.InRange.sweptSpeed {s : State} (h : s.speed.InRange) : s.sweptSpeed.InRange := by
  obtain ⟨axles, each, vRef⟩ := ((h.measureAll s.control.axleCount s.micros).formVRef s.control.axleCount s.params.vRise
    s.params.vFall (fun _ => presentSpeeds_le (r := s.roster))).recoverAll s.control.axleCount s.now
  exact ⟨axles, each, vRef⟩

/-! ### One truck -/

/-- A truck whose release time is cleared when it is NORMAL, as step 5 clears it (R77). -/
def Truck.cleared (t : Truck) : Truck := if t.state = .normal then { t with releaseTime := 0 } else t

/-- A truck outside LOCKOUT has release time left. -/
theorem TruckSafe.release_lt {limit : Nat} {t : Truck} (h : TruckSafe limit t) (hl : 0 < limit) (hs : t.state ≠ .lockout) :
    t.releaseTime < limit := by
  rcases h.below hs with hlt | hzero <;> omega

/-- A truck outside LOCKOUT that keeps the relations once step 5 has cleared its release time in NORMAL. -/
structure Truck.Moved (limit : Nat) (t : Truck) : Prop where
  safe : TruckSafe limit t.cleared
  state : t.state ≠ .lockout

/-- A transition gives the factor and the valve command of the state entered; WATCH is entered at release time 0, HOLD without a
quiet run (R72 to R77). -/
theorem TruckSafe.enter {limit : Nat} {t : Truck} (h : TruckSafe limit t) (hs : t.state ≠ .lockout) {st : SlideState}
    (hst : st ≠ .lockout) (hwatch : st = .watch → t.releaseTime = 0)
    (hhold : st = .hold ∨ st = .reapply → t.state ≠ .watch) : (t.enter st).Moved limit := by
  have hbelow := h.below hs
  have hquiet : t.state ≠ .watch → t.quietSince = none := by simpa using mt h.quiet
  refine ⟨?_, by cases st <;> simp_all [Truck.enter]⟩
  cases st <;> constructor <;> simp_all [Truck.enter, Truck.cleared, h.release, h.tens]

/-- A truck whose quiet run alone changes, in WATCH. -/
theorem TruckSafe.setQuiet {limit : Nat} {t : Truck} (h : TruckSafe limit t) {since : Option Time}
    (hw : since.isSome = true → t.state = .watch) : TruckSafe limit { t with quietSince := since } :=
  ⟨h.fixed, h.release, h.tens, h.below, hw⟩

theorem TruckSafe.cleared {limit : Nat} {t : Truck} (h : TruckSafe limit t) : TruckSafe limit t.cleared := by
  have hfixed := h.fixed
  unfold Truck.cleared
  split
  · rename_i hn
    rw [hn] at hfixed
    obtain ⟨-, -, hzero⟩ := hfixed
    rw [show { t with releaseTime := 0 } = t by rw [← hzero]]
    exact h
  · exact h

/-- A truck that stays in its state. -/
theorem TruckSafe.moved {limit : Nat} {t : Truck} (h : TruckSafe limit t) (hs : t.state ≠ .lockout) : t.Moved limit :=
  ⟨h.cleared, hs⟩

/-- Step 4 keeps a truck's relations but for the release time that step 5 clears (R71 to R76). -/
theorem TruckSafe.transition {limit : Nat} {t : Truck} (h : TruckSafe limit t) (hs : t.state ≠ .lockout) (i : SlideInputs)
    (q : TruckQuantities) : (t.transition i q).Moved limit := by
  have hfixed := h.fixed
  unfold Truck.transition
  cases hst : t.state with
  | normal =>
    rw [hst] at hfixed
    obtain ⟨-, -, hzero⟩ := hfixed
    simp only
    split
    · exact h.enter hs (by simp) (fun _ => hzero) (by simp)
    · exact h.moved hs
  | watch =>
    simp only [Truck.watchQuiet]
    repeat' split
    · exact h.enter hs (by simp) (by simp) (by simp)
    · exact (h.setQuiet fun _ => hst).moved hs
    · exact h.enter hs (by simp) (by simp) (by simp)
    · exact h.moved hs
    · exact (h.setQuiet (by simp)).moved hs
  | relieve =>
    simp only
    split
    · exact h.enter hs (by simp) (by simp) (by simp [hst])
    · exact h.moved hs
  | hold =>
    simp only
    repeat' split
    · exact h.enter hs (by simp) (by simp) (by simp)
    · exact h.enter hs (by simp) (by simp) (by simp [hst])
    · exact h.moved hs
  | reapply =>
    simp only [Truck.reapplyRise]
    repeat' split
    · exact h.enter hs (by simp) (by simp) (by simp)
    · exact h.enter hs (by simp) (by simp) (by simp)
    · rename_i hlt
      rw [hst] at hfixed
      obtain ⟨hodd, -, hvalve⟩ := hfixed
      refine TruckSafe.moved ⟨?_, h.release, h.tens, h.below, h.quiet⟩ hs
      rw [hst]
      exact ⟨(Nat.add_mod_right _ 2).trans hodd, Nat.lt_of_not_le hlt, hvalve⟩
  | lockout => exact absurd hst hs

theorem noQuantities_state (t : Truck) : t.noQuantities.state = t.state := by
  unfold Truck.noQuantities; split <;> rfl

theorem TruckSafe.noQuantities {limit : Nat} {t : Truck} (h : TruckSafe limit t) : TruckSafe limit t.noQuantities := by
  unfold Truck.noQuantities
  split
  · exact h.setQuiet (by simp)
  · exact h

/-- Step 5 (R77): the release time grows by 10 ms towards a limit on the same grid, and ends in LOCKOUT when it reaches it. -/
theorem Truck.Moved.account {t : Truck} {i : SlideInputs} (hmoved : t.Moved i.tLockout) (hl : 0 < i.tLockout)
    (htens : i.tLockout % 10 = 0) : TruckSafe i.tLockout (t.account i) := by
  obtain ⟨h, hs⟩ := hmoved
  unfold Truck.account
  split
  · rename_i hrelief
    have hcleared : t.cleared = t := by
      have : t.state ≠ .normal := by rintro hn; simp [Truck.inRelief, hn] at hrelief
      simp [Truck.cleared, this]
    rw [hcleared] at h
    have hlt := h.release_lt hl hs
    have hten := h.tens
    have hquiet : t.quietSince.isSome ≠ true := fun hq => by simp [Truck.inRelief, h.quiet hq] at hrelief
    simp only []
    split
    · rename_i heq
      constructor <;> simp [Truck.enter, heq, htens]
    · rename_i hne
      have hfixed := h.fixed
      refine ⟨?_, by simp only; omega, by simp only; omega, fun _ => .inl (by simp only; omega), fun hq => absurd hq hquiet⟩
      cases hst : t.state <;> simp_all [Truck.inRelief]
  · exact h

/-- An evaluation keeps a truck's relations under a limit that R189 allows (R66 to R77). -/
theorem TruckSafe.evaluate {t : Truck} {i : SlideInputs} (h : TruckSafe i.tLockout t) (hl : 0 < i.tLockout)
    (htens : i.tLockout % 10 = 0) (axles : List Axle) : TruckSafe i.tLockout (t.evaluate i axles).truck := by
  unfold Truck.evaluate
  split
  · simp only; split
    · exact truckSafe_reset _
    · exact h
  · rename_i hs
    split
    · simp only; split
      · exact h
      · exact truckSafe_reset _
    · simp only
      cases truckQuantities i.vRef axles with
      | none => exact (h.noQuantities.moved (noQuantities_state t ▸ hs)).account hl htens
      | some q => exact (h.transition hs i q).account hl htens

end Sys2Proof.Machine
end

section
/-!
PROOFS. The slide evaluation on the whole state: both trucks, the valve drives and lockout seen (R66, R78, R80, R91). On it rest
what a sweep reports (O38) and the trucks' relations (O7).
-/

namespace Sys2Proof.Machine

open Sys2Proof

/-- The evaluation of truck `n` as the state gives it (R66). -/
def State.truckOutcome (n : Nat) (s : State) : TruckOutcome :=
  (s.slide.truck n).evaluate s.slideInputs (s.truckAxles n)

/-- Truck `n` evaluated, its entry to RELIEVE logged (R66, R74). -/
def State.movedTruck (n : Nat) (s : State) : State :=
  let t := s.setSlide (s.slide.setTruck n (s.truckOutcome n).truck)
  if (s.truckOutcome n).relieved then logEvent (.slide n .relieve) t else t

/-- An entry to LOCKOUT is noted last (R66, R78). -/
theorem evaluateTruck_eq (n : Nat) (s : State) : evaluateTruck n s =
    if (s.truckOutcome n).lockedOut then noteLockout n (s.movedTruck n) else s.movedTruck n := rfl

theorem movedTruck_slide (n : Nat) (s : State) :
    (s.movedTruck n).slide = s.slide.setTruck n (s.truckOutcome n).truck := by
  unfold State.movedTruck; simp only []; split <;> simp

theorem setTruck_lockoutSeen (n : Nat) (t : Truck) (u : SlideUnit) : (u.setTruck n t).lockoutSeen = u.lockoutSeen := by
  unfold SlideUnit.setTruck; split <;> rfl

/-- An evaluation stores the truck, and its entry to LOCKOUT sets lockout seen (R66, R78). -/
theorem evaluateTruck_slide (n : Nat) (s : State) : (evaluateTruck n s).slide =
    { s.slide.setTruck n (s.truckOutcome n).truck with
      lockoutSeen := s.slide.lockoutSeen || (s.truckOutcome n).lockedOut } := by
  rw [evaluateTruck_eq]
  split
  · rename_i h; simp [noteLockout, movedTruck_slide, h]
  · rename_i h
    rw [movedTruck_slide, Bool.eq_false_iff.2 h, Bool.or_false, ← setTruck_lockoutSeen n (s.truckOutcome n).truck]

/-- Truck 1's evaluation leaves truck 2 and what its evaluation reads. -/
theorem truckOutcome_two (s : State) : (evaluateTruck 1 s).truckOutcome 2 = s.truckOutcome 2 := by
  have htruck : (evaluateTruck 1 s).slide.truck 2 = s.slide.truck 2 := by rw [evaluateTruck_slide]; rfl
  have hparams : (evaluateTruck 1 s).params = s.params := params_congr (by simp)
  have hnow : (evaluateTruck 1 s).now = s.now := now_congr (by simp)
  have hinputs : (evaluateTruck 1 s).slideInputs = s.slideInputs := by simp [State.slideInputs, hparams, hnow]
  have haxles : (evaluateTruck 1 s).truckAxles 2 = s.truckAxles 2 := by simp [State.truckAxles]
  rw [State.truckOutcome, htruck, hinputs, haxles, State.truckOutcome]

/-- Both trucks after a slide evaluation in RUN. -/
theorem slideEvaluation_slide {s : State} (hm : s.control.mode = .run) : (slideEvaluation s).slide =
    ⟨(s.truckOutcome 1).truck, (s.truckOutcome 2).truck,
      s.slide.lockoutSeen || (s.truckOutcome 1).lockedOut || (s.truckOutcome 2).lockedOut⟩ := by
  rw [slideEvaluation, if_pos hm]
  simp only [takeSlideCommands_frame, evaluateTruck_slide, truckOutcome_two]
  rfl

/-- The outputs after a slide evaluation in RUN: the valve drives at the trucks' commands (R80, R91). -/
theorem slideEvaluation_output {s : State} (hm : s.control.mode = .run) : (slideEvaluation s).output =
    { s.output with
      truck1 := { s.output.truck1 with drive := (slideEvaluation s).slide.truck1.valve }
      truck2 := { s.output.truck2 with drive := (slideEvaluation s).slide.truck2.valve } } := by
  rw [slideEvaluation, if_pos hm]
  simp [takeSlideCommands]

/-- Outside RUN there is no slide evaluation (R66). -/
theorem slideEvaluation_outside {s : State} (hm : s.control.mode ≠ .run) : slideEvaluation s = s := by
  rw [slideEvaluation, if_neg hm]

end Sys2Proof.Machine
end

section
/-!
PROOFS. Every step keeps the axles, V_ref, the trucks and their valve drives (O7): first the commands that leave them, then the
edges and the sweep, then the changes of mode, then all commands.
-/

namespace Sys2Proof.Machine

open Sys2Proof

/-- The relations of the Speed Unit and of the Slide Unit, which a sweep moves together. -/
structure MotionSafe (s : State) : Prop where
  speed : SpeedSafe s
  slide : SlideSafe s

/-- From `s` to `t` nothing changes that the relations are about, but for a record that is no longer or not yet in force outside
RUN. -/
structure MotionKept (s t : State) : Prop where
  axles : t.speed.axles = s.speed.axles
  vRef : t.speed.vRef = s.speed.vRef
  sweepTimer : t.speed.sweepTimer = s.speed.sweepTimer
  truck1 : t.slide.truck1 = s.slide.truck1
  truck2 : t.slide.truck2 = s.slide.truck2
  drive1 : t.output.truck1.drive = s.output.truck1.drive
  drive2 : t.output.truck2.drive = s.output.truck2.drive
  mode : t.control.mode = s.control.mode
  record : t.control.active = s.control.active ∨ s.control.mode ≠ .run

theorem MotionKept.refl (s : State) : MotionKept s s := ⟨rfl, rfl, rfl, rfl, rfl, rfl, rfl, rfl, .inl rfl⟩

/-- The common case: the blocks themselves stay. -/
theorem MotionKept.of_blocks {s t : State} (speed : t.speed = s.speed) (slide : t.slide = s.slide)
    (output : t.output = s.output) (mode : t.control.mode = s.control.mode)
    (record : t.control.active = s.control.active ∨ s.control.mode ≠ .run) : MotionKept s t := by
  constructor
  case mode => exact mode
  case record => exact record
  all_goals simp only [speed, slide, output]

theorem SpeedSafe.inRange {s : State} (h : SpeedSafe s) : s.speed.InRange := ⟨h.axles, h.each, h.vRef⟩

/-- Outside RUN, where both trucks are reset, the record in force does not enter. -/
theorem MotionSafe.congr {s t : State} (h : MotionSafe s) (k : MotionKept s t) : MotionSafe t := by
  obtain ⟨⟨axles, each, vRef, timer⟩, truck1, truck2, drive1, drive2, outside⟩ := h
  obtain ⟨kaxles, kvRef, ktimer, ktruck1, ktruck2, kdrive1, kdrive2, kmode, krecord⟩ := k
  refine ⟨⟨by rwa [kaxles], by rwa [kaxles], by rwa [kvRef], by rwa [ktimer, kmode]⟩, ?_, ?_, by rwa [kdrive1, ktruck1],
    by rwa [kdrive2, ktruck2], by rwa [kmode, ktruck1, ktruck2]⟩
  · rw [ktruck1]
    rcases krecord with hactive | hmode
    · rwa [params_congr hactive]
    · rw [(outside hmode).1]; exact truckSafe_reset _
  · rw [ktruck2]
    rcases krecord with hactive | hmode
    · rwa [params_congr hactive]
    · rw [(outside hmode).2]; exact truckSafe_reset _

/-! ### The commands that leave the axles and the trucks -/

theorem motionKept_blendEffect (s : State) : MotionKept s (blendEffect s) := by
  by_cases due : timerDue s.blend.timer 20 s.now = true
  · have houtput := blendEffect_output due
    rw [handOff_eq] at houtput
    constructor
    case drive1 => rw [houtput]
    case drive2 => rw [houtput]
    all_goals simp
  · rw [blendEffect, if_neg due]; exact .refl s

theorem motionKept_converterFeedback (chars : List Byte) (s : State) : MotionKept s (converterFeedbackEffect chars s) := by
  unfold converterFeedbackEffect; split <;> exact ⟨rfl, rfl, rfl, rfl, rfl, rfl, rfl, rfl, .inl rfl⟩

theorem motionKept_staleness (s : State) : MotionKept s (stalenessEffect s) := by
  unfold stalenessEffect; split <;> exact ⟨rfl, rfl, rfl, rfl, rfl, rfl, rfl, rfl, .inl rfl⟩

theorem motionKept_requestMessage (s : State) : MotionKept s (requestMessageEffect s) := by
  unfold requestMessageEffect; split <;> exact ⟨rfl, rfl, rfl, rfl, rfl, rfl, rfl, rfl, .inl rfl⟩

/-- Neither a reading nor the mismatch watch commands a valve (R93, R94). -/
theorem read_drive (p : BitVec 10) (t : TruckOutput) : (t.read p).drive = t.drive := by
  unfold TruckOutput.read; split <;> rfl

theorem watch_drive (mode : Mode) (pReq : Nat) (now : Time) (t : TruckOutput) : (t.watch mode pReq now).drive = t.drive := by
  unfold TruckOutput.watch; split <;> rfl

theorem watchTruck_drives (n : Nat) (s : State) :
    (watchTruck n s).output.truck1.drive = s.output.truck1.drive ∧
    (watchTruck n s).output.truck2.drive = s.output.truck2.drive := by
  have hset : (watchTruck n s).output =
      s.output.setTruck n ((s.output.truck n).watch s.control.mode s.output.pReq s.now) := by
    unfold watchTruck; simp only []; split <;> simp
  rw [hset, OutputStage.setTruck, OutputStage.truck]
  split <;> exact ⟨by simp [watch_drive], by simp [watch_drive]⟩

theorem motionKept_pressureSample (p1 p2 : BitVec 10) (s : State) : MotionKept s (pressureSampleEffect p1 p2 s) := by
  by_cases due : timerDue s.output.pressureTimer 20 s.now = true
  · constructor
    case drive1 =>
      rw [pressureSampleEffect, if_pos due, (watchTruck_drives 2 _).1, (watchTruck_drives 1 _).1]
      exact read_drive p1 _
    case drive2 =>
      rw [pressureSampleEffect, if_pos due, (watchTruck_drives 2 _).2, (watchTruck_drives 1 _).2]
      exact read_drive p2 _
    all_goals simp
  · rw [pressureSampleEffect, if_neg due]; exact .refl s

/-- A REPORT that goes on air reads lockout seen and leaves the trucks (R81). -/
theorem candidateOnAir_trucks (k : FrameKind) (s : State) :
    (candidateOnAir k s).slide.truck1 = s.slide.truck1 ∧ (candidateOnAir k s).slide.truck2 = s.slide.truck2 := by
  cases k <;> simp [candidateOnAir, reportOnAir]

theorem motionKept_firstGoesOnAir (idle : Nat) (s : State) : MotionKept s (firstGoesOnAirEffect idle s) := by
  unfold firstGoesOnAirEffect
  repeat' split
  · exact .refl s
  · constructor
    case truck1 => exact (candidateOnAir_trucks _ s).1
    case truck2 => exact (candidateOnAir_trucks _ s).2
    all_goals simp
  · exact .refl s

/-! ### Edges and sweeps -/

/-- A captured edge changes one axle (R50). -/
theorem MotionSafe.tachometer {s : State} (h : MotionSafe s) (axle : Nat) : MotionSafe (tachometerEffect axle s) := by
  unfold tachometerEffect
  split
  · refine ⟨⟨(List.length_modify ..).trans h.speed.axles, fun a ha => ?_, h.speed.vRef, h.speed.timer⟩,
      h.slide.truck1, h.slide.truck2, h.slide.drive1, h.slide.drive2, h.slide.outside⟩
    obtain ⟨i, hi, rfl⟩ := List.mem_iff_getElem.1 ha
    have hsafe : ∀ (j : Nat) (hj : j < s.speed.axles.length), AxleSafe s.speed.axles[j] := fun j hj =>
      h.speed.each _ (List.getElem_mem hj)
    simp only [State.setSpeed_speed, List.getElem_modify]
    split
    · exact (hsafe _ _).edge _
    · exact hsafe _ _
  · exact h

/-- R189 keeps T_lockout above 0 and on the grid of the release time. -/
theorem Params.valid_tLockout {axles : Nat} {p : Params} (h : p.valid axles = true) :
    0 < p.tLockout ∧ p.tLockout % 10 = 0 := by
  simp only [Params.valid, Bool.and_eq_true, decide_eq_true_eq, beq_iff_eq] at h
  omega

theorem MotionSafe.speedSweep {s : State} (h : MotionSafe s) (hmode : ModeSafe s) : MotionSafe (speedSweepEffect s) := by
  by_cases due : timerDue s.speed.sweepTimer 10 s.now = true
  case neg => rw [speedSweepEffect, if_neg due]; exact h
  have hspeed : SpeedSafe (speedSweepEffect s) := by
    have hrange : (speedSweepEffect s).speed.InRange := by
      rw [speedSweepEffect_speed due]; exact h.speed.inRange.sweptSpeed
    refine ⟨hrange.axles, hrange.each, hrange.vRef, ?_⟩
    rw [speedSweepEffect_speed due]
    simpa [State.sweptSpeed, timerNext] using h.speed.timer
  refine ⟨hspeed, ?_⟩
  have hparams : (speedSweepEffect s).params = s.params := params_congr (by simp)
  rw [speedSweepEffect_due due] at hparams ⊢
  obtain ⟨truck1, truck2, drive1, drive2, outside⟩ := h.slide
  by_cases hrun : s.control.mode = .run
  · obtain ⟨hl, htens⟩ := Params.valid_tLockout (hmode.params_valid (by rw [hrun]; rfl))
    have hslide := slideEvaluation_slide (s := s.setSpeed s.sweptSpeed) hrun
    have houtput := slideEvaluation_output (s := s.setSpeed s.sweptSpeed) hrun
    constructor
    case truck1 => rw [hparams, hslide]; exact truck1.evaluate (i := (s.setSpeed s.sweptSpeed).slideInputs) hl htens _
    case truck2 => rw [hparams, hslide]; exact truck2.evaluate (i := (s.setSpeed s.sweptSpeed).slideInputs) hl htens _
    case drive1 => rw [houtput]
    case drive2 => rw [houtput]
    case outside => exact fun hne => absurd (by simpa using hrun) hne
  · rw [slideEvaluation_outside (s := s.setSpeed s.sweptSpeed) hrun]
    exact ⟨truck1, truck2, drive1, drive2, outside⟩

/-! ### Changes of mode -/

/-- Entry to SAFE returns both trucks to NORMAL and both drives to APPLY; the sweep timer runs on (R82, R92). -/
theorem MotionSafe.toSafe {s t : State} (h : MotionSafe s) (works : s.control.mode.working = true) (speed : t.speed = s.speed)
    (slide : t.slide = s.slide.toNormal) (output : t.output = s.output.toSafe) (mode : t.control.mode = .safe) :
    MotionSafe t := by
  obtain ⟨axles, each, vRef, timer⟩ := h.speed
  refine ⟨⟨by rwa [speed], by rwa [speed], by rwa [speed], by rw [speed, timer, works, mode]; rfl⟩, ?_⟩
  constructor <;> simp only [slide, output]
  case truck1 => exact truckSafe_reset _
  case truck2 => exact truckSafe_reset _
  case drive1 => rfl
  case drive2 => rfl
  case outside => exact fun _ => ⟨rfl, rfl⟩

theorem MotionSafe.enterSafe {s : State} (h : MotionSafe s) (works : s.control.mode.working = true) :
    MotionSafe (enterSafe s) := h.toSafe works (by simp) (by simp) (by simp) (by simp)

theorem MotionSafe.powerFail {s : State} (h : MotionSafe s) (works : s.control.mode.working = true) :
    MotionSafe (powerFail s) := h.toSafe works (by simp) (by simp) (by simp) (by simp)

/-- A warning that stands at an entry to RUN leads on to SAFE (R185). -/
theorem MotionSafe.warningAtEntry {s : State} (h : MotionSafe s) (works : s.control.mode.working = true) :
    MotionSafe (warningAtEntry s) := by
  unfold Machine.warningAtEntry
  split
  · exact MotionSafe.powerFail (h.congr (.of_blocks rfl rfl rfl rfl (.inl rfl))) works
  · exact h

/-- Entry to RUN with the trucks reset: the drives take their commands, and the sweep timer runs (R49, R91). -/
theorem MotionSafe.runOutputs {s t : State} (h : MotionSafe s) (hm : s.control.mode ≠ .run)
    (speed : t.speed.axles = s.speed.axles ∧ t.speed.vRef = s.speed.vRef) (timer : t.speed.sweepTimer.isSome = true)
    (slide : t.slide = s.slide) (mode : t.control.mode = .run) : MotionSafe (runOutputs t) := by
  obtain ⟨haxles, hvRef⟩ := speed
  obtain ⟨htruck1, htruck2⟩ := h.slide.outside hm
  have hmode : (Machine.runOutputs t).control.mode = .run := by simpa
  constructor
  · constructor <;> simp only [runOutputs_frame, haxles, hvRef]
    case axles => exact h.speed.axles
    case each => exact h.speed.each
    case vRef => exact h.speed.vRef
    case timer => rw [timer, mode]; rfl
  · constructor <;> simp only [runOutputs_output, runOutputs_frame, slide, htruck1, htruck2]
    case truck1 => exact truckSafe_reset _
    case truck2 => exact truckSafe_reset _
    case outside => exact fun hne => absurd mode hne

/-- Entry to RUN, from INIT or CONFIG with the sweep timer started, or back from SAFE (R185, R187). -/
theorem MotionSafe.enterRun {s : State} (h : MotionSafe s) (hm : s.control.mode ≠ .run) {fresh : Bool}
    (kind : fresh = true ∨ s.control.mode = .safe) : MotionSafe (enterRun fresh s) := by
  have hrun : MotionSafe
      (Machine.runOutputs (if fresh = true then startWork (changeMode .run s) else changeMode .run s)) := by
    apply h.runOutputs hm
    case speed => split <;> simp [startWork]
    case slide => split <;> simp
    case mode => split <;> simp
    case timer =>
      split
      · simp [startWork]
      · rename_i hf
        simpa [kind.resolve_left hf, Mode.working] using h.speed.timer
  exact hrun.warningAtEntry (by simp only [runOutputs_frame]; split <;> simp [Mode.working])

/-- Between INIT and CONFIG the trucks stay reset and the sweep timer stopped. -/
theorem MotionSafe.atRest {s t : State} (h : MotionSafe s) (hs : s.control.mode.working = false)
    (ht : t.control.mode.working = false) (speed : t.speed = s.speed) (slide : t.slide = s.slide)
    (output : t.output = s.output) : MotionSafe t := by
  have hrun : s.control.mode ≠ .run := fun hm => by rw [hm] at hs; cases hs
  obtain ⟨⟨axles, each, vRef, timer⟩, -, -, drive1, drive2, outside⟩ := h
  obtain ⟨htruck1, htruck2⟩ := outside hrun
  refine ⟨⟨by rwa [speed], by rwa [speed], by rwa [speed], by rw [speed, timer, hs, ht]⟩, ?_, ?_, ?_, ?_, fun _ => ?_⟩
  · rw [slide, htruck1]; exact truckSafe_reset _
  · rw [slide, htruck2]; exact truckSafe_reset _
  · rwa [slide, output]
  · rwa [slide, output]
  · rw [slide]; exact ⟨htruck1, htruck2⟩

/-! ### The commands that change the mode -/

theorem MotionSafe.warningAsserted {s : State} (h : MotionSafe s) : MotionSafe (warningAssertedEffect s) := by
  have hs : MotionSafe (s.setControl { s.control with warning := true, releaseTimer := none }) :=
    h.congr (.of_blocks rfl rfl rfl rfl (.inl rfl))
  unfold warningAssertedEffect
  simp only []
  split
  · rename_i hm; exact hs.powerFail (by rw [hm]; rfl)
  · exact hs

theorem MotionSafe.recheck {s : State} (h : MotionSafe s) : MotionSafe (recheckEffect s) := by
  unfold recheckEffect
  simp only []
  repeat' split
  · exact h.congr (.of_blocks rfl rfl rfl rfl (.inl rfl))
  · rename_i hm
    exact MotionSafe.enterSafe (h.congr (.of_blocks rfl rfl rfl rfl (.inl rfl))) (by rw [hm]; rfl)
  · exact h.congr (.of_blocks rfl rfl rfl rfl (.inl rfl))
  · exact h

theorem MotionSafe.releaseTimer {s : State} (h : MotionSafe s) : MotionSafe (releaseTimerEffect s) := by
  have hs : MotionSafe (s.setControl { s.control with releaseTimer := none }) :=
    h.congr (.of_blocks rfl rfl rfl rfl (.inl rfl))
  unfold releaseTimerEffect
  simp only []
  split
  · rename_i hm
    split
    · exact hs
    · split
      · exact hs.enterRun (by simp [hm.1]) (.inr hm.1)
      · exact hs.congr (.of_blocks rfl rfl rfl rfl (.inl rfl))
  · exact h

/-- The kept record's axle constants are no part of the relations (R183). -/
theorem motionKept_settled {s : State} (hm : s.control.mode = .init) (cut : MarkReading) : MotionKept s (s.settled cut) := by
  have hspeed : (s.settled cut).speed = { s.speed with constants := (s.settled cut).speed.constants } := by
    simp only [State.settled, beginCommit_frame, State.setRecorder_speed]
    unfold settleRecord
    repeat' split
    all_goals rfl
  constructor
  case axles => rw [hspeed]
  case vRef => rw [hspeed]
  case sweepTimer => rw [hspeed]
  case mode => simp [State.settled, settleRecord_mode]
  case record => exact .inr (by simp [hm])
  all_goals simp [State.settled]

theorem MotionSafe.scanEnd {s : State} (h : MotionSafe s) (cut : MarkReading) : MotionSafe (scanEndEffect cut s) := by
  rw [scanEndEffect_eq]
  split
  case isFalse => exact h
  case isTrue hinit =>
    have hkept := motionKept_settled hinit.1 cut
    have hmode := hkept.mode.trans hinit.1
    have hs := h.congr hkept
    split
    · exact hs.enterRun (by simp [hmode]) (.inl rfl)
    · exact hs.atRest (by rw [hmode]; rfl) (by simp [Mode.working]) (by simp) (by simp) (by simp)

theorem MotionSafe.answerStart {s : State} (h : MotionSafe s) : MotionSafe (answerStart s) := by
  unfold Machine.answerStart
  split
  · rename_i l hconfig _
    have hs : MotionSafe (activate l s) := h.congr ⟨rfl, rfl, rfl, rfl, rfl, rfl, rfl, rfl, .inr (by simp [hconfig])⟩
    exact MotionSafe.congr (hs.enterRun (fresh := true) (by simp [activate, hconfig]) (.inl rfl))
      (.of_blocks (by simp) (by simp) (by simp) (by simp) (.inl (by simp)))
  · exact h.congr (.of_blocks (by simp) (by simp) (by simp) (by simp) (.inl (by simp)))

theorem MotionSafe.start {s : State} (h : MotionSafe s) (params : List Byte) : MotionSafe (startEffect params s) := by
  unfold startEffect takeCommand withLength
  split
  · split
    · exact MotionSafe.answerStart (h.congr (.of_blocks rfl rfl rfl rfl (.inl rfl)))
    · exact h.congr (.of_blocks (by simp) (by simp) (by simp) (by simp) (.inl (by simp)))
  · exact h

/-- A released device (R63, R83, R96). -/
theorem MotionSafe.ofReset {t : State} (speed : t.speed = SpeedUnit.reset) (slide : t.slide = SlideUnit.reset)
    (output : t.output = OutputStage.reset) (mode : t.control.mode = .init) : MotionSafe t :=
  MotionSafe.atRest (s := State.reset) ⟨speedSafe_reset, slideSafe_reset⟩ rfl (by rw [mode]; rfl) speed slide output

theorem MotionSafe.resetReleased {s : State} (h : MotionSafe s) (powerOn : Bool) (levels : ReleaseLevels) :
    MotionSafe (resetReleased powerOn levels s) := by
  unfold Machine.resetReleased
  repeat' split
  · exact h
  · exact .ofReset rfl rfl rfl rfl
  · exact .ofReset rfl rfl rfl rfl

theorem motionKept_loadConfig (params : List Byte) (s : State) : MotionKept s (loadConfigEffect params s) :=
  .of_blocks (by simp) (by simp) (by simp) (loadConfigEffect_mode params s) (.inl (loadConfigEffect_active params s))

/-- The answer UNKNOWN changes the port alone (R171). -/
theorem motionKept_unknown (code : Byte) (params : List Byte) (s : State) :
    MotionKept s (takeCommand code params (refuse .unknown) s) := by
  unfold takeCommand
  split
  · exact .of_blocks (by simp) (by simp) (by simp) (by simp) (.inl (by simp))
  · exact .refl s

theorem MotionSafe.unknownCommand {s : State} (h : MotionSafe s) (code : Byte) (params : List Byte) :
    MotionSafe (unknownCommandEffect code params s) := by
  unfold unknownCommandEffect
  split
  case h_3 => exact h.congr (motionKept_loadConfig params s)
  case h_4 => exact h.start params
  case h_13 => exact h.congr (motionKept_unknown code params s)
  all_goals exact h.congr (.of_blocks (by simp) (by simp) (by simp) (by simp) (.inl (by simp)))

/-! ### All commands -/

/-- The commands that may change the axles, V_ref, a truck, a valve drive, the mode or the record in force. -/
def movesMotion : Instr → Bool
  | .powerOnResetRelease _ _ => true
  | .hardResetRelease _ _ => true
  | .scanEnd _ _ => true
  | .powerFailWarningAsserted _ => true
  | .releaseTimerExpiry _ => true
  | .configurationRecheck _ => true
  | .speedSweep _ => true
  | .tachometerEdge _ _ => true
  | .unknownCommand _ _ _ => true
  | .start _ _ => true
  | _ => false

/-- Every other command leaves them. -/
theorem motionKept_effectOf {c : Instr} (hc : movesMotion c = false) (s : State) : MotionKept s (effectOf c s) := by
  cases c
  case blendComputation => exact motionKept_blendEffect s
  case converterFeedback => exact motionKept_converterFeedback _ s
  case stalenessExpiry => exact motionKept_staleness s
  case requestMessage => exact motionKept_requestMessage s
  case pressureSample => exact motionKept_pressureSample _ _ s
  case firstGoesOnAir => exact motionKept_firstGoesOnAir _ s
  case loadConfig => exact motionKept_loadConfig _ s
  case resetAsserted => exact ⟨rfl, rfl, rfl, rfl, rfl, rfl, rfl, rfl, .inl rfl⟩
  all_goals first
    | (cases hc; done)
    | exact .of_blocks (by simp [effectOf]) (by simp [effectOf]) (by simp [effectOf])
        (by simp [effectOf, warningDeassertedEffect]) (.inl (by simp [effectOf, warningDeassertedEffect]))

theorem MotionSafe.effectOf {s : State} (h : MotionSafe s) (hmode : ModeSafe s) (c : Instr) : MotionSafe (effectOf c s) := by
  cases hc : movesMotion c with
  | false => exact h.congr (motionKept_effectOf hc s)
  | true =>
    cases c with
    | powerOnResetRelease dt levels =>
      have hs : MotionSafe (s.setPins { s.pins with powerOnReset := false }) :=
        h.congr (.of_blocks rfl rfl rfl rfl (.inl rfl))
      exact hs.resetReleased true levels
    | hardResetRelease dt levels =>
      have hs : MotionSafe (s.setPins { s.pins with hardReset := false }) := h.congr (.of_blocks rfl rfl rfl rfl (.inl rfl))
      exact hs.resetReleased false levels
    | scanEnd dt cut => exact h.scanEnd cut
    | powerFailWarningAsserted dt => exact h.warningAsserted
    | releaseTimerExpiry dt => exact h.releaseTimer
    | configurationRecheck dt => exact h.recheck
    | speedSweep dt => exact h.speedSweep hmode
    | tachometerEdge dt axle => exact h.tachometer axle
    | unknownCommand dt code params => exact h.unknownCommand code params
    | start dt params => exact h.start params
    | _ => cases hc

theorem MotionSafe.advance {s : State} (h : MotionSafe s) (dt : Passage) : MotionSafe (s.advance dt) :=
  h.congr (.of_blocks (by simp) (by simp) (by simp) (by simp) (.inl (by simp)))

/-- Settles O7: a step is a passage and at most one command's effect, and both keep the relations. -/
theorem axlesAndTrucksStayConsistent : Obligations.AxlesAndTrucksStayConsistent := by
  unfold Obligations.AxlesAndTrucksStayConsistent
  intro s t hs hstep
  have h : MotionSafe s := ⟨hs.speed, hs.slide⟩
  suffices hmotion : MotionSafe t from ⟨hmotion.speed, hmotion.slide⟩
  unfold step at hstep
  split at hstep
  · cases hstep; exact h.advance _
  · rename_i c rest _
    have hrest : MotionSafe (s.setPending rest) := h.congr (.of_blocks rfl rfl rfl rfl (.inl rfl))
    rcases exec_cases hstep with ⟨rfl, -⟩ | ⟨rfl, -⟩
    · exact (hrest.advance _).effectOf (hs.mode.congr (by simp)) _
    · exact hrest.advance _

end Sys2Proof.Machine
end

section
/-!
PROOFS. The statements about captured edges and the speed sweep (O32 to O35).
-/

namespace Sys2Proof.Machine

open Sys2Proof

/-! ### Edges -/

theorem exec_tachometerEdge {dt : Passage} {axle : Nat} {s : State} (ha : Accepts s) :
    exec (.tachometerEdge dt axle) s = .next (tachometerEffect axle (s.advance dt)) := exec_accepted ha

/-- Settles O32: the condition of R50 on the timer and the input, and the axle's own record of its edges. -/
theorem edgesAreCapturedOnServedAxles : Obligations.EdgesAreCapturedOnServedAxles := by
  unfold Obligations.EdgesAreCapturedOnServedAxles
  intro dt axle s ha
  rw [exec_tachometerEdge ha]
  refine ⟨fun h => ?ignored, fun a htimer h1 hserved hget hcount => ?captured⟩
  case ignored =>
    rw [tachometerEffect, if_neg]
    rintro ⟨htimer, h1, hserved⟩
    simp only [advance_frame] at htimer hserved
    rcases h with hnone | hzero | hbeyond
    · simp [hnone] at htimer
    · omega
    · omega
  case captured =>
    have hedge : a.edge (s.advance dt).micros = { a with
        newestEdge := some (s.advance dt).micros
        firstNewEdge := if a.edgeCount = 0 then some (s.advance dt).micros else a.firstNewEdge
        edgeCount := min 100 (a.edgeCount + 1) } := by
      have hmin : (if a.edgeCount = 100 then 100 else a.edgeCount + 1) = min 100 (a.edgeCount + 1) := by
        split <;> omega
      rw [Axle.edge, hmin]
    rw [tachometerEffect, if_pos ⟨by simpa [Option.isSome_iff_ne_none] using htimer, h1, by simpa using hserved⟩, ← hedge]
    simp [List.modify_eq_set_getElem?, hget]

/-! ### What a sweep finds and leaves -/

/-- One served axle after a sweep of the device. -/
theorem sweptSpeed_axle {s : State} {ks : List Nat} {n : Nat} {a : Axle} (hk : s.speed.constants = some ks)
    (hn : n < s.control.axleCount) (hget : s.speed.axles[n]? = some a) :
    s.sweptSpeed.axles[n]? = some (a.swept (ks.getD n 0) s.micros s.sweptSpeed.vRef s.now) := by
  have haxles := sweep_axles hk s.control.axleCount s.params.vRise s.params.vFall s.roster.presentSpeeds s.micros s.now n
  rw [hget, Option.map_some, if_pos hn] at haxles
  exact haxles

theorem sweptSpeed_unserved {s : State} {ks : List Nat} {n : Nat} (hk : s.speed.constants = some ks)
    (hn : s.control.axleCount ≤ n) : s.sweptSpeed.axles[n]? = s.speed.axles[n]? := by
  have haxles := sweep_axles hk s.control.axleCount s.params.vRise s.params.vFall s.roster.presentSpeeds s.micros s.now n
  simp only [if_neg (Nat.not_lt.2 hn), Option.map_id_fun', id] at haxles
  exact haxles

/-- V_ref and its flags as step 3 forms them from the axles that steps 1 and 2 leave. -/
theorem sweptSpeed_formed (s : State) : s.sweptSpeed = { (s.speed.measureAll s.control.axleCount s.micros).formVRef
    s.control.axleCount s.params.vRise s.params.vFall s.roster.presentSpeeds with
      axles := s.sweptSpeed.axles, sweepTimer := timerNext s.speed.sweepTimer 10 } := rfl

theorem sweptSpeed_frame (s : State) : s.sweptSpeed.sweepTimer = timerNext s.speed.sweepTimer 10 ∧
    s.sweptSpeed.constants = s.speed.constants ∧ s.sweptSpeed.axles.length = s.speed.axles.length ∧
    s.sweptSpeed.initialising = false :=
  ⟨rfl, sweep_constants s.control.axleCount s.params.vRise s.params.vFall s.roster.presentSpeeds s.micros s.now s.speed,
    sweep_axles_length s.control.axleCount s.params.vRise s.params.vFall s.roster.presentSpeeds s.micros s.now s.speed,
    (formVRef_frame s.control.axleCount s.params.vRise s.params.vFall s.roster.presentSpeeds _).2.2⟩

/-- A due sweep of an accepting device: the Speed Unit afterwards, and the two counters that it read. -/
theorem speedSweep_spec {dt : Passage} {s : State} (ha : Accepts s)
    (due : timerDue s.speed.sweepTimer 10 (s.advance dt).now = true) :
    ∃ t, exec (.speedSweep dt) s = .next t ∧ t.speed = (s.advance dt).sweptSpeed ∧ t.micros = (s.advance dt).micros ∧
      t.now = (s.advance dt).now :=
  ⟨_, exec_speedSweep ha, speedSweepEffect_speed (by simpa using due), by simp [State.micros], now_congr (by simp)⟩

/-- Settles O33: `measure_fromLast` and its companions say what step 1 does, and the later steps leave it (`swept_frame`). -/
theorem sweepMeasuresEveryServedAxle : Obligations.SweepMeasuresEveryServedAxle := by
  unfold Obligations.SweepMeasuresEveryServedAxle
  intro dt s ks ha hk due
  obtain ⟨t, hexec, hspeed, hmicros, -⟩ := speedSweep_spec ha due
  have hk' : (s.advance dt).speed.constants = some ks := by simpa using hk
  refine ⟨t, hexec, ?_⟩
  rw [hspeed, hmicros]
  obtain ⟨htimer, hconstants, hlength, -⟩ := sweptSpeed_frame (s.advance dt)
  refine ⟨by simpa using htimer, hconstants.trans hk', by simpa using hlength,
    fun n hn => (sweptSpeed_unserved hk' (by simpa using hn)).trans (by simp), fun n a hn hget hsafe => ?_⟩
  rw [sweptSpeed_axle hk' (by simpa using hn) (by simpa using hget)]
  generalize (s.advance dt).micros = micros
  have hframe := swept_frame (ks.getD n 0) micros (s.advance dt).sweptSpeed.vRef (s.advance dt).now a
  have hcleared : (a.measure (ks.getD n 0) micros).1 = { (a.measure (ks.getD n 0) micros).1 with
      edgeCount := 0, newestEdge := none, firstNewEdge := none, prevSpeed := a.speed } := by
    rcases measure_cases hsafe (ks.getD n 0) micros with ⟨-, new, v, -, hm⟩ | ⟨-, -, last, -, hm⟩ | ⟨-, -, hm⟩ <;>
      rw [hm] <;> rfl
  have hcount : a.newestEdge.isSome = true → 0 < a.edgeCount := by rw [hsafe.newest]; exact of_decide_eq_true
  refine ⟨_, rfl, by rw [hframe, hcleared], by rw [hframe, hcleared], by rw [hframe, hcleared], by rw [hframe, hcleared],
    fun last new m hnew hlast hm => ?_, fun first new m hnew hlast hfirst htwo hm => ?_, fun new hnew hlast hone => ?_,
    fun last hnew hlast hlong => ?_, fun hnew hrecent => ?_⟩
  · rw [hframe, measure_fromLast (hcount (by simp [hnew])) hnew hlast, hm]; exact ⟨rfl, rfl⟩
  · rw [hframe, measure_fromFirst htwo hnew hlast hfirst, hm]; exact ⟨rfl, rfl⟩
  · rw [hframe, measure_start hone hnew hlast]; exact ⟨rfl, rfl⟩
  · have hswept : a.swept (ks.getD n 0) micros (s.advance dt).sweptSpeed.vRef (s.advance dt).now = a.silenced := by
      rw [Axle.swept, sweep_of_measure (measure_silent hnew hlast hlong _), settle_of_ne_speed (by simp)]
      exact recover_of_ne_suspect (by simp [Axle.silenced]) _ _
    rw [hswept]; exact ⟨rfl, rfl, rfl, rfl⟩
  · rw [hframe, measure_quiet hnew hrecent]; exact ⟨rfl, rfl⟩

/-! ### Status and recovery -/

/-- Step 1 on an axle that has not gone silent: it measures or holds, and leaves status and recovery (R51 to R54). -/
theorem measure_of_not_silent {a : Axle} {micros : Time} (h : AxleSafe a) (hs : ¬ a.silentAt micros) (k : Nat) :
    ∃ b m, a.measure k micros = (b, m) ∧ (m = .speed ↔ a.measures) ∧ b.status = a.status ∧
      b.recoverySince = a.recoverySince ∧ b.prevSpeed = a.speed := by
  rcases measure_cases h k micros with ⟨hm, new, v, -, heq⟩ | ⟨hm, -, last, -, heq⟩ | ⟨-, hsilent, -⟩
  · exact ⟨_, _, heq, by simp [hm], rfl, rfl, rfl⟩
  · exact ⟨_, _, heq, by simp [hm], rfl, rfl, rfl⟩
  · exact absurd hsilent hs

section Recovery

variable {a : Axle} {vRef : Nat} (now : Time) (h : a.status = .suspect)
include h

/-- Outside one twentieth of V_ref a SUSPECT axle's recovery ends (R56). -/
theorem recover_outside (hb : ¬ 20 * absDiff a.speed vRef ≤ vRef) :
    a.recover vRef now = { a with recoverySince := none } := by
  rw [Axle.recover, if_pos h, if_neg hb]

/-- Within it the recovery begins (R56). -/
theorem recover_begins (hb : 20 * absDiff a.speed vRef ≤ vRef) (hr : a.recoverySince = none) :
    a.recover vRef now = { a with recoverySince := some now } := by
  rw [Axle.recover, if_pos h, if_pos hb, hr]

/-- It goes on for 1000 ms, and then the axle is OK (R56). -/
theorem recover_runs (hb : 20 * absDiff a.speed vRef ≤ vRef) {since : Time} (hr : a.recoverySince = some since) :
    a.recover vRef now = if 1000 ≤ elapsed since now then { a with status := .ok, recoverySince := none } else a := by
  rw [Axle.recover, if_pos h, if_pos hb, hr]

end Recovery

/-- Settles O34: by the status that step 1 leaves as it was, through steps 2 and 4. -/
theorem sweepSettlesEveryStatus : Obligations.SweepSettlesEveryStatus := by
  unfold Obligations.SweepSettlesEveryStatus
  intro dt s ks ha hk due
  obtain ⟨t, hexec, hspeed, hmicros, hnow⟩ := speedSweep_spec ha due
  have hk' : (s.advance dt).speed.constants = some ks := by simpa using hk
  refine ⟨t, hexec, fun n a hn hget hsafe hrecent => ?_⟩
  rw [hmicros] at hrecent
  have hsilent : ¬ a.silentAt (s.advance dt).micros := by
    rintro ⟨hc, last, hl, hlong⟩
    exact absurd (hrecent hc last hl) (by omega)
  obtain ⟨b, m, hmeasure, hspeedOf, hstatus, hsince, hprev⟩ := measure_of_not_silent hsafe hsilent (ks.getD n 0)
  rw [hspeed, hnow, sweptSpeed_axle hk' (by simpa using hn) (by simpa using hget), Axle.swept,
    sweep_of_measure hmeasure]
  generalize (s.advance dt).sweptSpeed.vRef = vRef
  generalize (s.advance dt).now = now
  have hb : ((b.settle m).recover vRef now).speed = b.speed := by rw [recover_frame, settle_frame]
  refine ⟨_, rfl, fun measured inBand hmeasured hband => ?_⟩
  rw [hb] at hband
  rw [hb, ← hprev, ← hstatus, ← hsince]
  have hmeasures : m = .speed ↔ measured := hspeedOf.trans hmeasured.symm
  refine ⟨fun hst hm => ?_, fun hst hm => ?_, fun hst hm => ?_, fun hst hm hdrop => ?_, fun hst hout => ?_,
    fun hst hin hr => ?_, fun hst hin since hr => ?_⟩
  · rw [hmeasures.2 hm, settle_noEdge hst, recover_of_ne_suspect (by simp)]
  · rw [settle_of_ne_speed (mt hmeasures.1 hm), recover_of_ne_suspect (by simp [hst]), hst]
  · have hkept : b.settle m = b := by
      by_cases hspeed : m = .speed
      · rw [hspeed, settle_ok hst, if_neg fun hdrop => hm ⟨hmeasures.1 hspeed, hdrop⟩]
      · exact settle_of_ne_speed hspeed b
    rw [hkept, recover_of_ne_suspect (by simp [hst]), hst]
  · rw [hmeasures.2 hm, settle_ok hst, if_pos hdrop]
    by_cases hin : inBand
    · rw [recover_begins (a := b.suspected) now rfl (hband.1 hin) rfl]; exact ⟨rfl, fun _ => rfl, absurd hin⟩
    · rw [recover_outside (a := b.suspected) now rfl (mt hband.2 hin)]; exact ⟨rfl, fun h => absurd h hin, fun _ => rfl⟩
  · rw [settle_suspect hst, recover_outside now hst (mt hband.2 hout)]; exact ⟨hst, rfl⟩
  · rw [settle_suspect hst, recover_begins now hst (hband.1 hin) hr]; exact ⟨hst, rfl⟩
  · rw [settle_suspect hst, recover_runs now hst (hband.1 hin) hr]
    refine ⟨fun hlt => ?_, fun hge => ?_⟩
    · rw [if_neg (by omega)]; exact ⟨hst, hr⟩
    · rw [if_pos hge]; exact ⟨rfl, rfl⟩

/-! ### The reference speed -/

/-- The speeds of the served axles that are OK (R57). -/
theorem mem_okSpeeds {u : SpeedUnit} {served v : Nat} : v ∈ u.okSpeeds served ↔
    ∃ n a, n < served ∧ u.axles[n]? = some a ∧ a.status = .ok ∧ a.speed = v := by
  simp only [SpeedUnit.okSpeeds, List.mem_map, List.mem_filter, beq_iff_eq]
  simp only [List.mem_iff_getElem?, List.getElem?_take]
  constructor
  · rintro ⟨a, ⟨⟨n, hget⟩, hst⟩, hv⟩
    split at hget
    · exact ⟨n, a, ‹_›, hget, hst, hv⟩
    · cases hget
  · rintro ⟨n, a, hn, hget, hst, hv⟩
    exact ⟨a, ⟨⟨n, by rw [if_pos hn, hget]⟩, hst⟩, hv⟩

/-- The reference speeds that the PRESENT peers report, when each of them has reported one (R57). -/
theorem mem_presentSpeeds {r : Roster} (held : ∀ e ∈ r.entries, e.state = .present → e.held ≠ none) {v : Nat} :
    v ∈ r.presentSpeeds ↔
      ∃ n e p, r.entry? n = some e ∧ e.state = .present ∧ e.held = some p ∧ v = min p.vRef.toNat 16000 := by
  simp only [Roster.presentSpeeds, List.mem_map, List.mem_filter, beq_iff_eq]
  constructor
  · rintro ⟨e, ⟨hmem, hst⟩, hv⟩
    obtain ⟨n, hget⟩ := List.mem_iff_getElem?.1 hmem
    obtain ⟨p, hp⟩ := Option.ne_none_iff_exists'.1 (held e hmem hst)
    exact ⟨n + 1, e, p, Roster.entry?_eq_some.2 ⟨by omega, hget⟩, hst, hp, by simpa [hp] using hv.symm⟩
  · rintro ⟨n, e, p, hget, hst, hp, rfl⟩
    exact ⟨e, ⟨(Roster.entry?_bound hget).2.2, hst⟩, by simp [hp]⟩

/-- The initialising sweep: the greatest own speed, without limits and without the peers (R60). -/
theorem formVRef_initialising {u : SpeedUnit} (hi : u.initialising = true) (served rise fall : Nat) (peers : List Nat) :
    (u.okSpeeds served = [] → (u.formVRef served rise fall peers).vRef = 0) ∧
    (∀ c ∈ u.okSpeeds served, (∀ x ∈ u.okSpeeds served, x ≤ c) → (u.formVRef served rise fall peers).vRef = c) ∧
    ((u.formVRef served rise fall peers).refHold = true ↔ u.okSpeeds served = [] ∧ peers = []) := by
  rw [SpeedUnit.formVRef, if_pos hi]
  exact ⟨fun h => by simp [h, greatest], fun c hc hmax => by simp [greatest_eq_some_iff.2 ⟨hc, hmax⟩], by simp⟩

/-- Every other sweep: the greatest own or reported speed within the limits, or REF_HOLD (R57 to R59). -/
theorem formVRef_running {u : SpeedUnit} (hi : u.initialising = false) (served rise fall : Nat) (peers : List Nat) :
    (u.okSpeeds served ++ peers = [] → (u.formVRef served rise fall peers).vRef = u.vRef ∧
      (u.formVRef served rise fall peers).refHold = true) ∧
    (∀ c ∈ u.okSpeeds served ++ peers, (∀ x ∈ u.okSpeeds served ++ peers, x ≤ c) →
      (u.formVRef served rise fall peers).refHold = false ∧
      (u.formVRef served rise fall peers).vRef = max (u.vRef - fall) (min (u.vRef + rise) c)) := by
  rw [SpeedUnit.formVRef, if_neg (by simp [hi])]
  refine ⟨fun h => ?_, fun c hc hmax => ?_⟩
  · rw [greatest_eq_none_iff.2 h]; exact ⟨rfl, rfl⟩
  · rw [greatest_eq_some_iff.2 ⟨hc, hmax⟩]; exact ⟨rfl, limitedVRef_eq rise fall u.vRef c⟩

/-- Settles O35: what the two lists hold, and V_ref formed from them. -/
theorem sweepFormsTheReferenceSpeed : Obligations.SweepFormsTheReferenceSpeed := by
  unfold Obligations.SweepFormsTheReferenceSpeed
  intro dt s ha due held
  obtain ⟨t, hexec, hspeed, hmicros, -⟩ := speedSweep_spec ha due
  obtain ⟨-, -, -, hinitialised⟩ := sweptSpeed_frame (s.advance dt)
  refine ⟨t, hexec, by rw [hspeed, hinitialised], ?_⟩
  rintro oks peers rfl rfl
  rw [hmicros, hspeed, sweptSpeed_formed]
  simp only [advance_frame, advance_params]
  generalize hu : s.speed.measureAll s.control.axleCount (s.advance dt).micros = u
  have hinit : u.initialising = s.speed.initialising := by rw [← hu, measureAll_frame]
  have hvRef : u.vRef = s.speed.vRef := by rw [← hu, measureAll_frame]
  rw [← hinit, ← hvRef]
  exact ⟨fun v => mem_okSpeeds, fun v => mem_presentSpeeds held, fun hi => formVRef_initialising hi _ _ _ _,
    fun hi => formVRef_running hi _ _ _ _⟩

end Sys2Proof.Machine
end

section
/-!
PROOFS. What else a sweep changes (O38): the valve drives, and the event and the raising of an entry to LOCKOUT.
-/

namespace Sys2Proof.Machine

open Sys2Proof

/-! ### The frame -/

theorem RaisedFrom.setSlide {s t : State} (h : RaisedFrom s t) (v : SlideUnit) :
    RaisedFrom (s.setSlide v) (t.setSlide v) := by
  obtain ⟨r, st, ns, es, rfl, hr⟩ := h
  exact ⟨r, st, ns, es, rfl, hr⟩

theorem RaisedFrom.setOutput {s t : State} (h : RaisedFrom s t) (o : OutputStage) :
    RaisedFrom (s.setOutput o) (t.setOutput o) := by
  obtain ⟨r, st, ns, es, rfl, hr⟩ := h
  exact ⟨r, st, ns, es, rfl, hr⟩

/-- Besides the Slide Unit, `t` is `s` but for what logged events and raised sources can change. -/
def SlideRaised (s t : State) : Prop := RaisedFrom (s.setSlide t.slide) t

theorem SlideRaised.trans {s t u : State} (h : SlideRaised s t) (k : SlideRaised t u) : SlideRaised s u :=
  RaisedFrom.trans (RaisedFrom.setSlide h u.slide) k

theorem slideRaised_setSlide (s : State) (v : SlideUnit) : SlideRaised s (s.setSlide v) := .refl _

theorem slideRaised_logEvent (k : EventKind) (s : State) : SlideRaised s (logEvent k s) := raisedFrom_logEvent k s

theorem slideRaised_raise (c : Source) (s : State) : SlideRaised s (raise c s) := by
  obtain ⟨-, -, -, -, -, -, hslide, -⟩ := raise_frame c s
  rw [SlideRaised, hslide]
  exact raisedFrom_raiseWith c .note none s

theorem slideRaised_noteLockout (n : Nat) (s : State) : SlideRaised s (noteLockout n s) :=
  (slideRaised_logEvent _ s).trans ((slideRaised_raise _ _).trans (slideRaised_setSlide _ _))

/-! ### One truck's evaluation -/

theorem slideRaised_movedTruck (n : Nat) (s : State) : SlideRaised s (s.movedTruck n) := by
  unfold State.movedTruck
  simp only []
  split
  · exact (slideRaised_setSlide s _).trans (slideRaised_logEvent _ _)
  · exact slideRaised_setSlide s _

theorem slideRaised_evaluateTruck (n : Nat) (s : State) : SlideRaised s (evaluateTruck n s) := by
  rw [evaluateTruck_eq]
  split
  · exact (slideRaised_movedTruck n s).trans (slideRaised_noteLockout n _)
  · exact slideRaised_movedTruck n s

/-- An evaluation reports an entry to LOCKOUT exactly when the truck enters it (R66, R77). -/
theorem evaluate_lockedOut_iff (i : SlideInputs) (axles : List Axle) (t : Truck) : (t.evaluate i axles).lockedOut = true ↔
    t.state ≠ .lockout ∧ (t.evaluate i axles).truck.state = .lockout := by
  unfold Truck.evaluate
  split
  · rename_i hs; simp [hs]
  · rename_i hs
    split
    · simp only; split
      · simp [hs]
      · simp [Truck.reset]
    · simp [hs]

theorem movedTruck_now (n : Nat) (s : State) : (s.movedTruck n).now = s.now := by
  unfold State.movedTruck; simp only []; split <;> rfl

/-- The events of an entry to LOCKOUT: its own, and one of a firing that merges (R78, R143). -/
theorem noteLockout_logged (n : Nat) (s : State) :
    ∃ es, es.length ≤ 2 ∧ Logged es s (noteLockout n s) ∧ ⟨s.now, .slide n .lockout⟩ ∈ es := by
  obtain ⟨es, hes, hraise⟩ := raise_logged .slideLockout (logEvent (.slide n .lockout) s)
  refine ⟨[⟨s.now, .slide n .lockout⟩] ++ es, ?_, (logged_logEvent _ s).trans hraise, by simp⟩
  have := hes.length
  simp; omega

/-- An evaluation logs at most three events, an entry to LOCKOUT among them. -/
theorem evaluateTruck_logged (n : Nat) (s : State) : ∃ es, es.length ≤ 3 ∧ Logged es s (evaluateTruck n s) ∧
    ((s.truckOutcome n).lockedOut = true → ⟨s.now, .slide n .lockout⟩ ∈ es) := by
  obtain ⟨es, hlen, hmoved⟩ : ∃ es, es.length ≤ 1 ∧ Logged es s (s.movedTruck n) := by
    unfold State.movedTruck
    simp only []
    split
    · exact ⟨_, by simp, logged_logEvent _ (s.setSlide _)⟩
    · exact ⟨[], by simp, .nil rfl⟩
  rw [evaluateTruck_eq]
  split
  · obtain ⟨fs, hfs, hnoted, hmem⟩ := noteLockout_logged n (s.movedTruck n)
    refine ⟨es ++ fs, by simp; omega, hmoved.trans hnoted, fun _ => ?_⟩
    rw [movedTruck_now] at hmem
    exact List.mem_append_right es hmem
  · exact ⟨es, by omega, hmoved, fun h => absurd h ‹_›⟩

/-- An entry to LOCKOUT raises SLIDE_LOCKOUT, and nothing else of an evaluation does (R78, R137). -/
theorem evaluateTruck_lastOccurrenceOf (n : Nat) {s : State} (hl : s.recorder.lastOccurrence.length = 12) :
    (evaluateTruck n s).recorder.lastOccurrence.length = 12 ∧
    (evaluateTruck n s).recorder.lastOccurrenceOf 2 =
      if (s.truckOutcome n).lockedOut then some s.now else s.recorder.lastOccurrenceOf 2 := by
  have hmoved : (s.movedTruck n).recorder.lastOccurrence = s.recorder.lastOccurrence := by
    unfold State.movedTruck; simp only []; split <;> rfl
  rw [evaluateTruck_eq]
  split
  · have hlogged : (logEvent (.slide n .lockout) (s.movedTruck n)).recorder.lastOccurrence.length = 12 :=
      (congrArg _ hmoved).trans hl
    refine ⟨(raise_lastOccurrence_length _ _).trans hlogged, ?_⟩
    have hraise := raise_lastOccurrenceOf .slideLockout (n := 2) hlogged (by decide)
    rw [if_pos (by rfl), State.now, (logEvent_frame _ _).2.1] at hraise
    exact hraise.trans (congrArg some (movedTruck_now n s))
  · exact ⟨by rw [hmoved, hl], by rw [Recorder.lastOccurrenceOf, hmoved]; rfl⟩

/-! ### Both trucks -/

/-- A slide evaluation in RUN is the two trucks' evaluations and the commands to the drives. -/
theorem slideEvaluation_eq {s : State} (hm : s.control.mode = .run) :
    slideEvaluation s = takeSlideCommands (evaluateTruck 2 (evaluateTruck 1 s)) := if_pos hm

theorem slideEvaluation_raised {s : State} (hm : s.control.mode = .run) :
    RaisedFrom ((s.setSlide (slideEvaluation s).slide).setOutput (slideEvaluation s).output) (slideEvaluation s) := by
  have h := (slideRaised_evaluateTruck 1 s).trans (slideRaised_evaluateTruck 2 _)
  rw [slideEvaluation_eq hm]
  exact RaisedFrom.setOutput h _

/-- Whether truck `n`, 1 or 2, enters LOCKOUT at the evaluation, by the truck before and after it. -/
theorem slideEvaluation_lockedOut {s : State} (hm : s.control.mode = .run) :
    ((s.truckOutcome 1).lockedOut = true ↔
      s.slide.truck1.state ≠ .lockout ∧ (slideEvaluation s).slide.truck1.state = .lockout) ∧
    ((s.truckOutcome 2).lockedOut = true ↔
      s.slide.truck2.state ≠ .lockout ∧ (slideEvaluation s).slide.truck2.state = .lockout) := by
  rw [slideEvaluation_slide hm]
  exact ⟨evaluate_lockedOut_iff _ _ _, evaluate_lockedOut_iff _ _ _⟩

/-- What an evaluation reports of the trucks that enter LOCKOUT: the event, SLIDE_LOCKOUT and lockout seen (R78). -/
theorem slideEvaluation_reports {s : State} (hm : s.control.mode = .run) (hl : s.recorder.lastOccurrence.length = 12) {n : Nat}
    (hn : n = 1 ∨ n = 2) (h : (s.truckOutcome n).lockedOut = true) :
    ⟨s.now, .slide n .lockout⟩ ∈ (slideEvaluation s).recorder.events ∧ (slideEvaluation s).slide.lockoutSeen = true ∧
    (slideEvaluation s).recorder.lastOccurrenceOf 2 = some s.now := by
  obtain ⟨es, hes, hlogged, hmem⟩ := evaluateTruck_logged 1 s
  obtain ⟨fs, hfs, hlogged', hmem'⟩ := evaluateTruck_logged 2 (evaluateTruck 1 s)
  obtain ⟨hl', hocc⟩ := evaluateTruck_lastOccurrenceOf 1 hl
  obtain ⟨-, hocc'⟩ := evaluateTruck_lastOccurrenceOf 2 hl'
  have hnow : (evaluateTruck 1 s).now = s.now := now_congr (by simp)
  have hrecorder : (slideEvaluation s).recorder = (evaluateTruck 2 (evaluateTruck 1 s)).recorder := by
    rw [slideEvaluation_eq hm]; simp
  rw [truckOutcome_two, hnow] at hmem' hocc'
  have hevents := (hlogged.trans hlogged').mem (e := ⟨s.now, .slide n .lockout⟩) (by simp; omega)
  rw [hrecorder, hocc', hocc, slideEvaluation_slide hm]
  rcases hn with rfl | rfl
  · exact ⟨hevents (List.mem_append_left fs (hmem h)), by simp [h], by simp [h]⟩
  · exact ⟨hevents (List.mem_append_right es (hmem' h)), by simp [h], by simp [h]⟩

/-- Without an entry to LOCKOUT there is nothing to report. -/
theorem slideEvaluation_silent {s : State} (hm : s.control.mode = .run) (hl : s.recorder.lastOccurrence.length = 12)
    (h1 : (s.truckOutcome 1).lockedOut = false) (h2 : (s.truckOutcome 2).lockedOut = false) :
    (slideEvaluation s).slide.lockoutSeen = s.slide.lockoutSeen ∧
    (slideEvaluation s).recorder.lastOccurrenceOf 2 = s.recorder.lastOccurrenceOf 2 := by
  obtain ⟨hl', hocc⟩ := evaluateTruck_lastOccurrenceOf 1 hl
  obtain ⟨-, hocc'⟩ := evaluateTruck_lastOccurrenceOf 2 hl'
  have hrecorder : (slideEvaluation s).recorder = (evaluateTruck 2 (evaluateTruck 1 s)).recorder := by
    rw [slideEvaluation_eq hm]; simp
  rw [hrecorder, hocc', hocc, slideEvaluation_slide hm, truckOutcome_two]
  simp [h1, h2]

/-- Settles O38: the valve lines by the drive, and the sweep's frame by the mode. -/
theorem sweepDrivesValvesAndReportsLockout : Obligations.SweepDrivesValvesAndReportsLockout := by
  unfold Obligations.SweepDrivesValvesAndReportsLockout
  refine ⟨fun drive => by cases drive <;> simp [Valve.supplyCut, Valve.exhaust],
    fun dt s ha => ⟨fun early => ?_, fun due => ?_⟩⟩
  · rw [exec_speedSweep ha, speedSweepEffect, if_neg (by simpa using early)]
  have due' : timerDue (s.advance dt).speed.sweepTimer 10 (s.advance dt).now = true := by simpa using due
  refine ⟨_, exec_speedSweep ha, ?_⟩
  rw [speedSweepEffect_speed due', speedSweepEffect_due due']
  generalize hu : (s.advance dt).setSpeed (s.advance dt).sweptSpeed = u
  have hmode : u.control.mode = s.control.mode := by subst hu; simp
  have hslide : u.slide = s.slide := by subst hu; simp
  have hoccurrence : u.recorder = s.recorder := by subst hu; simp
  have hnow : (slideEvaluation u).now = u.now := now_congr (by simp)
  refine ⟨fun hrest => slideEvaluation_outside (hmode ▸ hrest), fun hrun hl => ?_⟩
  rw [← hmode] at hrun
  rw [← hoccurrence] at hl ⊢
  rw [← hslide, hnow]
  obtain ⟨hone, htwo⟩ := slideEvaluation_lockedOut hrun
  have hraised := slideEvaluation_raised hrun
  rw [slideEvaluation_output hrun] at hraised
  refine ⟨?frame, fun h h' => slideEvaluation_reports hrun hl (.inl rfl) (hone.2 ⟨h, h'⟩),
    fun h h' => slideEvaluation_reports hrun hl (.inr rfl) (htwo.2 ⟨h, h'⟩), fun h h' => ?none⟩
  case frame =>
    have houtput : u.output = s.output := by subst hu; simp
    rwa [houtput] at hraised
  case none =>
    apply slideEvaluation_silent hrun hl
    · rw [← Bool.not_eq_true, hone]; tauto
    · rw [← Bool.not_eq_true, htwo]; tauto

end Sys2Proof.Machine
end

section
/-!
PROOFS. The configuration record: its fields, its ranges and the axle constants (O15), and LOAD_CONFIG, which tests and loads one
(O22).
-/

namespace Sys2Proof.Machine

open Sys2Proof

/-! ### The ranges -/

/-- A list rises strictly when each of its items is less than the next. -/
theorem strictlyRising_iff {l : List Nat} : strictlyRising l = true ↔
    ∀ i a b, l[i]? = some a → l[i + 1]? = some b → a < b := by
  induction l with
  | nil => simp [strictlyRising]
  | cons x l ih =>
    cases l with
    | nil => simp [strictlyRising]
    | cons y l =>
      rw [strictlyRising, Bool.and_eq_true, decide_eq_true_eq, ih]
      constructor
      · rintro ⟨hxy, hrest⟩ i a b ha hb
        cases i with
        | zero => simp at ha hb; omega
        | succ i => exact hrest i a b ha hb
      · exact fun h => ⟨h 0 x y rfl rfl, fun i a b ha hb => h (i + 1) a b ha hb⟩

/-- The first items of a list keep to a condition, place by place. -/
theorem all_take_iff {α : Type} {n : Nat} {ok : α → Bool} {l : List α} : (l.take n).all ok = true ↔
    ∀ i x, i < n → l[i]? = some x → ok x = true := by
  simp only [List.all_eq_true, List.mem_iff_getElem?, List.getElem?_take]
  constructor
  · exact fun h i x hi hx => h x ⟨i, by rw [if_pos hi, hx]⟩
  · rintro h x ⟨i, hx⟩
    split at hx
    · exact h i x ‹_› hx
    · cases hx

/-- The speeds of the first points rise strictly, place by place (R24, R189). -/
theorem take_rising_iff {n : Nat} {points : List (Nat × Nat)} : strictlyRising ((points.take n).map Prod.fst) = true ↔
    ∀ i q r, i + 1 < n → points[i]? = some q → points[i + 1]? = some r → q.1 < r.1 := by
  simp only [strictlyRising_iff, List.getElem?_map, List.getElem?_take]
  constructor
  · intro h i q r hi hq hr
    exact h i q.1 r.1 (by rw [if_pos (by omega), hq]; rfl) (by rw [if_pos hi, hr]; rfl)
  · intro h i a b ha hb
    by_cases hi : i + 1 < n
    · rw [if_pos (by omega)] at ha
      rw [if_pos hi] at hb
      obtain ⟨q, hq, rfl⟩ := Option.map_eq_some_iff.1 ha
      obtain ⟨r, hr, rfl⟩ := Option.map_eq_some_iff.1 hb
      exact h i q r hi hq hr
    · simp [hi] at hb

theorem triggerEntry_valid_iff {own : Nat} {x : TriggerEntry} : x.valid own = true ↔
    x.enabled ≤ 1 ∧ x.cls ≤ 1 ∧ x.qualifier ≤ 12 ∧ x.qualifier ≠ own ∧
    (x.qualifier = 0 → x.window = 0) ∧ (x.qualifier ≠ 0 → 1 ≤ x.window ∧ x.window ≤ 30) := by
  by_cases h : x.qualifier = 0 <;> simp [TriggerEntry.valid, h, and_assoc]

/-- The entry at place `i` is the one of the source with code `i + 1` (R136). -/
theorem all_triggers_iff {triggers : List TriggerEntry} :
    ((triggers.zipIdx 1).all fun x => TriggerEntry.valid x.2 x.1) = true ↔
      ∀ (i : Nat) (x : TriggerEntry), triggers[i]? = some x → x.valid (i + 1) = true := by
  simp only [List.all_eq_true, List.mem_iff_getElem?, List.getElem?_zipIdx]
  constructor
  · exact fun h i x hx => h (x, i + 1) ⟨i, by simp [hx, Nat.add_comm]⟩
  · rintro h _ ⟨i, hx⟩
    obtain ⟨x, hget, rfl⟩ := Option.map_eq_some_iff.1 hx
    simpa [Nat.add_comm] using h i x hget

/-! ### The axle constants -/

theorem axleConstant_eq (d : Nat) {teeth : Nat} (h : 0 < teeth) :
    axleConstant d teeth = (2 * (355 * d * 1000) + 113 * teeth) / (2 * (113 * teeth)) := by
  rw [axleConstant, roundDiv, if_neg (by omega)]

/-- The wheels and teeth that R189 allows bound the axle constant (R48). -/
theorem axleConstant_bounds {d teeth : Nat} (hd : 800 ≤ d ∧ d ≤ 1300) (ht : 40 ≤ teeth ∧ teeth ≤ 200) :
    12566 ≤ axleConstant d teeth ∧ axleConstant d teeth ≤ 102102 := by
  rw [axleConstant_eq d (by omega)]
  constructor
  · rw [Nat.le_div_iff_mul_le (by omega)]; omega
  · rw [← Nat.lt_succ_iff, Nat.div_lt_iff_lt_mul (by omega)]; omega

theorem constants_getElem? {axles i d : Nat} {p : Params} (hi : i < axles) (hd : p.wheels[i]? = some d) :
    (p.constants axles)[i]? = some (axleConstant d p.teeth) := by
  simp [Params.constants, hi, hd]

theorem Params.valid_teeth {axles : Nat} {p : Params} (h : p.valid axles = true) : 40 ≤ p.teeth ∧ p.teeth ≤ 200 := by
  simp only [Params.valid, Bool.and_eq_true, decide_eq_true_eq] at h
  omega

/-- Settles O15: the offsets hold by definition; the ranges are R189's list in its order. -/
theorem recordIsReadAndTestedByItsTable : Obligations.RecordIsReadAndTestedByItsTable := by
  unfold Obligations.RecordIsReadAndTestedByItsTable
  refine ⟨?offsets, fun axles p => ?ranges, fun axles p => ⟨fun d ht => axleConstant_eq d ht, fun i d => constants_getElem?,
    fun d hv h1 h2 => axleConstant_bounds ⟨h1, h2⟩ (Params.valid_teeth hv)⟩⟩
  case offsets =>
    rintro bs p rfl
    refine ⟨rfl, rfl, rfl, rfl, fun i hi => ?_, rfl, rfl, rfl, rfl, rfl, fun i hi => ?_, rfl, rfl, rfl, rfl, rfl, rfl, rfl, ?_,
      rfl, fun i hi => ?_⟩
    · simp [Params.ofBytes, hi]
    · simp [Params.ofBytes, hi]
    · simp [Params.ofBytes, natAt4, Nat.mul_comm]
    · simp [Params.ofBytes, hi]
  case ranges =>
    simp only [Params.valid, Bool.and_eq_true, decide_eq_true_eq, beq_iff_eq, Params.curve, all_take_iff,
      take_rising_iff, all_triggers_iff, triggerEntry_valid_iff, and_assoc]

/-! ### LOAD_CONFIG -/

theorem exec_loadConfig {dt : Passage} {params : List Byte} {s : State} (ha : Accepts s) :
    exec (.loadConfig dt params) s = .next (loadConfigEffect params (s.advance dt)) := exec_accepted ha

/-- The record as loaded is the Mode Controller's alone, whatever the port answers. -/
theorem respond_loadRecord (r : ConfigRecord) (data : List Byte) (s : State) :
    respond .ok data (loadRecord r s) = (respond .ok data s).setControl (loadRecord r s).control := rfl

/-- Settles O22: R174's tests in their order. -/
theorem loadConfigTestsInOrder : Obligations.LoadConfigTestsInOrder := by
  unfold Obligations.LoadConfigTestsInOrder
  rintro dt params s ha hears hlength r rfl
  rw [exec_loadConfig ha, loadConfigEffect, takeCommand_heard hears, withLength, if_pos (by rw [hlength]; rfl)]
  change Host.Outcome.next (answerLoadConfig ⟨params.take 110, wordAt params 110⟩ _) = _
  generalize (⟨params.take 110, wordAt params 110⟩ : ConfigRecord) = r
  have hcontrol : ((s.advance dt).taken 0x03 params).control = s.control := by simp [State.taken]
  have hchecks : r.checks = false ↔ checkValue r.bytes ≠ r.check := by simp [ConfigRecord.checks]
  have hrefuse : ∀ code : ResultCode, code ≠ .ok →
      refuse code ((s.advance dt).taken 0x03 params) = s.answered dt 0x03 params [code.code] :=
    fun code h => refuse_taken dt 0x03 params h s
  rw [answerLoadConfig, loadConfigResult, hcontrol]
  by_cases hmode : s.control.mode ≠ .config
  · simp only [if_pos hmode, hrefuse .state (by simp)]; rfl
  by_cases hcheck : checkValue r.bytes ≠ r.check
  · simp only [if_neg hmode, if_pos hcheck, if_pos (hchecks.2 hcheck), hrefuse .check (by simp)]; rfl
  by_cases hrange : r.params.valid s.control.axleCount = false
  · simp only [if_neg hmode, if_neg hcheck, if_neg (mt hchecks.1 hcheck), if_pos hrange, hrefuse .range (by simp)]; rfl
  · simp only [if_neg hmode, if_neg hcheck, if_neg (mt hchecks.1 hcheck), if_neg hrange, respond_loadRecord, respond_ok_taken]
    rw [loadRecord, hcontrol]; rfl

end Sys2Proof.Machine
end

section
/-!
PROOFS. No command stops a device that meets the invariants (O4), and INIT with a kept record ends in RUN, or at once in SAFE under
the power-fail warning (O20).
-/

namespace Sys2Proof.Machine

open Sys2Proof

/-! ### Commands that take place -/

/-- A device that does not lack its record answers every command: held in reset with the passage, else with the effect. -/
theorem exec_answers {s : State} (hl : s.lacksRecord = false) (c : Instr) : ∃ t, exec c s = .next t := by
  cases hr : s.heldInReset with
  | false => exact ⟨_, exec_next hr hl⟩
  | true =>
    cases hc : resetCommand c with
    | true => cases c <;> first | exact ⟨_, rfl⟩ | cases hc
    | false => exact ⟨_, by rw [exec_eq_perform hc, perform_eq, if_pos hr]⟩

/-- Settles O4: the one fault needs RUN or SAFE without an active record, which `ModeSafe` excludes. -/
theorem safeDeviceNeverStops : Obligations.SafeDeviceNeverStops := by
  unfold Obligations.SafeDeviceNeverStops
  intro s hs
  have hrecord := lacksRecord_false hs.mode
  refine ⟨exec_answers hrecord, ?_⟩
  unfold step
  split
  · exact ⟨_, rfl⟩
  · rename_i c rest _
    exact exec_answers (s := s.setPending rest) hrecord c

/-! ### Entry to RUN from INIT or CONFIG -/

/-- The timers and the own entry of an entry to RUN, block by block (R4, R49, R93, R105, R116, R132). -/
theorem startWork_blocks (s : State) :
    (startWork s).demand = { s.demand with sampleTimer := some s.now } ∧
    (startWork s).speed = { s.speed with sweepTimer := some s.now, initialising := true } ∧
    (startWork s).output = { s.output with pressureTimer := some s.now } ∧
    (startWork s).line = { s.line with reportTimer := some s.now } ∧
    (startWork s).recorder = { s.recorder with snapshotTimer := some s.now } ∧
    (startWork s).roster =
      s.roster.setEntry s.control.station (Entry.ownSelf (ownFields .out s.params.rOwn 0 0 0 0)) := by
  and_intros <;> rfl

theorem changeMode_params (m : Mode) (s : State) : (changeMode m s).params = s.params := params_congr (by simp)

theorem changeMode_now (m : Mode) (s : State) : (changeMode m s).now = s.now := now_congr (by simp)

/-- The state at the completion of an entry to RUN from INIT or CONFIG, before a standing warning is regarded (R185). -/
def State.worksInRun (s : State) : State := runOutputs (startWork (changeMode .run s))

theorem worksInRun_control (s : State) :
    s.worksInRun.control = { s.control with mode := .run, recheckTimer := some s.now } := by
  simp [State.worksInRun, changeMode_now]

theorem worksInRun_recorder (s : State) : s.worksInRun.recorder =
    { s.recorder.log ⟨s.now, .mode s.control.mode .run⟩ with snapshotTimer := some s.now } := by
  simp [State.worksInRun, startWork_blocks, changeMode_now]

theorem worksInRun_now (s : State) : s.worksInRun.now = s.now := now_congr (by simp [State.worksInRun])

/-- Every block at the completion of an entry to RUN. -/
theorem enteredRun_worksInRun {s : State} (h1 : 1 ≤ s.control.station) (h2 : s.control.station ≤ s.roster.entries.length) :
    EnteredRun s s.worksInRun := by
  have hroster := runOutputs_roster (startWork (changeMode .run s))
  simp only [startWork_blocks, changeMode_frame, changeMode_control, changeMode_params] at hroster
  rw [← State.worksInRun] at hroster
  constructor
  case control => rw [worksInRun_control, worksInRun_now]
  case demand => rw [worksInRun_now]; simp [State.worksInRun, startWork_blocks, changeMode_now]
  case blend => rw [worksInRun_now]; simp [State.worksInRun, runOutputs_blend, State.now]
  case speed => rw [worksInRun_now]; simp [State.worksInRun, startWork_blocks, changeMode_now]
  case output => rw [worksInRun_now]; simp [State.worksInRun, runOutputs_output, startWork_blocks, changeMode_now]
  case line => rw [worksInRun_now]; simp [State.worksInRun, startWork_blocks, changeMode_now]
  case own => rw [hroster]; exact Roster.setEntry_entry?_same h1 h2
  case peers => intro n hn; rw [hroster]; exact Roster.setEntry_entry?_other h1 hn
  case flags => rw [hroster]; exact ⟨rfl, rfl, rfl⟩
  case heard =>
    rw [worksInRun_now, hroster]
    simp [Roster.setEntry, State.now]
  case recorder => rw [worksInRun_now, worksInRun_recorder]
  case rest => simp [State.worksInRun]

/-- An entry to RUN stays there unless the warning stands (R185). -/
theorem enterRun_unwarned {s : State} (hw : s.control.warning = false) : enterRun true s = s.worksInRun := by
  have : s.worksInRun.control.warning = false := by rw [worksInRun_control]; exact hw
  rw [show enterRun true s = warningAtEntry s.worksInRun from rfl, warningAtEntry, if_neg (by simp [this])]

/-- A standing warning leads on to SAFE (R185, R186). -/
theorem enterRun_warned {s : State} (hw : s.control.warning = true) :
    enterRun true s = powerFail (s.worksInRun.setControl { s.worksInRun.control with releaseTimer := none }) := by
  have : s.worksInRun.control.warning = true := by rw [worksInRun_control]; exact hw
  rw [show enterRun true s = warningAtEntry s.worksInRun from rfl, warningAtEntry, if_pos this]

/-! ### POWER with no incident open -/

/-- Entry to SAFE with the capture IDLE: POWER opens an incident straight into COMMITTING (R144, R186). -/
theorem powerFail_recorder_idle {s : State} (hcap : s.recorder.capture = .idle) : ∃ img,
    (powerFail s).recorder = { (enterSafe s).recorder with
      lastOccurrence := (enterSafe s).recorder.lastOccurrence.set 11 (some s.now)
      image := some img, lastOpened := img.number, capture := .committing } ∧
    img.cause = .power ∧ img.cls = .severe ∧ img.flags.power = true ∧ img.number = s.store.nextNumber := by
  have hnow : (enterSafe s).now = s.now := now_congr (by simp)
  rw [powerFail, raise_power (by simp), hnow]
  generalize hv : (enterSafe s).setRecorder { (enterSafe s).recorder with
    lastOccurrence := (enterSafe s).recorder.lastOccurrence.set 11 (some s.now) } = v
  have hmode : v.control.mode ≠ .run := by subst hv; simp
  have hidle : v.recorder.capture = .idle := by subst hv; exact (enterSafe_capture s).trans hcap
  have hstore : v.store = s.store := by subst hv; simp
  obtain ⟨-, hfired⟩ := fire_power_idle (now := s.now) hmode hidle
  refine ⟨(v.openedImage (powerFiring s.now)).refused, ?_, rfl, rfl, rfl, by rw [← hstore]; rfl⟩
  rw [hfired]
  subst hv
  rfl

/-- An entry to RUN that leads on to SAFE: the outputs and the blend are SAFE's, and the timers of the work run on (R6, R21,
R92, R186). -/
theorem enterRun_warned_blocks {s : State} (hw : s.control.warning = true) :
    (enterRun true s).output.valid = false ∧ (enterRun true s).output.dReq = 0 ∧ (enterRun true s).output.pReq = 0 ∧
    (enterRun true s).blend.timer = none ∧ (enterRun true s).demand.sampleTimer = some s.now := by
  rw [enterRun_warned hw, powerFail_output, powerFail_blend, powerFail_demand]
  refine ⟨rfl, rfl, rfl, rfl, ?_⟩
  simp [State.worksInRun, startWork_blocks, changeMode_now, DemandUnit.endControlling]

/-- Its Recorder, with the capture IDLE before: both MODE events, and the POWER incident in COMMITTING (R144, R182, R186). -/
theorem enterRun_warned_recorder {s : State} (hw : s.control.warning = true) (hcap : s.recorder.capture = .idle)
    (hl : s.recorder.lastOccurrence.length = 12) :
    (enterRun true s).recorder.snapshotTimer = some s.now ∧
    (enterRun true s).recorder.events = pushRing 32 ⟨s.now, .mode .run .safe⟩
      (pushRing 32 ⟨s.now, .mode s.control.mode .run⟩ s.recorder.events) ∧
    (enterRun true s).recorder.lastOccurrenceOf 12 = some s.now ∧
    (enterRun true s).recorder.capture = .committing ∧
    ∃ img, (enterRun true s).recorder.image = some img ∧ img.cause = .power ∧ img.cls = .severe ∧ img.flags.power = true ∧
      img.number = s.store.nextNumber := by
  rw [enterRun_warned hw]
  generalize hv : s.worksInRun.setControl { s.worksInRun.control with releaseTimer := none } = v
  have hnow : v.now = s.now := by subst hv; exact worksInRun_now s
  have hmode : v.control.mode = .run := by subst hv; simp [worksInRun_control]
  have hstore : v.store = s.store := by subst hv; simp [State.worksInRun]
  have hrecorder : v.recorder =
      { s.recorder.log ⟨s.now, .mode s.control.mode .run⟩ with snapshotTimer := some s.now } := by
    subst hv; exact worksInRun_recorder s
  obtain ⟨img, hopened, himg⟩ := powerFail_recorder_idle (s := v) (by rw [hrecorder]; exact hcap)
  have hoccurrence := powerFail_occurrence (s := v) (by rw [hrecorder]; exact hl)
  have hsafe := enterSafe_recorder v
  rw [hnow, hmode, hrecorder] at hsafe
  rw [hnow] at hoccurrence
  rw [hstore] at himg
  refine ⟨?_, ?_, hoccurrence, by rw [hopened], img, by rw [hopened], himg⟩
  · rw [hopened, hsafe]; rfl
  · rw [hopened, hsafe]; rfl

/-! ### The end of INIT -/

theorem exec_scanEnd {dt : Passage} {cut : MarkReading} {s : State} (ha : Accepts s) :
    exec (.scanEnd dt cut) s = .next (scanEndEffect cut (s.advance dt)) := exec_accepted ha

/-- A valid kept record gives the axle constants, and with no kept image there is nothing to write (R151, R183). -/
theorem settled_valid {s : State} {r : ConfigRecord} (cut : MarkReading) (hr : s.control.active = some r)
    (hv : r.valid s.control.axleCount = true) (hcap : s.recorder.capture = .idle) :
    s.settled cut = (s.setStore (s.store.scanDone cut)).setSpeed
      { s.speed with constants := some (r.params.constants s.control.axleCount) } := by
  have hrecord : settleRecord (s.setStore (s.store.scanDone cut)) = (s.setStore (s.store.scanDone cut)).setSpeed
      { s.speed with constants := some (r.params.constants s.control.axleCount) } := by simp [settleRecord, hr, hv]
  have hkept : s.recorder.settleKept = s.recorder := by simp [Recorder.settleKept, hcap]
  rw [State.settled, hrecord]
  generalize hu : (s.setStore (s.store.scanDone cut)).setSpeed
    { s.speed with constants := some (r.params.constants s.control.axleCount) } = u
  have hrecorder : u.recorder = s.recorder := by subst hu; rfl
  simp only [hrecorder, hkept]
  rw [← hrecorder, State.setRecorder_self]
  simp [beginCommit, hrecorder, hcap]

/-- Settles O20: the INIT work leaves the record's constants, and the entry to RUN ends by the warning. -/
theorem initWithARecordEndsInRun : Obligations.InitWithARecordEndsInRun := by
  unfold Obligations.InitWithARecordEndsInRun
  intro dt cut s r ha hentries h1 h8 hmode hop hcap hr hv
  have hsettled := settled_valid (s := s.advance dt) cut hr hv hcap
  simp only [advance_frame] at hsettled
  have hend : scanEndEffect cut (s.advance dt) = enterRun true ((s.advance dt).settled cut) := by
    rw [scanEndEffect_eq, if_pos ⟨hmode, hop⟩, if_pos]
    rw [hsettled]; simp [hr]
  rw [hsettled] at hend
  have hnext : (s.store.scanDone cut).nextNumber = (s.store.scanDone cut).recoveredNext := rfl
  generalize hu : ((s.advance dt).setStore (s.store.scanDone cut)).setSpeed
    { s.speed with constants := some (r.params.constants s.control.axleCount) } = u at hend
  have hcontrol : u.control = s.control := by subst hu; simp
  have hroster : u.roster = s.roster := by subst hu; simp
  have hrecorder : u.recorder = s.recorder := by subst hu; simp
  have hstore : u.store = s.store.scanDone cut := by subst hu; rfl
  have hconstants : u.speed.constants = some (r.params.constants s.control.axleCount) := by subst hu; rfl
  have hport : u.port = (s.advance dt).port := by subst hu; rfl
  refine ⟨_, exec_scanEnd ha, ?_⟩
  rw [hend]
  refine ⟨by simp [hport], ?constants, fun hw => ?run, fun hw hl => ?warned⟩
  case constants =>
    have hspeed : (enterRun true u).speed = (startWork (changeMode .run u)).speed := by simp [enterRun]
    rw [hspeed]; simp [startWork_blocks, hconstants]
  case run =>
    rw [enterRun_unwarned (hcontrol ▸ hw)]
    exact enteredRun_worksInRun (hcontrol ▸ h1) (by rw [hcontrol, hroster, hentries]; exact h8)
  case warned =>
    rw [← hcontrol] at hw
    rw [← hrecorder] at hcap hl
    have hnow : (enterRun true u).now = u.now := now_congr (by simp)
    have hmodes := enterRun_control_fresh u
    rw [if_pos hw, hcontrol] at hmodes
    obtain ⟨hvalid, hdReq, hpReq, hblend, hdemand⟩ := enterRun_warned_blocks hw
    obtain ⟨hsnapshot, hevents, hoccurrence, hcapture, img, himage, hcause, hcls, hpower, hnumber⟩ :=
      enterRun_warned_recorder hw hcap hl
    rw [hcontrol, hmode, hrecorder] at hevents
    rw [hnow]
    exact ⟨by rw [hmodes], by rw [hmodes]; exact hr, by rw [hmodes], by rw [hmodes], hvalid, hdReq, hpReq, hblend, hdemand,
      hsnapshot, hevents, hoccurrence, hcapture, img, himage, hcause, hcls, hpower, by rw [hnumber, hstore, hnext]⟩

end Sys2Proof.Machine
end

section
/-!
PROOFS. The truck quantities (O36): the axles are taken in one by one, lowest-numbered first, and the worst so far is kept.
-/

namespace Sys2Proof.Machine

open Sys2Proof

/-! ### The worst axles -/

/-- Axle `x` at place `i` is the most-slipping OK axle, the lowest-numbered where slips are equal, and gives slip and acceleration
(R70). -/
structure MostSlipping (vRef : Nat) (axles : List Axle) (slip : Nat) (accel : Int) (i : Nat) (x : Axle) : Prop where
  place : axles[i]? = some x
  ok : x.status = .ok
  slip_eq : axleSlip vRef x.speed = slip
  accel_eq : accel = -x.decel
  most : ∀ (j : Nat) (b : Axle), axles[j]? = some b → b.status = .ok →
    axleSlip vRef b.speed ≤ slip ∧ (axleSlip vRef b.speed = slip → i ≤ j)

/-- Axle `x` is a fastest-falling OK axle and gives the deceleration (R70). -/
structure FastestFalling (axles : List Axle) (decel : Int) (x : Axle) : Prop where
  mem : x ∈ axles
  ok : x.status = .ok
  decel_eq : decel = x.decel
  most : ∀ b ∈ axles, b.status = .ok → b.decel ≤ decel

/-- Quantities that are those of a truck's worst axles, which may be two. -/
def TruckQuantities.WorstOf (vRef : Nat) (axles : List Axle) (q : TruckQuantities) : Prop :=
  (∃ i x, MostSlipping vRef axles q.slip q.accel i x) ∧ ∃ x, FastestFalling axles q.decel x

section Concat

variable {vRef slip i : Nat} {accel decel : Int} {axles : List Axle} {a x : Axle}

/-- The places of the axles when one more is taken in. -/
theorem place_concat {j : Nat} {b : Axle} (h : (axles ++ [a])[j]? = some b) :
    axles[j]? = some b ∨ (j = axles.length ∧ b = a) := by
  rw [List.getElem?_append] at h
  split at h
  · exact .inl h
  · rw [List.getElem?_singleton] at h
    split at h
    · exact .inr ⟨by omega, (Option.some.inj h).symm⟩
    · cases h

/-- A further axle that is not OK or slips no more leaves the most-slipping one. -/
theorem MostSlipping.concat (h : MostSlipping vRef axles slip accel i x)
    (ha : a.status = .ok → axleSlip vRef a.speed ≤ slip) : MostSlipping vRef (axles ++ [a]) slip accel i x := by
  have hi := (List.getElem?_eq_some_iff.1 h.place).1
  refine ⟨(List.getElem?_append_left hi).trans h.place, h.ok, h.slip_eq, h.accel_eq, fun j b hb hok => ?_⟩
  rcases place_concat hb with hb | ⟨rfl, rfl⟩
  · exact h.most j b hb hok
  · exact ⟨ha hok, fun _ => hi.le⟩

/-- An OK axle that slips more than those before it is the most-slipping one. -/
theorem mostSlipping_last (h : ∀ b ∈ axles, b.status = .ok → axleSlip vRef b.speed < axleSlip vRef a.speed)
    (ha : a.status = .ok) :
    MostSlipping vRef (axles ++ [a]) (axleSlip vRef a.speed) (-a.decel) axles.length a := by
  refine ⟨by simp, ha, rfl, rfl, fun j b hb hok => ?_⟩
  rcases place_concat hb with hb | ⟨rfl, rfl⟩
  · have hlt := h b (List.mem_of_getElem? hb) hok
    exact ⟨hlt.le, fun heq => absurd heq hlt.ne⟩
  · exact ⟨le_rfl, fun _ => le_rfl⟩

/-- A further axle that is not OK or falls no faster leaves the fastest-falling one. -/
theorem FastestFalling.concat (h : FastestFalling axles decel x) (ha : a.status = .ok → a.decel ≤ decel) :
    FastestFalling (axles ++ [a]) decel x := by
  refine ⟨List.mem_append_left _ h.mem, h.ok, h.decel_eq, fun b hb hok => ?_⟩
  rcases List.mem_append.1 hb with hb | hb
  · exact h.most b hb hok
  · obtain rfl := List.mem_singleton.1 hb
    exact ha hok

/-- An OK axle that falls as fast as any before it is a fastest-falling one. -/
theorem fastestFalling_last (h : ∀ b ∈ axles, b.status = .ok → b.decel ≤ a.decel) (ha : a.status = .ok) :
    FastestFalling (axles ++ [a]) a.decel a := by
  refine ⟨by simp, ha, rfl, fun b hb hok => ?_⟩
  rcases List.mem_append.1 hb with hb | hb
  · exact h b hb hok
  · rw [List.mem_singleton.1 hb]

/-- A further OK axle replaces the most-slipping one when it slips more, and the fastest-falling one when it falls faster. -/
theorem TruckQuantities.WorstOf.concat {q : TruckQuantities} (h : q.WorstOf vRef axles) (ha : a.status = .ok) :
    TruckQuantities.WorstOf vRef (axles ++ [a]) ⟨max q.slip (axleSlip vRef a.speed), max q.decel a.decel,
      if q.slip < axleSlip vRef a.speed then -a.decel else q.accel⟩ := by
  obtain ⟨⟨i, x, hx⟩, y, hy⟩ := h
  constructor
  · rcases lt_or_ge q.slip (axleSlip vRef a.speed) with hlt | hle
    · have hless : ∀ b ∈ axles, b.status = .ok → axleSlip vRef b.speed < axleSlip vRef a.speed := fun b hb hok => by
        obtain ⟨j, hj⟩ := List.mem_iff_getElem?.1 hb
        exact (hx.most j b hj hok).1.trans_lt hlt
      simpa [max_eq_right hlt.le, hlt] using ⟨_, _, mostSlipping_last hless ha⟩
    · simpa [max_eq_left hle, hle.not_gt] using ⟨_, _, hx.concat fun _ => hle⟩
  · rcases le_total q.decel a.decel with hle | hle
    · simpa [max_eq_right hle] using ⟨_, fastestFalling_last (fun b hb hok => (hy.most b hb hok).trans hle) ha⟩
    · simpa [max_eq_left hle] using ⟨_, hy.concat fun _ => hle⟩

end Concat

/-! ### The quantities of an evaluation -/

/-- One more axle is taken in when it is OK (R70). -/
theorem truckQuantities_concat (vRef : Nat) (axles : List Axle) (a : Axle) : truckQuantities vRef (axles ++ [a]) =
    if a.status = .ok then TruckQuantities.take vRef (truckQuantities vRef axles) a else truckQuantities vRef axles := by
  unfold truckQuantities
  rw [List.filter_append, List.foldl_append]
  split <;> simp [*]

/-- The quantities are those of the worst OK axles, and there are none without an OK axle (R70, R71). -/
theorem truckQuantities_spec (vRef : Nat) (axles : List Axle) :
    (truckQuantities vRef axles = none ∧ ∀ a ∈ axles, a.status ≠ .ok) ∨
    ∃ q, truckQuantities vRef axles = some q ∧ q.WorstOf vRef axles := by
  induction axles using List.reverseRecOn with
  | nil => exact .inl ⟨rfl, by simp⟩
  | append_singleton axles a ih =>
    rw [truckQuantities_concat]
    by_cases ha : a.status = .ok
    · rw [if_pos ha]
      rcases ih with ⟨hnone, hall⟩ | ⟨q, hq, hworst⟩
      · refine .inr ⟨_, by rw [hnone]; rfl, ⟨_, _, mostSlipping_last (fun b hb hok => absurd hok (hall b hb)) ha⟩,
          _, fastestFalling_last (fun b hb hok => absurd hok (hall b hb)) ha⟩
      · exact .inr ⟨_, by rw [hq]; rfl, hworst.concat ha⟩
    · rw [if_neg ha]
      rcases ih with ⟨hnone, hall⟩ | ⟨q, hq, ⟨i, x, hx⟩, y, hy⟩
      · exact .inl ⟨hnone, by simpa [or_imp, forall_and] using ⟨hall, ha⟩⟩
      · exact .inr ⟨q, hq, ⟨i, x, hx.concat (absurd · ha)⟩, y, hy.concat (absurd · ha)⟩

/-- Settles O36: `truckQuantities_spec` takes the axles in one by one. -/
theorem truckQuantitiesAreTheWorst : Obligations.TruckQuantitiesAreTheWorst := by
  unfold Obligations.TruckQuantitiesAreTheWorst
  intro vRef axles _ slip hslip
  obtain rfl : slip = fun a => axleSlip vRef a.speed := funext hslip
  rcases truckQuantities_spec vRef axles with ⟨hnone, hall⟩ | ⟨q, hq, ⟨i, x, hx⟩, y, hy⟩
  · exact ⟨iff_of_true hnone hall, fun q hq => absurd (hnone.symm.trans hq) (by simp)⟩
  · refine ⟨iff_of_false (by simp [hq]) fun hall => hall y hy.mem hy.ok, fun q' hq' => ?_⟩
    obtain rfl : q = q' := Option.some.inj (hq.symm.trans hq')
    exact ⟨⟨i, x, hx.place, hx.ok, hx.slip_eq, hx.accel_eq.trans (Int.neg_sub _ _), hx.most⟩,
      ⟨y, hy.mem, hy.ok, hy.decel_eq⟩, hy.most⟩

end Sys2Proof.Machine
end

section
/-!
PROOFS. The slide evaluation of each truck (O37): the branches of one truck's evaluation, the events of an entry to RELIEVE, and
what a sweep leaves of all that the evaluations read.
-/

namespace Sys2Proof.Machine

open Sys2Proof

/-! ### One truck, branch by branch -/

/-- A truck after step 4: with quantities at most one transition, without them the quiet run ends (R71, R73 to R76). -/
def Truck.movedOn (i : SlideInputs) (q : Option TruckQuantities) (t : Truck) : Truck :=
  match q with
  | none => t.noQuantities
  | some q => t.transition i q

section Transition

variable {t : Truck}

theorem transition_normal (h : t.state = .normal) (i : SlideInputs) (q : TruckQuantities) : t.transition i q =
    if i.sWatch ≤ q.slip ∨ (i.decelWatch : Int) ≤ q.decel then t.enter .watch else t := by
  rw [Truck.transition, h]

theorem transition_watch (h : t.state = .watch) (i : SlideInputs) (q : TruckQuantities) : t.transition i q =
    if i.sRelieve ≤ q.slip then t.enter .relieve else t.watchQuiet i q := by
  rw [Truck.transition, h]

theorem transition_relieve (h : t.state = .relieve) (i : SlideInputs) (q : TruckQuantities) : t.transition i q =
    if 2 ≤ q.accel then t.enter .hold else t := by
  rw [Truck.transition, h]

theorem transition_hold (h : t.state = .hold) (i : SlideInputs) (q : TruckQuantities) : t.transition i q =
    if i.sRelieve ≤ q.slip then t.enter .relieve else if q.slip < i.sWatch then t.enter .reapply else t := by
  rw [Truck.transition, h]

theorem transition_reapply (h : t.state = .reapply) (i : SlideInputs) (q : TruckQuantities) : t.transition i q =
    if i.sRelieve ≤ q.slip then t.enter .relieve else t.reapplyRise := by
  rw [Truck.transition, h]

end Transition

section Evaluate

variable {t : Truck} (i : SlideInputs) (axles : List Axle)

theorem evaluate_lockout (h : t.state = .lockout) : (t.evaluate i axles).truck =
    if i.braking = false ∨ i.vRef < 300 then Truck.reset else t := by
  rw [Truck.evaluate, if_pos h]

variable {i}

theorem evaluate_suspended (h : t.state ≠ .lockout) (hs : i.suspended = true) : (t.evaluate i axles).truck =
    if t.state = .normal then t else Truck.reset := by
  rw [Truck.evaluate, if_neg h, if_pos hs]

theorem evaluate_active (h : t.state ≠ .lockout) (hs : i.suspended ≠ true) {moved : Truck}
    (hm : moved = t.movedOn i (truckQuantities i.vRef axles)) : t.evaluate i axles =
      ⟨moved.account i, moved.state == .relieve && t.state != .relieve, (moved.account i).state == .lockout⟩ := by
  rw [Truck.evaluate, if_neg h, if_neg hs, hm]; rfl

end Evaluate

theorem suspended_iff (i : SlideInputs) :
    i.suspended = true ↔ i.braking = false ∨ i.vRef < 500 ∨ i.refHold = true := by
  simp [SlideInputs.suspended, or_assoc]

/-- Step 4 never enters LOCKOUT (R76). -/
theorem movedOn_state_ne_lockout {t : Truck} (h : t.state ≠ .lockout) (i : SlideInputs) (q : Option TruckQuantities) :
    (t.movedOn i q).state ≠ .lockout := by
  cases q with
  | none => exact noQuantities_state t ▸ h
  | some q =>
    change (t.transition i q).state ≠ .lockout
    cases hst : t.state with
    | normal => rw [transition_normal hst]; split <;> simp [Truck.enter, hst]
    | watch =>
      rw [transition_watch hst, Truck.watchQuiet]
      repeat' split
      all_goals simp [Truck.enter, hst]
    | relieve => rw [transition_relieve hst]; split <;> simp [Truck.enter, hst]
    | hold =>
      rw [transition_hold hst]
      repeat' split
      all_goals simp [Truck.enter, hst]
    | reapply =>
      rw [transition_reapply hst, Truck.reapplyRise]
      repeat' split
      all_goals simp [Truck.enter, hst]
    | lockout => exact absurd hst h

theorem account_normal {t : Truck} (h : t.state = .normal) (i : SlideInputs) : t.account i = { t with releaseTime := 0 } := by
  simp [Truck.account, Truck.inRelief, h]

theorem account_watch {t : Truck} (h : t.state = .watch) (i : SlideInputs) : t.account i = t := by
  simp [Truck.account, Truck.inRelief, h]

theorem account_relief {t : Truck} (hn : t.state ≠ .normal) (hw : t.state ≠ .watch) (hl : t.state ≠ .lockout)
    (i : SlideInputs) : t.account i =
      if t.releaseTime + 10 = i.tLockout then
        { t with state := .lockout, factor := 50, valve := .apply, releaseTime := i.tLockout, quietSince := none }
      else { t with releaseTime := t.releaseTime + 10 } := by
  have hrelief : t.inRelief = true := by
    cases hs : t.state <;> simp_all [Truck.inRelief]
  rw [Truck.account, if_pos hrelief]
  simp only []
  split
  · rename_i heq; simp [Truck.enter, heq]
  · rfl

/-! ### The entry to RELIEVE is logged -/

theorem movedTruck_logged (n : Nat) (s : State) : ∃ es, es.length ≤ 1 ∧ Logged es s (s.movedTruck n) ∧
    ((s.truckOutcome n).relieved = true → ⟨s.now, .slide n .relieve⟩ ∈ es) := by
  unfold State.movedTruck
  simp only []
  split
  · exact ⟨_, by simp, logged_logEvent _ (s.setSlide _), fun _ => by simp⟩
  · exact ⟨[], by simp, .nil rfl, fun h => absurd h ‹_›⟩

/-- The companion of `evaluateTruck_logged` for RELIEVE, whose event comes before those of LOCKOUT (R66, R74). -/
theorem evaluateTruck_relieve_logged (n : Nat) (s : State) : ∃ es, es.length ≤ 3 ∧ Logged es s (evaluateTruck n s) ∧
    ((s.truckOutcome n).relieved = true → ⟨s.now, .slide n .relieve⟩ ∈ es) := by
  obtain ⟨es, hlen, hmoved, hmem⟩ := movedTruck_logged n s
  rw [evaluateTruck_eq]
  split
  · obtain ⟨fs, hfs, hnoted, -⟩ := noteLockout_logged n (s.movedTruck n)
    exact ⟨es ++ fs, by simp; omega, hmoved.trans hnoted, fun h => List.mem_append_left fs (hmem h)⟩
  · exact ⟨es, by omega, hmoved, hmem⟩

/-- Both trucks' entries to RELIEVE stand in the event ring after the evaluation (R74, R134). -/
theorem slideEvaluation_relieve_logged {s : State} (hm : s.control.mode = .run) {n : Nat} (hn : n = 1 ∨ n = 2)
    (h : (s.truckOutcome n).relieved = true) : ⟨s.now, .slide n .relieve⟩ ∈ (slideEvaluation s).recorder.events := by
  obtain ⟨es, hes, hlogged, hmem⟩ := evaluateTruck_relieve_logged 1 s
  obtain ⟨fs, hfs, hlogged', hmem'⟩ := evaluateTruck_relieve_logged 2 (evaluateTruck 1 s)
  have hnow : (evaluateTruck 1 s).now = s.now := now_congr (by simp)
  rw [truckOutcome_two, hnow] at hmem'
  have hrecorder : (slideEvaluation s).recorder = (evaluateTruck 2 (evaluateTruck 1 s)).recorder := by
    rw [slideEvaluation_eq hm]; simp
  rw [hrecorder]
  refine (hlogged.trans hlogged').mem (by simp; omega) ?_
  rcases hn with rfl | rfl
  · exact List.mem_append_left fs (hmem h)
  · exact List.mem_append_right es (hmem' h)

/-! ### The sweep -/

/-- The evaluation leaves all that it reads of the other blocks. -/
theorem slideEvaluation_inputs {s : State} (hm : s.control.mode = .run) :
    (slideEvaluation s).slideInputs = s.slideInputs := by
  have hparams : (slideEvaluation s).params = s.params := params_congr (by simp)
  have hnow : (slideEvaluation s).now = s.now := now_congr (by simp)
  simp [State.slideInputs, slideEvaluation_output hm, hparams, hnow]

/-- A due sweep in RUN evaluates both trucks on the axles and V_ref that it leaves (R66). -/
theorem speedSweep_trucks {dt : Passage} {s : State} (ha : Accepts s) (hm : s.control.mode = .run)
    (due : timerDue s.speed.sweepTimer 10 (s.advance dt).now = true) :
    ∃ t, exec (.speedSweep dt) s = .next t ∧
      t.slideInputs = ⟨t.speed.vRef, t.speed.refHold, 0 < s.output.dReq || 0 < s.output.pReq, s.params.sWatch, s.params.sRelieve,
        s.params.decelWatch, s.params.tLockout, t.now⟩ ∧
      ∀ n old new, (n = 1 ∧ old = s.slide.truck1 ∧ new = t.slide.truck1) ∨
          (n = 2 ∧ old = s.slide.truck2 ∧ new = t.slide.truck2) →
        new = (old.evaluate t.slideInputs (t.truckAxles n)).truck ∧
        ((old.evaluate t.slideInputs (t.truckAxles n)).relieved = true → ⟨t.now, .slide n .relieve⟩ ∈ t.recorder.events) := by
  refine ⟨_, exec_speedSweep ha, ?_⟩
  rw [speedSweepEffect_due (by simpa using due)]
  generalize hu : (s.advance dt).setSpeed (s.advance dt).sweptSpeed = u
  have hslide : u.slide = s.slide := by subst hu; simp
  have houtput : u.output = s.output := by subst hu; simp
  have hparams : u.params = s.params := by subst hu; simp
  have hrun : u.control.mode = .run := by subst hu; simpa
  have hnow : (slideEvaluation u).now = u.now := now_congr (by simp)
  have haxles : ∀ n, (slideEvaluation u).truckAxles n = u.truckAxles n := fun n => by simp [State.truckAxles]
  rw [slideEvaluation_inputs hrun]
  refine ⟨by simp [State.slideInputs, houtput, hparams, hnow], fun n old new h => ?_⟩
  rw [haxles, hnow]
  rw [slideEvaluation_slide hrun, ← hslide] at h
  rcases h with ⟨rfl, rfl, rfl⟩ | ⟨rfl, rfl, rfl⟩
  · exact ⟨rfl, slideEvaluation_relieve_logged hrun (.inl rfl)⟩
  · exact ⟨rfl, slideEvaluation_relieve_logged hrun (.inr rfl)⟩

/-- Settles O37: the branches of the evaluation of a truck, and step 4 state by state. -/
theorem slideEvaluationMovesEachTruck : Obligations.SlideEvaluationMovesEachTruck := by
  unfold Obligations.SlideEvaluationMovesEachTruck
  intro dt s ha hm due
  obtain ⟨t, hexec, hinputs, htrucks⟩ := speedSweep_trucks ha hm due
  refine ⟨t, hexec, fun n old new hn braking suspended hbraking hsuspended => ?_⟩
  obtain ⟨rfl, hrelieved⟩ := htrucks n old new hn
  generalize t.slideInputs = i at hinputs hrelieved ⊢
  generalize t.truckAxles n = axles at hrelieved ⊢
  have hvRef : i.vRef = t.speed.vRef := by rw [hinputs]
  have hbraking' : i.braking = false ↔ ¬ braking := by rw [hbraking, hinputs]; simp
  have hsuspended' : i.suspended = true ↔ suspended := by rw [suspended_iff, hsuspended, hbraking', hinputs]
  rw [← hvRef, ← hbraking', ← hsuspended']
  refine ⟨fun h hexit => ?_, fun h hstay => ?_, fun h hn hs => ?_, fun h hs => ?_,
    fun h hs => ⟨old.movedOn i (truckQuantities i.vRef axles), ?none, fun q hq => ?some, ?rest⟩⟩
  · exact (evaluate_lockout i axles h).trans (if_pos hexit)
  · exact (evaluate_lockout i axles h).trans (if_neg hstay)
  · exact (evaluate_suspended axles h hs).trans (if_neg hn)
  · exact (evaluate_suspended axles (by simp [h]) hs).trans (if_pos h)
  case none =>
    intro hnone
    rw [hnone]; rfl
  case some =>
    rw [hq, hinputs]
    exact ⟨fun hst => transition_normal hst _ q, fun hst => transition_watch hst _ q, fun hst => transition_relieve hst _ q,
      fun hst => transition_hold hst _ q, fun hst => transition_reapply hst _ q⟩
  case rest =>
    have hmoved := movedOn_state_ne_lockout h i (truckQuantities i.vRef axles)
    rw [evaluate_active axles h hs rfl] at hrelieved ⊢
    generalize old.movedOn i (truckQuantities i.vRef axles) = moved at hmoved hrelieved ⊢
    refine ⟨fun hn => account_normal hn i, fun hw => account_watch hw i, fun hn hw => ?_,
      fun hm hr => hrelieved (by simp [hm, hr])⟩
    rw [account_relief hn hw hmoved, hinputs]

end Sys2Proof.Machine
end

section
/-!
PROOFS. The REPORT (O47): the report timer's expiry, the payload's bits, and the REPORT's first going on air.
-/

namespace Sys2Proof.Machine

open Sys2Proof

/-! ### The payload -/

/-- The bits of the flags byte of a REPORT (R102, R192). -/
theorem reportFlags_bits (s : State) :
    s.reportFlags.getLsbD 0 = s.demand.controlling ∧
    (s.reportFlags.getLsbD 1 = true ↔ s.demand.emergency = .emergency) ∧
    s.reportFlags.getLsbD 2 = s.roster.unheard ∧ s.reportFlags.getLsbD 3 = s.roster.duplicate ∧
    (s.reportFlags.getLsbD 4 = true ↔ s.slide.truck1.state = .lockout ∨ s.slide.truck2.state = .lockout) ∧
    s.reportFlags.getLsbD 5 = s.speed.refHold ∧ (s.reportFlags.getLsbD 6 = true ↔ s.control.mode = .safe) ∧
    s.reportFlags.getLsbD 7 = false := by
  have bits := byteOfBits_bit s.demand.controlling (s.demand.emergency == .emergency) s.roster.unheard s.roster.duplicate
    s.slide.lockoutPresent s.speed.refHold (s.control.mode == .safe) false
  have hlockout : s.slide.lockoutPresent = true ↔ s.slide.truck1.state = .lockout ∨ s.slide.truck2.state = .lockout := by
    simp [SlideUnit.lockoutPresent]
  exact ⟨bits 0, (Bool.eq_iff_iff.1 (bits 1)).trans beq_iff_eq, bits 2, bits 3, (Bool.eq_iff_iff.1 (bits 4)).trans hlockout,
    bits 5, (Bool.eq_iff_iff.1 (bits 6)).trans beq_iff_eq, bits 7⟩

/-- The relief byte counts the trucks in relief, of which there are two at most (R81). -/
theorem relief_toNat (u : SlideUnit) :
    (byteOf u.reliefCount).toNat = ([u.truck1, u.truck2].filter Truck.inRelief).length := by
  unfold SlideUnit.reliefCount
  cases h1 : u.truck1.inRelief <;> cases h2 : u.truck2.inRelief <;> simp [h1, h2, byteOf]

/-- The payload is taken from blocks that a passage leaves. -/
theorem advance_reportPayload (dt : Passage) (s : State) : (s.advance dt).reportPayload = s.reportPayload := by
  simp [State.reportPayload, State.ownHeld, State.reportFlags]

theorem ownHeld_eq {s : State} {own : Entry} {held : ReportPayload} (he : s.roster.entry? s.control.station = some own)
    (hh : own.held = some held) : s.ownHeld = held := by
  obtain ⟨_, _, _, _, _, _, _⟩ := own
  obtain rfl : _ = some held := hh
  rw [State.ownHeld, he]

/-! ### The report timer -/

theorem exec_reportTimerExpiry {dt : Passage} {s : State} (ha : Accepts s) :
    exec (.reportTimerExpiry dt) s = .next (reportTimerEffect (s.advance dt)) := exec_accepted ha

/-- A device that works accepts a REPORT (R104, R113). -/
theorem enqueueReport_working {s : State} (hw : s.control.mode.working = true) : enqueueReport s =
    s.setLine { s.line with queue := { s.line.queue with report := true } } := by
  have hmode : s.control.mode = .run ∨ s.control.mode = .safe := by
    cases hm : s.control.mode <;> simp_all [Mode.working]
  rw [enqueueReport, if_pos hmode]; rfl

theorem reportTimerEffect_due {s : State} (hw : s.control.mode.working = true)
    (due : timerDue s.line.reportTimer 100 s.now = true) : reportTimerEffect s = s.setLine { s.line with
      reportTimer := timerNext s.line.reportTimer 100, queue := { s.line.queue with report := true } } := by
  rw [reportTimerEffect, if_pos due, enqueueReport_working (by exact hw)]; rfl

/-! ### First going on air -/

theorem exec_firstGoesOnAir {dt : Passage} {idle : Nat} {s : State} (ha : Accepts s) :
    exec (.firstGoesOnAir dt idle) s = .next (firstGoesOnAirEffect idle (s.advance dt)) := exec_accepted ha

/-- The start bit of an own start mark: the idle time begins again, and an IDLE framer receives under the echo mark (R97, R99,
R111). -/
theorem driveStart_eq (l : LineController) : l.driveStart = { l with
    idleMicros := 0
    framer := if l.framer = .idle then .receiving else l.framer
    buffer := if l.framer = .idle then [] else l.buffer
    echo := if l.framer = .idle then true else l.echo } := by
  unfold LineController.driveStart LineController.receive
  split <;> simp_all

/-- A queued REPORT behind nothing else is the candidate (R106). -/
theorem candidate_report {l : LineController} (ho : l.onAir = none) (hq : l.queue = ⟨[], none, true⟩) :
    l.candidate = some .report := by
  simp [LineController.candidate, ho, hq]

/-- REPORT alone is sent in SAFE too (R113). -/
theorem transmits_report {m : Mode} (hw : m.working = true) : transmits m .report = true := by
  cases m <;> simp_all [Mode.working, transmits]

theorem firstGoesOnAirEffect_report {s : State} {idle : Nat} (hw : s.control.mode.working = true) (ho : s.line.onAir = none)
    (hq : s.line.queue = ⟨[], none, true⟩) (hquiet : 48 + 8 * s.control.station ≤ idle) (hidle : idle ≤ s.line.idleBits) :
    firstGoesOnAirEffect idle s = reportOnAir s := by
  rw [firstGoesOnAirEffect, candidate_report ho hq]
  exact if_pos ⟨transmits_report hw, hquiet, hidle⟩

/-- Settles O47: the timer's expiry, the candidate's going on air, and the payload field by field. -/
theorem reportGoesOnAirWithTheMoment : Obligations.ReportGoesOnAirWithTheMoment := by
  unfold Obligations.ReportGoesOnAirWithTheMoment
  intro dt s ha hw
  refine ⟨fun early => ?_, fun due => ?_, fun own held idle hl he hh ho hq hquiet hidle => ⟨s.reportPayload, ?air, ?payload⟩⟩
  · rw [exec_reportTimerExpiry ha, reportTimerEffect, if_neg (by simpa using early)]
  · rw [exec_reportTimerExpiry ha, reportTimerEffect_due (by simpa using hw) (by simpa using due)]
    simp
  case air =>
    rw [exec_firstGoesOnAir ha, firstGoesOnAirEffect_report (by simpa using hw) (by simpa using ho) (by simpa using hq)
      (by simpa using hquiet) hidle]
    simp [reportOnAir, LineController.putOnAir, driveStart_eq, advance_reportPayload, hq]
  case payload =>
    obtain rfl := ownHeld_eq he hh
    obtain ⟨h0, h1, h2, h3, h4, h5, h6, h7⟩ := reportFlags_bits s
    have hview : ∀ n e, n ≤ 8 → s.roster.entry? n = some e →
        (s.roster.viewMask.getLsbD (n - 1) = true ↔ e.state = .present) := fun _ _ hn he => Roster.maskOf_bit hl hn he
    exact ⟨rfl, rfl, rfl, rfl, rfl, rfl, h0, h1, h2, h3, h4, h5, h6, h7, relief_toNat s.slide, rfl, hview, rfl, rfl, rfl, rfl⟩

end Sys2Proof.Machine
end

section
/-!
PROOFS. Words and times in bytes: what stands in a slice of bytes reads back at its offset (chapter 12).
-/

namespace Sys2Proof.Machine

open Sys2Proof

theorem byteAt_of_slice {bs slice : List Byte} {i n k : Nat} (h : (bs.drop i).take n = slice) (hk : k < n) :
    byteAt bs (i + k) = byteAt slice k := by
  subst h
  simp [byteAt, List.getD_eq_getElem?_getD, hk]

theorem wordAt_of_slice {bs slice : List Byte} {i n k : Nat} (h : (bs.drop i).take n = slice) (hk : k + 1 < n) :
    wordAt bs (i + k) = wordAt slice k := by
  rw [wordAt, byteAt_of_slice h (by omega), Nat.add_assoc, byteAt_of_slice h hk, wordAt]

theorem wordAt_wordBytes (w : BitVec 16) : wordAt (wordBytes w) 0 = w :=
  BitVec.extractLsb'_append_extractLsb'_eq_extractLsb' (by omega) |>.trans (by simp)

/-- Two bytes that are a word's read as the word. -/
theorem wordAt_eq_of_slice {bs : List Byte} {i : Nat} {w : BitVec 16} (h : (bs.drop i).take 2 = wordBytes w) : wordAt bs i = w :=
  (wordAt_of_slice h (k := 0) (by decide)).trans (wordAt_wordBytes w)

/-- The two bytes of a word are the ones that it is put together from. -/
theorem wordBytes_append (hi lo : Byte) : wordBytes (hi ++ lo) = [hi, lo] := by
  rw [wordBytes, BitVec.extractLsb'_append_eq_left, BitVec.extractLsb'_append_eq_right]

theorem wordAt_timeBytes (t : Time) : wordAt (timeBytes t) 0 ++ wordAt (timeBytes t) 2 = t := by
  have hi : wordAt (timeBytes t) 0 = t.extractLsb' 16 16 := BitVec.extractLsb'_append_extractLsb'_eq_extractLsb' (by omega)
  have lo : wordAt (timeBytes t) 2 = t.extractLsb' 0 16 := BitVec.extractLsb'_append_extractLsb'_eq_extractLsb' (by omega)
  rw [hi, lo]
  exact BitVec.extractLsb'_append_extractLsb'_eq_extractLsb' (by omega) |>.trans (by simp)

/-- Four bytes that are a time's read as the time. -/
theorem timeAt_eq_of_slice {bs : List Byte} {i : Nat} {t : Time} (h : (bs.drop i).take 4 = timeBytes t) :
    wordAt bs i ++ wordAt bs (i + 2) = t := by
  have hi : wordAt bs i = wordAt (timeBytes t) 0 := wordAt_of_slice h (k := 0) (by decide)
  rw [hi, wordAt_of_slice h (k := 2) (by decide), wordAt_timeBytes]

end Sys2Proof.Machine
end

section
/-!
PROOFS. The converter link (R84 to R86, O44): feedback messages accepted, discarded and outdated, and the beginning of a request
message.
-/

namespace Sys2Proof.Machine

open Sys2Proof

/-! ### Feedback -/

/-- A feedback message: the start byte, two words and their check value (R193). -/
def feedbackBytes (e l : BitVec 16) : List Byte :=
  0x5B :: wordBytes e ++ wordBytes l ++ wordBytes (checkValue (wordBytes e ++ wordBytes l))

theorem parseFeedback_feedbackBytes (e l : BitVec 16) : parseFeedback (feedbackBytes e l) = some (e.toNat, l.toNat) := by
  have he : wordAt (feedbackBytes e l) 1 = e := wordAt_eq_of_slice rfl
  have hl : wordAt (feedbackBytes e l) 3 = l := wordAt_eq_of_slice rfl
  have hcheck : wordAt (feedbackBytes e l) 5 = checkValue (wordBytes e ++ wordBytes l) := wordAt_eq_of_slice rfl
  have hcovered : ((feedbackBytes e l).drop 1).take 4 = wordBytes e ++ wordBytes l := rfl
  rw [parseFeedback, hcheck, hcovered, if_pos ⟨rfl, rfl, rfl⟩, natAt2, natAt2, he, hl]

/-- Nothing but a feedback message is accepted (R85, R193). -/
theorem eq_feedbackBytes_of_parseFeedback {chars : List Byte} {v : Nat × Nat} (h : parseFeedback chars = some v) :
    ∃ e l, chars = feedbackBytes e l := by
  obtain ⟨hlen, hstart, hcheck⟩ := (Option.ite_none_right_eq_some.1 h).1
  obtain ⟨b0, b1, b2, b3, b4, b5, b6, rfl⟩ : ∃ b0 b1 b2 b3 b4 b5 b6, chars = [b0, b1, b2, b3, b4, b5, b6] := by
    match chars, hlen with
    | [b0, b1, b2, b3, b4, b5, b6], _ => exact ⟨b0, b1, b2, b3, b4, b5, b6, rfl⟩
  obtain rfl : b0 = 0x5B := hstart
  have hsum : wordBytes (checkValue [b1, b2, b3, b4]) = [b5, b6] := by
    rw [← wordBytes_append b5 b6]; exact congrArg wordBytes hcheck.symm
  refine ⟨b1 ++ b2, b3 ++ b4, ?_⟩
  simp [feedbackBytes, wordBytes_append, hsum]

theorem parseFeedback_eq_none {chars : List Byte} (h : ∀ e l, chars ≠ feedbackBytes e l) : parseFeedback chars = none := by
  cases hp : parseFeedback chars with
  | none => rfl
  | some v =>
    obtain ⟨e, l, hc⟩ := eq_feedbackBytes_of_parseFeedback hp
    exact absurd hc (h e l)

/-! ### The commands of the link -/

theorem exec_converterFeedback {dt : Passage} {chars : List Byte} {s : State} (ha : Accepts s) :
    exec (.converterFeedback dt chars) s = .next (converterFeedbackEffect chars (s.advance dt)) := exec_accepted ha

theorem exec_stalenessExpiry {dt : Passage} {s : State} (ha : Accepts s) :
    exec (.stalenessExpiry dt) s = .next (stalenessEffect (s.advance dt)) := exec_accepted ha

theorem exec_requestMessage {dt : Passage} {s : State} (ha : Accepts s) :
    exec (.requestMessage dt) s = .next (requestMessageEffect (s.advance dt)) := exec_accepted ha

/-- Messages begin 80 bit times apart (R84). -/
theorem requestDue_iff {o : OutputStage} {micros : Time} :
    o.requestDue micros = true ↔ ∀ m, o.request = some m → 320 ≤ elapsed m.begun micros := by
  unfold OutputStage.requestDue
  cases o.request <;> simp

/-- Settles O44, by the outcome of the parse, of the staleness timer and of the request's 80 bit times. -/
theorem converterLinkCarriesRequestAndFeedback : Obligations.ConverterLinkCarriesRequestAndFeedback := by
  unfold Obligations.ConverterLinkCarriesRequestAndFeedback
  intro dt s ha
  refine ⟨fun e l => ?accepted, fun chars hno => ?discarded, fun due => ?stale, fun early => ?fresh, fun due => ?begins,
    fun m hm early => ?waits⟩
  case accepted =>
    have hparse : parseFeedback (0x5B :: wordBytes e ++ wordBytes l ++ wordBytes (checkValue (wordBytes e ++ wordBytes l))) =
      some (e.toNat, l.toNat) := parseFeedback_feedbackBytes e l
    rw [exec_converterFeedback ha, converterFeedbackEffect, hparse]; rfl
  case discarded => rw [exec_converterFeedback ha, converterFeedbackEffect, parseFeedback_eq_none hno]
  case stale => rw [exec_stalenessExpiry ha, stalenessEffect]; exact congrArg _ (if_pos due)
  case fresh => rw [exec_stalenessExpiry ha, stalenessEffect]; exact congrArg _ (if_neg (by simpa using early))
  case begins => rw [exec_requestMessage ha, requestMessageEffect]; exact congrArg _ (if_pos (requestDue_iff.2 due))
  case waits =>
    have notDue : ¬ s.output.requestDue (s.advance dt).micros = true := fun due =>
      absurd (requestDue_iff.1 due m hm) (by omega)
    rw [exec_requestMessage ha, requestMessageEffect]; exact congrArg _ (if_neg notDue)

end Sys2Proof.Machine
end

section
/-!
PROOFS. The pressure sample (R93 to R95, O45): one truck's reading and mismatch watch, then both trucks with their raisings.
-/

namespace Sys2Proof.Machine

open Sys2Proof

/-! ### One truck -/

theorem read_of_le {p : BitVec 10} (h : p.toNat ≤ 700) (t : TruckOutput) :
    t.read p = { t with pMeas := p.toNat, sensorFault := false } := by
  simp [TruckOutput.read, pressureFault, Nat.not_lt.2 h]

theorem read_of_gt {p : BitVec 10} (h : 700 < p.toNat) (t : TruckOutput) : t.read p = { t with sensorFault := true } := by
  simp [TruckOutput.read, pressureFault, h]

/-- A reading leaves the run and the episode to the watch. -/
theorem read_episode (p : BitVec 10) (t : TruckOutput) :
    (t.read p).mismatchSince = t.mismatchSince ∧ (t.read p).mismatchOpen = t.mismatchOpen := by
  unfold TruckOutput.read; split <;> exact ⟨rfl, rfl⟩

/-- The mismatch condition as a sample finds it after the reading (R94). -/
theorem read_mismatch_iff {p : BitVec 10} {mode : Mode} {pReq : Nat} {t : TruckOutput} : (t.read p).mismatch mode pReq = true ↔
    mode = .run ∧ t.drive = .apply ∧ p.toNat ≤ 700 ∧ 60 < absDiff pReq p.toNat := by
  rcases Nat.lt_or_ge 700 p.toNat with h | h
  · simp [read_of_gt h, TruckOutput.mismatch, Nat.not_le.2 h]
  · simp [read_of_le h, TruckOutput.mismatch, h, and_assoc]

theorem mismatchRaises_iff {now : Time} {t : TruckOutput} : t.mismatchRaises now = true ↔
    t.mismatchOpen = false ∧ ∃ since, t.mismatchSince = some since ∧ 2000 ≤ elapsed since now := by
  unfold TruckOutput.mismatchRaises
  cases t.mismatchSince with
  | none => simp
  | some since => simp [and_comm]

theorem watch_of_mismatch {mode : Mode} {pReq : Nat} {t : TruckOutput} (h : t.mismatch mode pReq = true) (now : Time) :
    t.watch mode pReq now = { t with
      mismatchSince := some (t.mismatchSince.getD now), mismatchOpen := t.mismatchOpen || t.mismatchRaises now } := if_pos h

theorem watch_of_match {mode : Mode} {pReq : Nat} {t : TruckOutput} (h : ¬ t.mismatch mode pReq = true) (now : Time) :
    t.watch mode pReq now = { t with mismatchSince := none, mismatchOpen := false } := if_neg h

/-- The watch leaves what the reading took. -/
theorem watch_reading (mode : Mode) (pReq : Nat) (now : Time) (t : TruckOutput) :
    (t.watch mode pReq now).pMeas = t.pMeas ∧ (t.watch mode pReq now).sensorFault = t.sensorFault := by
  unfold TruckOutput.watch; split <;> exact ⟨rfl, rfl⟩

/-- Whether a truck's watch raises AIR_MISMATCH (R95). -/
def TruckOutput.mismatchOpens (mode : Mode) (pReq : Nat) (now : Time) (t : TruckOutput) : Bool :=
  t.mismatch mode pReq && t.mismatchRaises now

/-- What a sample does to one truck: the drive stays, a reading up to 700 is taken, and the run and the episode of the mismatch go on
while the condition holds (R93 to R95). -/
theorem watch_read_spec (p : BitVec 10) (mode : Mode) (pReq : Nat) (now : Time) {old new : TruckOutput} {raised : Bool}
    (hnew : new = (old.read p).watch mode pReq now) (hraised : raised = (old.read p).mismatchOpens mode pReq now) :
    new.drive = old.drive ∧ (p.toNat ≤ 700 → new.pMeas = p.toNat ∧ new.sensorFault = false) ∧
    (700 < p.toNat → new.pMeas = old.pMeas ∧ new.sensorFault = true) ∧
    ∀ holds : Prop, (holds ↔ mode = .run ∧ old.drive = .apply ∧ p.toNat ≤ 700 ∧ 60 < absDiff pReq p.toNat) →
      (holds → new.mismatchSince = some (old.mismatchSince.getD now)) ∧
      (¬ holds → new.mismatchSince = none ∧ new.mismatchOpen = false) ∧
      (raised = true ↔ holds ∧ old.mismatchOpen = false ∧
        ∃ since, old.mismatchSince = some since ∧ 2000 ≤ elapsed since now) ∧
      (holds → new.mismatchOpen = (old.mismatchOpen || raised)) := by
  obtain ⟨hpMeas, hfault⟩ := watch_reading mode pReq now (old.read p)
  obtain ⟨hsince, hopen⟩ := read_episode p old
  subst hnew hraised
  refine ⟨?drive, fun hp => ?taken, fun hp => ?faulty, fun holds hholds => ?watch⟩
  case drive => rw [watch_drive, read_drive]
  case taken => rw [hpMeas, hfault, read_of_le hp]; exact ⟨rfl, rfl⟩
  case faulty => rw [hpMeas, hfault, read_of_gt hp]; exact ⟨rfl, rfl⟩
  case watch =>
    rw [← read_mismatch_iff] at hholds
    rw [TruckOutput.mismatchOpens, Bool.and_eq_true, mismatchRaises_iff, hsince, hopen, hholds]
    refine ⟨fun h => ?_, fun h => ?_, Iff.rfl, fun h => ?_⟩
    · rw [watch_of_mismatch h, hsince]
    · rw [watch_of_match h]; exact ⟨rfl, rfl⟩
    · rw [watch_of_mismatch h, h, hopen, Bool.true_and]

/-! ### The watch on the whole state -/

/-- The Output Stage after the watch of truck `n` (R94, R95). -/
def State.mismatchWatched (n : Nat) (s : State) : OutputStage :=
  s.output.setTruck n ((s.output.truck n).watch s.control.mode s.output.pReq s.now)

/-- Whether the watch of truck `n` raises AIR_MISMATCH (R95). -/
def State.mismatchOpens (n : Nat) (s : State) : Bool :=
  (s.output.truck n).mismatchOpens s.control.mode s.output.pReq s.now

theorem watchTruck_eq (n : Nat) (s : State) : watchTruck n s =
    if s.mismatchOpens n then raise .airMismatch (s.setOutput (s.mismatchWatched n))
    else s.setOutput (s.mismatchWatched n) := rfl

theorem watchTruck_output (n : Nat) (s : State) : (watchTruck n s).output = s.mismatchWatched n := by
  rw [watchTruck_eq]; split <;> simp

theorem watchTruck_now (n : Nat) (s : State) : (watchTruck n s).now = s.now := now_congr (by simp)

theorem watchTruck_lastOccurrence_length (n : Nat) (s : State) :
    (watchTruck n s).recorder.lastOccurrence.length = s.recorder.lastOccurrence.length := by
  rw [watchTruck_eq]; split <;> simp

/-- AIR_MISMATCH occurs at a watch that raises it (R95, R137). -/
theorem watchTruck_lastOccurrenceOf (n : Nat) {s : State} (hl : s.recorder.lastOccurrence.length = 12) :
    (watchTruck n s).recorder.lastOccurrenceOf 7 =
      if s.mismatchOpens n then some s.now else s.recorder.lastOccurrenceOf 7 := by
  rw [watchTruck_eq]
  split
  · exact raise_lastOccurrenceOf .airMismatch hl (by decide)
  · rfl

/-- Besides the Output Stage a watch changes only what a raising may. -/
theorem raisedFrom_watchTruck (n : Nat) (s : State) : RaisedFrom (s.setOutput (s.mismatchWatched n)) (watchTruck n s) := by
  rw [watchTruck_eq]
  split
  · exact raisedFrom_raiseWith _ _ _ _
  · exact .refl _

/-! ### The sample -/

/-- The Output Stage after a sample with both inputs (R93 to R95). -/
def State.pressureSampled (p1 p2 : BitVec 10) (s : State) : OutputStage := { s.output with
  truck1 := (s.output.truck1.read p1).watch s.control.mode s.output.pReq s.now
  truck2 := (s.output.truck2.read p2).watch s.control.mode s.output.pReq s.now
  pressureTimer := timerNext s.output.pressureTimer 20 }

theorem pressureSampleEffect_due {s : State} (due : timerDue s.output.pressureTimer 20 s.now = true) (p1 p2 : BitVec 10) :
    pressureSampleEffect p1 p2 s = watchTruck 2 (watchTruck 1 (readPressures p1 p2 s)) := if_pos due

/-- The watch of truck 1 goes by its own reading. -/
theorem readPressures_mismatchOpens (p1 p2 : BitVec 10) (s : State) : (readPressures p1 p2 s).mismatchOpens 1 =
    (s.output.truck1.read p1).mismatchOpens s.control.mode s.output.pReq s.now := rfl

/-- The watch of truck 2 finds the state as the readings left it, but for truck 1. -/
theorem watchTruck_readPressures (p1 p2 : BitVec 10) (s : State) :
    (watchTruck 1 (readPressures p1 p2 s)).mismatchOpens 2 =
      (s.output.truck2.read p2).mismatchOpens s.control.mode s.output.pReq s.now ∧
    (watchTruck 1 (readPressures p1 p2 s)).mismatchWatched 2 = s.pressureSampled p1 p2 := by
  have hcontrol : (watchTruck 1 (readPressures p1 p2 s)).control = s.control := by simp
  rw [State.mismatchOpens, State.mismatchWatched, watchTruck_output, watchTruck_now, hcontrol]
  exact ⟨rfl, rfl⟩

theorem pressureSampleEffect_output {s : State} (due : timerDue s.output.pressureTimer 20 s.now = true) (p1 p2 : BitVec 10) :
    (pressureSampleEffect p1 p2 s).output = s.pressureSampled p1 p2 := by
  rw [pressureSampleEffect_due due, watchTruck_output, (watchTruck_readPressures p1 p2 s).2]

theorem pressureSampleEffect_now (p1 p2 : BitVec 10) (s : State) : (pressureSampleEffect p1 p2 s).now = s.now :=
  now_congr (by simp)

/-- AIR_MISMATCH occurs at a sample at which either truck raises it (R95, R137). -/
theorem pressureSampleEffect_lastOccurrenceOf {s : State} (due : timerDue s.output.pressureTimer 20 s.now = true)
    (hl : s.recorder.lastOccurrence.length = 12) (p1 p2 : BitVec 10) :
    (pressureSampleEffect p1 p2 s).recorder.lastOccurrenceOf 7 =
      if (s.output.truck1.read p1).mismatchOpens s.control.mode s.output.pReq s.now = true ∨
        (s.output.truck2.read p2).mismatchOpens s.control.mode s.output.pReq s.now = true
      then some s.now else s.recorder.lastOccurrenceOf 7 := by
  have hread : (readPressures p1 p2 s).recorder.lastOccurrence.length = 12 := by simpa using hl
  rw [pressureSampleEffect_due due,
    watchTruck_lastOccurrenceOf 2 ((watchTruck_lastOccurrence_length 1 _).trans hread),
    watchTruck_lastOccurrenceOf 1 hread, readPressures_mismatchOpens, (watchTruck_readPressures p1 p2 s).1, watchTruck_now]
  rw [← ite_or]; exact if_congr or_comm rfl rfl

/-- Besides both trucks, the timer and the inputs a sample changes only what a raising may (R93 to R95). -/
theorem raisedFrom_pressureSampleEffect {s : State} (due : timerDue s.output.pressureTimer 20 s.now = true) (p1 p2 : BitVec 10) :
    RaisedFrom ((s.setPins { s.pins with pressure1 := p1, pressure2 := p2 }).setOutput (s.pressureSampled p1 p2))
      (pressureSampleEffect p1 p2 s) := by
  rw [pressureSampleEffect_due due, ← (watchTruck_readPressures p1 p2 s).2]
  exact .trans ((raisedFrom_watchTruck 1 (readPressures p1 p2 s)).setOutput _) (raisedFrom_watchTruck 2 _)

theorem exec_pressureSample {dt : Passage} {p1 p2 : BitVec 10} {s : State} (ha : Accepts s) :
    exec (.pressureSample dt p1 p2) s = .next (pressureSampleEffect p1 p2 (s.advance dt)) := exec_accepted ha

/-- Settles O45: the timer's two cases, and of a sample each truck, the occurrence and the frame. -/
theorem pressureSampleWatchesBothTrucks : Obligations.PressureSampleWatchesBothTrucks := by
  unfold Obligations.PressureSampleWatchesBothTrucks
  intro dt p1 p2 s ha hl
  refine ⟨fun early => ?early, fun due => ?sample⟩
  case early => rw [exec_pressureSample ha, pressureSampleEffect]; exact congrArg _ (if_neg (by simpa using early))
  case sample =>
    have due' : timerDue (s.advance dt).output.pressureTimer 20 (s.advance dt).now = true := due
    have houtput := pressureSampleEffect_output due' p1 p2
    have hraised := raisedFrom_pressureSampleEffect due' p1 p2
    have hnow := pressureSampleEffect_now p1 p2 (s.advance dt)
    refine ⟨_, (s.output.truck1.read p1).mismatchOpens s.control.mode s.output.pReq (s.advance dt).now,
      (s.output.truck2.read p2).mismatchOpens s.control.mode s.output.pReq (s.advance dt).now, exec_pressureSample ha,
      ?trucks, ?occurrence, ?frame⟩
    case occurrence => rw [hnow]; exact pressureSampleEffect_lastOccurrenceOf due' hl p1 p2
    case frame => rw [houtput]; exact hraised
    case trucks =>
      rw [houtput, hnow]
      rintro p old new raised (⟨rfl, rfl, hnew, hopens⟩ | ⟨rfl, rfl, hnew, hopens⟩)
      · exact watch_read_spec _ _ _ _ hnew hopens
      · exact watch_read_spec _ _ _ _ hnew hopens

end Sys2Proof.Machine
end

section
/-!
PROOFS. The items that are stored, returned and sent (R84, R133, R134, R154, R173, R196, R197, O14): flags in bytes, the codes, and
then each item at its offsets. Long items are first written as one list of bytes: to evaluate an offset through the nested appends of
their definitions costs far more.
-/

namespace Sys2Proof.Machine

open Sys2Proof

/-! ### Flags in bytes -/

/-- A sum of flags weighted by the powers of two is the byte of these bits. -/
theorem byteOf_flags (a b c d e f : Bool) :
    byteOf (a.toNat + 2 * b.toNat + 4 * c.toNat + 8 * d.toNat + 16 * e.toNat + 32 * f.toNat) =
      byteOfBits [a, b, c, d, e, f, false, false] := by
  revert a b c d e f; decide +kernel

/-- The flags byte of an incident has its six flags from bit 0 up (R196). -/
theorem incidentFlags_bits (f : IncidentFlags) : f.byte.getLsbD 0 = f.truncated ∧ f.byte.getLsbD 1 = f.eventsTruncated ∧
    f.byte.getLsbD 2 = f.noticeNotSent ∧ f.byte.getLsbD 3 = f.power ∧ f.byte.getLsbD 4 = f.lockRefused ∧
    f.byte.getLsbD 5 = f.storeError ∧ f.byte.toNat < 64 := by
  have bits := byteOfBits_bit f.truncated f.eventsTruncated f.noticeNotSent f.power f.lockRefused f.storeError false false
  rw [← byteOf_flags] at bits
  refine ⟨bits 0, bits 1, bits 2, bits 3, bits 4, bits 5, ?_⟩
  have := f.truncated.toNat_le; have := f.eventsTruncated.toNat_le; have := f.noticeNotSent.toNat_le
  have := f.power.toNat_le; have := f.lockRefused.toNat_le; have := f.storeError.toNat_le
  simp only [IncidentFlags.byte, byteOf, BitVec.toNat_ofNat]
  omega

/-- The presence byte of a roster entry has its four flags from bit 0 up (R196). -/
theorem presenceByte_bits {a b c d : Bool} {x : Byte} (h : x = byteOf (a.toNat + 2 * b.toNat + 4 * c.toNat + 8 * d.toNat)) :
    x.getLsbD 0 = a ∧ x.getLsbD 1 = b ∧ x.getLsbD 2 = c ∧ x.getLsbD 3 = d ∧ x.toNat < 16 := by
  have bits := byteOfBits_bit a b c d false false false false
  rw [← byteOf_flags] at bits
  subst h
  refine ⟨bits 0, bits 1, bits 2, bits 3, ?_⟩
  have := a.toNat_le; have := b.toNat_le; have := c.toNat_le; have := d.toNat_le
  simp only [byteOf, BitVec.toNat_ofNat]
  omega

/-! ### Codes -/

theorem sourceCode_toNat (c : Source) : c.code.toNat = c.codeNat := by cases c <;> rfl

theorem classCode_eq (g : Machine.Class) : g.code = if g = .severe then 1 else 0 := by cases g <;> rfl

/-! ### Headers -/

/-- The fields in front of the originator (R196). -/
theorem headerBytes_front (h : Header) : wordAt h.bytes 0 = BitVec.ofNat 16 h.number ∧ byteAt h.bytes 2 = h.cause.code ∧
    byteAt h.bytes 3 = h.cls.code ∧ wordAt h.bytes 4 ++ wordAt h.bytes 6 = h.triggerTime ∧
    wordAt h.bytes 8 ++ wordAt h.bytes 10 = h.openingTime ∧ byteAt h.bytes 12 = byteOf h.station ∧
    wordAt h.bytes 13 = h.configCheck := by
  simp only [Header.bytes, natBytes2, wordBytes, timeBytes, List.cons_append, List.nil_append]
  exact ⟨wordAt_eq_of_slice rfl, rfl, rfl, timeAt_eq_of_slice rfl, timeAt_eq_of_slice rfl, rfl, wordAt_eq_of_slice rfl⟩

/-- The originator stands in three bytes, and five bytes behind it (R196). -/
theorem headerBytes_parts (h : Header) : h.bytes.length = 23 ∧
    (h.bytes.drop 15).take 3 = originatorBytes h.originator ∧
    (h.bytes.drop 18).take 5 =
      [byteOf h.secondary, h.flags.byte, byteOf h.preCount, byteOf h.postCount, byteOf h.eventCount] := by
  simp only [Header.bytes, natBytes2, wordBytes, timeBytes, List.cons_append, List.nil_append]
  cases h.originator <;> exact ⟨rfl, rfl, rfl⟩

theorem headerBytes_flags (h : Header) : byteAt h.bytes 19 = h.flags.byte :=
  byteAt_of_slice (headerBytes_parts h).2.2 (k := 1) (by decide)

/-! ### Roster entries -/

/-- The fields in front of the held payload (R196). -/
theorem rosterEntryBytes_front (n : Nat) (e : Entry) : byteAt (rosterEntryBytes n e) 0 = byteOf n ∧
    byteAt (rosterEntryBytes n e) 1 = e.state.code ∧
    byteAt (rosterEntryBytes n e) 2 = byteOf (e.lastSeq.isSome.toNat + 2 * e.held.isSome.toNat +
      4 * e.latestDemand.isSome.toNat + 8 * e.lastNotice.isSome.toNat) ∧
    byteAt (rosterEntryBytes n e) 3 = e.lastSeq.getD 0 ∧
    wordAt (rosterEntryBytes n e) 4 ++ wordAt (rosterEntryBytes n e) 6 = e.lastHeard.getD 0 ∧
    byteAt (rosterEntryBytes n e) 8 = byteOf e.joinCount := by
  simp only [rosterEntryBytes, timeBytes, List.cons_append, List.nil_append]
  exact ⟨rfl, rfl, rfl, rfl, timeAt_eq_of_slice rfl, rfl⟩

/-- The held REPORT payload of a roster entry, zeros when absent (R196). -/
def heldBytes : Option ReportPayload → List Byte
  | none => List.replicate 20 0
  | some p => p.bytes

theorem rosterEntryBytes_eq (n : Nat) (e : Entry) : rosterEntryBytes n e = (rosterEntryBytes n e).take 9 ++
    (heldBytes e.held ++ (latestDemandBytes e.latestDemand ++ wordBytes (e.lastNotice.getD 0))) := by
  simp only [rosterEntryBytes, timeBytes, List.cons_append, List.nil_append, List.append_assoc]
  cases e.held <;> rfl

@[simp] theorem heldBytes_length (held : Option ReportPayload) : (heldBytes held).length = 20 := by cases held <;> rfl

@[simp] theorem latestDemandBytes_length (x : Option LatestDemand) : (latestDemandBytes x).length = 7 := by cases x <;> rfl

/-- The held payload stands in 20 bytes, the latest demand in 7, and the last notice in the 2 behind them (R196). -/
theorem rosterEntryBytes_parts (n : Nat) (e : Entry) : (rosterEntryBytes n e).length = 38 ∧
    ((rosterEntryBytes n e).drop 9).take 20 = heldBytes e.held ∧
    ((rosterEntryBytes n e).drop 29).take 7 = latestDemandBytes e.latestDemand ∧
    ((rosterEntryBytes n e).drop 36).take 2 = wordBytes (e.lastNotice.getD 0) := by
  have hfront : ((rosterEntryBytes n e).take 9).length = 9 := by
    simp only [rosterEntryBytes, timeBytes, List.cons_append, List.nil_append]; rfl
  rw [rosterEntryBytes_eq]
  generalize (rosterEntryBytes n e).take 9 = front at hfront ⊢
  simp [List.drop_append, List.drop_of_length_le, hfront, wordBytes]

/-- The payload bytes read back as the payload (R193). -/
theorem reportPayload_ofBytes_bytes (p : ReportPayload) : ReportPayload.ofBytes p.bytes = p := by
  have vRef : wordAt p.bytes 2 = p.vRef := wordAt_eq_of_slice rfl
  have r : wordAt p.bytes 4 = p.r := wordAt_eq_of_slice rfl
  have a : wordAt p.bytes 6 = p.a := wordAt_eq_of_slice rfl
  have e : wordAt p.bytes 8 = p.e := wordAt_eq_of_slice rfl
  have dEcho : wordAt p.bytes 10 = p.dEcho := wordAt_eq_of_slice rfl
  have lastIncident : wordAt p.bytes 15 = p.lastIncident := wordAt_eq_of_slice rfl
  rw [ReportPayload.ofBytes, vRef, r, a, e, dEcho, lastIncident]
  rfl

/-! ### Directory entries -/

theorem directoryEntryBytes_writing {n : Nat} {x : Slot} (h : x.state = .writing) : directoryEntryBytes n x =
    [byteOf n, x.state.code, 1] ++ natBytes2 x.writing ++ List.replicate 11 0 := by
  rw [directoryEntryBytes, h]

theorem directoryEntryBytes_empty {n : Nat} {x : Slot} (h : x.state = .free ∨ x.state = .damaged ∨ x.state = .erasing) :
    directoryEntryBytes n x = [byteOf n, x.state.code, 0] ++ List.replicate 13 0 := by
  rcases h with h | h | h <;> rw [directoryEntryBytes, h]

theorem directoryEntryBytes_stored {n : Nat} {x : Slot} {h : Header} (hh : x.header = some h)
    (hs : x.state = .stored ∨ x.state = .locked) : directoryEntryBytes n x = directoryEntryBytes.stored n x h := by
  rcases hs with hs | hs <;> rw [directoryEntryBytes, hs, hh]

/-- Whatever the slot's state gives, 16 bytes that begin with the slot's number and state (R196). -/
theorem directoryEntryBytes_head (n : Nat) (x : Slot) : (directoryEntryBytes n x).length = 16 ∧
    byteAt (directoryEntryBytes n x) 0 = byteOf n ∧ byteAt (directoryEntryBytes n x) 1 = x.state.code := by
  unfold directoryEntryBytes; split <;> exact ⟨rfl, rfl, rfl⟩

/-! ### The statement -/

/-- Settles O14: item by item, then the codes. -/
theorem itemsStandAtTheirOffsets : Obligations.ItemsStandAtTheirOffsets := by
  unfold Obligations.ItemsStandAtTheirOffsets
  refine ⟨?header, ?snapshot, ?event, ?entry, ?directory, ?request, rfl, rfl, rfl, rfl, rfl, rfl, rfl, fun _ _ _ => rfl,
    rfl, rfl, rfl, rfl, rfl⟩
  case header =>
    rintro h _ rfl
    obtain ⟨hnumber, hcause, hcls, htrigger, hopening, hstation, hcheck⟩ := headerBytes_front h
    obtain ⟨hlen, horiginator, htail⟩ := headerBytes_parts h
    obtain ⟨f0, f1, f2, f3, f4, f5, hlt⟩ := incidentFlags_bits h.flags
    rw [natAt, hcause, headerBytes_flags]
    refine ⟨hlen, hnumber, sourceCode_toNat h.cause, hcls.trans (classCode_eq h.cls), htrigger, hopening, hstation, hcheck,
      fun hnone => ?absent, fun o ho => ?present, byteAt_of_slice htail (k := 0) (by decide), f0, f1, f2, f3, f4, f5, hlt,
      byteAt_of_slice htail (k := 2) (by decide), byteAt_of_slice htail (k := 3) (by decide),
      byteAt_of_slice htail (k := 4) (by decide)⟩
    case absent =>
      rw [hnone] at horiginator
      exact ⟨byteAt_of_slice horiginator (k := 0) (by decide), wordAt_of_slice horiginator (k := 1) (by decide)⟩
    case present =>
      rw [ho] at horiginator
      exact ⟨byteAt_of_slice horiginator (k := 0) (by decide),
        (wordAt_of_slice horiginator (k := 1) (by decide)).trans (wordAt_eq_of_slice rfl)⟩
  case snapshot =>
    rintro x _ rfl
    simp only [Snapshot.bytes, natBytes2, wordBytes, timeBytes, List.cons_append, List.nil_append]
    exact ⟨rfl, timeAt_eq_of_slice rfl, rfl, wordAt_eq_of_slice rfl, rfl, rfl, wordAt_eq_of_slice rfl, wordAt_eq_of_slice rfl,
      wordAt_eq_of_slice rfl, rfl, wordAt_eq_of_slice rfl, wordAt_eq_of_slice rfl, wordAt_eq_of_slice rfl,
      wordAt_eq_of_slice rfl, wordAt_eq_of_slice rfl, wordAt_eq_of_slice rfl, rfl, rfl, rfl, rfl, rfl, rfl⟩
  case event =>
    rintro ⟨time, kind⟩ _ rfl
    cases kind with
    | demand d flag n => exact ⟨rfl, timeAt_eq_of_slice rfl, rfl, wordAt_eq_of_slice rfl, rfl, rfl⟩
    | secondaryTrigger c g =>
      exact ⟨rfl, timeAt_eq_of_slice rfl, congrArg (fun cls => [6, c.code, cls, 0, 0]) (classCode_eq g)⟩
    | noticeHeard n k => exact ⟨rfl, timeAt_eq_of_slice rfl, rfl, rfl, wordAt_eq_of_slice rfl, rfl⟩
    | _ => exact ⟨rfl, timeAt_eq_of_slice rfl, rfl⟩
  case entry =>
    rintro n e _ rfl
    obtain ⟨hn, hstate, hpresence, hseq, hheard, hjoin⟩ := rosterEntryBytes_front n e
    obtain ⟨hlen, hheld, hdemand, hnotice⟩ := rosterEntryBytes_parts n e
    obtain ⟨b0, b1, b2, b3, hlt⟩ := presenceByte_bits hpresence
    rw [hheld, hdemand]
    refine ⟨hlen, hn, hstate, b0, b1, b2, b3, hlt, hseq, hheard, hjoin, fun hnone => by rw [hnone]; rfl,
      fun p hp => ?held, fun hnone => by rw [hnone]; rfl, fun x hx => ?latest, wordAt_eq_of_slice hnotice⟩
    case held => rw [hp]; exact reportPayload_ofBytes_bytes p
    case latest =>
      rw [hx] at hdemand
      have harrival : ((rosterEntryBytes n e).drop 32).take 4 = timeBytes x.arrival := by
        simpa [List.drop_take, List.drop_drop, latestDemandBytes, timeBytes, wordBytes] using congrArg (List.drop 3) hdemand
      exact ⟨(wordAt_of_slice hdemand (k := 0) (by decide)).trans (wordAt_eq_of_slice rfl),
        byteAt_of_slice hdemand (k := 2) (by decide), timeAt_eq_of_slice harrival⟩
  case directory =>
    rintro n x _ rfl
    obtain ⟨hlen, hn, hstate⟩ := directoryEntryBytes_head n x
    refine ⟨hlen, hn, hstate, fun hw => ?writing, fun hempty => ?empty, fun h hh hs => ?stored⟩
    case writing => rw [directoryEntryBytes_writing hw]; exact ⟨rfl, wordAt_eq_of_slice rfl, rfl⟩
    case empty => rw [directoryEntryBytes_empty hempty]; rfl
    case stored =>
      rw [directoryEntryBytes_stored hh hs, headerBytes_flags]
      simp only [directoryEntryBytes.stored, natBytes2, wordBytes, timeBytes, List.cons_append, List.nil_append]
      exact ⟨rfl, wordAt_eq_of_slice rfl, sourceCode_toNat h.cause, classCode_eq h.cls, timeAt_eq_of_slice rfl, rfl, rfl,
        rfl, rfl, rfl⟩
  case request =>
    rintro m _ rfl
    exact ⟨rfl, rfl, wordAt_eq_of_slice rfl, rfl, wordAt_eq_of_slice rfl⟩

end Sys2Proof.Machine
end

section
/-!
PROOFS. Every step keeps the line within its limits (O9): first what the transmit queue takes in, then the frame on air and the
receive framer, then the changes of mode, then all commands.
-/

namespace Sys2Proof.Machine

open Sys2Proof

/-- The relations are about the queue, the frame on air, the report timer and the mode; the framer enters in INIT alone. -/
theorem LineSafe.of_transmitter {s t : State} (h : LineSafe s)
    (kept : t.line.queue = s.line.queue ∧ t.line.onAir = s.line.onAir ∧ t.line.attempts = s.line.attempts ∧
      t.line.reportTimer = s.line.reportTimer)
    (framer : s.control.mode = .init → t.line.framer = .ignoring) (mode : t.control.mode = s.control.mode) :
    LineSafe t := by
  obtain ⟨hqueue, hair, hattempts, htimer⟩ := kept
  obtain ⟨notices, attempts, idle, outsideRun, silent, safeAir, timer, -⟩ := h
  constructor
  case init => exact fun hm => framer (mode ▸ hm)
  all_goals simpa only [hqueue, hair, hattempts, htimer, mode]

theorem LineSafe.congr {s t : State} (h : LineSafe s) (line : t.line = s.line) (mode : t.control.mode = s.control.mode) :
    LineSafe t :=
  h.of_transmitter (by simp [line]) (fun hm => line ▸ h.init hm) mode

/-- A device that works is not in INIT. -/
theorem Mode.ne_init_of_working {m : Mode} (h : m.working = true) : m ≠ .init := by rintro rfl; cases h

/-! ### The queue -/

/-- The queue may change within its limits and what the mode lets it hold (R104, R113). -/
theorem LineSafe.withQueue {s : State} (h : LineSafe s) {q : TxQueue} (notices : q.notices.length ≤ 2)
    (outsideRun : s.control.mode ≠ .run → q.notices = [] ∧ q.demand = none)
    (silent : s.control.mode.working = false → q.report = false) : LineSafe (s.setLine (s.line.withQueue q)) :=
  ⟨notices, h.attempts, h.idle, outsideRun, fun hw => ⟨silent hw, (h.silent hw).2⟩, h.safeAir, h.timer, h.init⟩

theorem LineSafe.enqueueDemand {s : State} (h : LineSafe s) (c : DemandContent) : LineSafe (enqueueDemand c s) := by
  unfold Machine.enqueueDemand
  split
  · rename_i hrun
    exact h.withQueue h.notices (absurd hrun) fun hw => (h.silent hw).1
  · exact h

theorem LineSafe.enqueueReport {s : State} (h : LineSafe s) : LineSafe (enqueueReport s) := by
  unfold Machine.enqueueReport
  split
  · rename_i hworks
    exact h.withQueue h.notices h.outsideRun fun hw => by rcases hworks with hm | hm <;> rw [hm] at hw <;> cases hw
  · exact h

/-- A NOTICE is accepted in RUN behind at most one other (R104, R113). -/
theorem LineSafe.enqueueNotice {s : State} (h : LineSafe s) (c : NoticeContent) : LineSafe (enqueueNotice c s) := by
  unfold Machine.enqueueNotice
  split
  · rename_i hroom
    obtain ⟨hrun, hlen⟩ := hroom
    exact h.withQueue (by simpa using hlen) (absurd hrun) fun hw => (h.silent hw).1
  · exact h.congr (by simp) (by simp)

theorem LineSafe.offerNotice {s : State} (h : LineSafe s) : LineSafe (offerNotice s) := by
  unfold Machine.offerNotice
  repeat' split
  · exact h
  · apply LineSafe.enqueueNotice; exact h.congr rfl rfl
  · exact h

theorem LineSafe.beginCommit {s : State} (h : LineSafe s) : LineSafe (beginCommit s) := h.congr (by simp) (by simp)

theorem LineSafe.openIncident {s : State} (h : LineSafe s) (p : Pending) : LineSafe (openIncident p s) := by
  unfold Machine.openIncident
  apply LineSafe.beginCommit
  apply LineSafe.offerNotice
  exact h.congr rfl rfl

theorem LineSafe.mergeIntoImage {s : State} (h : LineSafe s) (p : Pending) : LineSafe (mergeIntoImage p s) := by
  unfold Machine.mergeIntoImage
  exact LineSafe.offerNotice (h.congr (by simp) (by simp))

theorem LineSafe.fire {s : State} (h : LineSafe s) (f : Pending) : LineSafe (fire f s) := by
  unfold Machine.fire
  repeat' split
  · exact h.openIncident f
  · exact (h.mergeIntoImage f).congr (by simp) (by simp)
  · exact h.mergeIntoImage f
  · exact h.congr (by simp) (by simp)

/-- A raising queues at most the NOTICE that its firing offers (R137, R140). -/
theorem LineSafe.raiseWith {s : State} (h : LineSafe s) (c : Source) (g : Machine.Class) (o : Option Originator) :
    LineSafe (raiseWith c g o s) := by
  have hs : LineSafe (s.setRecorder { s.recorder with
    lastOccurrence := s.recorder.lastOccurrence.set (c.codeNat - 1) (some s.now) }) := h.congr rfl rfl
  unfold Machine.raiseWith
  simp only []
  split
  · exact hs.fire _
  · exact hs

theorem LineSafe.raise {s : State} (h : LineSafe s) (c : Source) : LineSafe (raise c s) := h.raiseWith c _ _

theorem LineSafe.logEvent {s : State} (h : LineSafe s) (k : EventKind) : LineSafe (logEvent k s) :=
  h.congr (by simp) (by simp)

/-! ### The commands that raise sources or enqueue frames -/

theorem LineSafe.originateDemand {s : State} (h : LineSafe s) : LineSafe (originateDemand s) := by
  unfold Machine.originateDemand
  exact (h.enqueueDemand s.demand.content).congr rfl rfl

theorem LineSafe.conflictEpisode {s : State} (h : LineSafe s) (src : List DemandSource) :
    LineSafe (conflictEpisode src s) := by
  unfold Machine.conflictEpisode
  repeat' split
  · exact h
  · apply LineSafe.raise; exact h.congr rfl rfl
  · exact h.congr rfl rfl

theorem LineSafe.lossEpisode {s : State} (h : LineSafe s) : LineSafe (lossEpisode s) := by
  unfold Machine.lossEpisode
  repeat' split
  · exact h.congr rfl rfl
  · apply LineSafe.raise; exact h.congr rfl rfl
  · exact h
  · exact h

theorem LineSafe.emergencyStep {s : State} (h : LineSafe s) (src : List DemandSource) : LineSafe (emergencyStep src s) := by
  unfold Machine.emergencyStep enterEmergency
  simp only []
  repeat' split
  · apply LineSafe.raise; exact h.congr (by simp) (by simp)
  · exact h.congr rfl rfl
  · exact h.congr (by simp) (by simp)
  · exact h.congr rfl rfl

theorem LineSafe.logDemand {s : State} (h : LineSafe s) (src : List DemandSource) : LineSafe (logDemand src s) :=
  h.congr (by simp) (by simp)

theorem LineSafe.demandFromSources {s : State} (h : LineSafe s) (src : List DemandSource) :
    LineSafe (demandFromSources src s) := by
  have hformed : LineSafe (formDemand src s) := h.congr (by simp) (by simp)
  exact (((hformed.conflictEpisode src).lossEpisode).emergencyStep src).logDemand src

theorem LineSafe.demandSample {s : State} (h : LineSafe s) (raw : BitVec 10) (cab he tl : Bool) :
    LineSafe (demandSampleEffect raw cab he tl s) := by
  have hread : LineSafe (settleControlling (demandRead raw cab he tl s)) := h.congr (by simp) (by simp)
  have himmediate : LineSafe (immediateDemand (settleControlling (demandRead raw cab he tl s))) := by
    unfold immediateDemand
    split
    · exact hread.originateDemand
    · exact hread
  unfold demandSampleEffect
  split
  · exact himmediate.demandFromSources _
  · exact h

theorem LineSafe.demandFrame {s : State} (h : LineSafe s) : LineSafe (demandFrameEffect s) := by
  unfold demandFrameEffect
  split
  · exact LineSafe.originateDemand (h.congr rfl rfl)
  · exact h

theorem LineSafe.evaluateTruck {s : State} (h : LineSafe s) (n : Nat) : LineSafe (evaluateTruck n s) := by
  have hmoved : LineSafe (s.movedTruck n) := by
    unfold State.movedTruck
    split
    · apply LineSafe.logEvent; exact h.congr rfl rfl
    · exact h.congr rfl rfl
  rw [evaluateTruck_eq]
  split
  · exact LineSafe.congr ((hmoved.logEvent (.slide n .lockout)).raise .slideLockout) rfl rfl
  · exact hmoved

theorem LineSafe.takeSlideCommands {s : State} (h : LineSafe s) : LineSafe (takeSlideCommands s) :=
  h.congr (by simp) (by simp)

theorem LineSafe.speedSweep {s : State} (h : LineSafe s) : LineSafe (speedSweepEffect s) := by
  unfold speedSweepEffect slideEvaluation
  simp only []
  repeat' split
  · apply LineSafe.takeSlideCommands
    apply LineSafe.evaluateTruck
    apply LineSafe.evaluateTruck
    exact h.congr rfl rfl
  · exact h.congr rfl rfl
  · exact h

theorem LineSafe.blendComputation {s : State} (h : LineSafe s) : LineSafe (blendEffect s) := by
  unfold blendEffect
  split
  · rw [shortfallWatch_eq]
    split
    · apply LineSafe.raise; exact h.congr (by simp) (by simp)
    · exact h.congr (by simp) (by simp)
  · exact h

theorem LineSafe.watchTruck {s : State} (h : LineSafe s) (n : Nat) : LineSafe (watchTruck n s) := by
  unfold Machine.watchTruck
  simp only []
  split
  · apply LineSafe.raise; exact h.congr rfl rfl
  · exact h.congr rfl rfl

theorem LineSafe.pressureSample {s : State} (h : LineSafe s) (p1 p2 : BitVec 10) :
    LineSafe (pressureSampleEffect p1 p2 s) := by
  unfold pressureSampleEffect
  split
  · exact ((LineSafe.congr h (by simp) (by simp) : LineSafe (readPressures p1 p2 s)).watchTruck 1).watchTruck 2
  · exact h

theorem LineSafe.changeEntry {s : State} (h : LineSafe s) (n : Nat) (old new : Entry) :
    LineSafe (changeEntry n old new s) := by
  unfold Machine.changeEntry
  simp only []
  repeat' split
  · exact h.congr rfl rfl
  · apply LineSafe.raise; exact h.congr (by simp) (by simp)
  · exact h.congr (by simp) (by simp)

theorem LineSafe.silence {s : State} (h : LineSafe s) (n : Nat) : LineSafe (silenceExpiryEffect n s) := by
  unfold silenceExpiryEffect
  repeat' split
  · exact h
  · exact h
  · exact h
  · rename_i e _ _ new _
    exact (h.changeEntry n e new).congr (by simp) (by simp)

theorem LineSafe.unheard {s : State} (h : LineSafe s) : LineSafe (unheardExpiryEffect s) := by
  unfold unheardExpiryEffect
  simp only []
  repeat' split
  · exact h.congr rfl rfl
  · apply LineSafe.raise; exact h.congr rfl rfl
  · exact h

theorem LineSafe.writeComplete {s : State} (h : LineSafe s) (rb : ReadBack) : LineSafe (writeCompleteEffect rb s) := by
  unfold writeCompleteEffect openPending
  split
  · simp only []
    split
    · exact h.congr rfl rfl
    · apply LineSafe.openIncident; exact h.congr rfl rfl
  · exact h

theorem LineSafe.mark {s : State} (h : LineSafe s) (params : List Byte) : LineSafe (markEffect params s) := by
  have hanswer : ∀ u : State, LineSafe u → LineSafe (answerMark (byteAt params 0) u) := by
    intro u hu
    unfold answerMark
    repeat' split
    · exact hu.congr (by simp) (by simp)
    · rename_i cls _ _
      exact LineSafe.congr (hu.raiseWith .manual cls none) rfl rfl
    · exact hu.congr (by simp) (by simp)
  unfold markEffect takeCommand withLength
  repeat' split
  · exact hanswer _ (h.congr rfl rfl)
  · exact h.congr (by simp) (by simp)
  · exact h

/-! ### The frame on air -/

theorem LineSafe.reportTimer {s : State} (h : LineSafe s) : LineSafe (reportTimerEffect s) := by
  have hs : LineSafe (s.setLine { s.line with reportTimer := timerNext s.line.reportTimer 100 }) :=
    ⟨h.notices, h.attempts, h.idle, h.outsideRun, h.silent, h.safeAir, (Option.isSome_map ..).trans h.timer, h.init⟩
  unfold reportTimerEffect
  split
  · exact hs.enqueueReport
  · exact h

/-- The transmitter sends in a working device alone, and in SAFE a REPORT alone (R113). -/
theorem transmits_iff {m : Mode} {k : FrameKind} : transmits m k = true ↔
    m.working = true ∧ (m = .safe → k = .report) := by
  cases m <;> simp [transmits, Mode.working]

/-- A frame goes on air that the mode lets the transmitter send (R107, R113). -/
theorem LineSafe.onAir {s t : State} (h : LineSafe s) {f : OnAir} (sends : transmits s.control.mode f.content.kind = true)
    (air : t.line.onAir = some f) (attempts : t.line.attempts ≤ 7) (timer : t.line.reportTimer = s.line.reportTimer)
    (notices : t.line.queue.notices.length ≤ 2)
    (outsideRun : s.control.mode ≠ .run → t.line.queue.notices = [] ∧ t.line.queue.demand = none)
    (mode : t.control.mode = s.control.mode) : LineSafe t := by
  obtain ⟨hworks, hreport⟩ := transmits_iff.1 sends
  have hworks' : t.control.mode.working = true := mode ▸ hworks
  constructor
  case notices => exact notices
  case attempts => exact attempts
  case idle => exact fun hn => by rw [air] at hn; cases hn
  case outsideRun => exact mode ▸ outsideRun
  case silent => exact fun hw => by rw [hworks'] at hw; cases hw
  case safeAir =>
    intro hsafe g hg
    rw [air] at hg; cases hg
    exact hreport (mode ▸ hsafe)
  case timer => rw [timer, mode]; exact h.timer
  case init => exact fun hm => absurd hm (Mode.ne_init_of_working hworks')

/-- A frame that is on air is one that the transmitter sends. -/
theorem LineSafe.transmits {s : State} (h : LineSafe s) {f : OnAir} (air : s.line.onAir = some f) :
    transmits s.control.mode f.content.kind = true := by
  refine transmits_iff.2 ⟨?_, fun hm => h.safeAir hm f air⟩
  rw [← Bool.not_eq_false]
  exact fun hw => by rw [(h.silent hw).2] at air; cases air

/-- The frame on air may pass to another phase. -/
theorem LineSafe.phase {s t : State} (h : LineSafe s) {f g : OnAir} (air : s.line.onAir = some f)
    (air' : t.line.onAir = some g) (content : g.content = f.content) (attempts : t.line.attempts ≤ 7)
    (queue : t.line.queue = s.line.queue) (timer : t.line.reportTimer = s.line.reportTimer)
    (mode : t.control.mode = s.control.mode) : LineSafe t :=
  h.onAir (content ▸ h.transmits air) air' attempts timer (queue ▸ h.notices) (queue ▸ h.outsideRun) mode

theorem driveStart_frame (l : LineController) : l.driveStart.queue = l.queue ∧ l.driveStart.onAir = l.onAir ∧
    l.driveStart.attempts = l.attempts ∧ l.driveStart.reportTimer = l.reportTimer := by
  simp [driveStart_eq]

theorem putOnAir_frame (content : FrameContent) (seq : Byte) (micros : Time) (l : LineController) :
    (l.putOnAir content seq micros).queue = l.queue ∧
    (l.putOnAir content seq micros).onAir = some ⟨content, seq, .sending micros⟩ ∧
    (l.putOnAir content seq micros).attempts = 0 ∧ (l.putOnAir content seq micros).reportTimer = l.reportTimer := by
  simp [LineController.putOnAir, driveStart_frame]

/-- A frame leaves the queue and goes on air. -/
theorem LineSafe.putOnAir {s t : State} (h : LineSafe s) {content : FrameContent} {seq : Byte} {l : LineController}
    (sends : Machine.transmits s.control.mode content.kind = true) (line : t.line = l.putOnAir content seq s.micros)
    (timer : l.reportTimer = s.line.reportTimer) (notices : l.queue.notices.length ≤ 2)
    (outsideRun : s.control.mode ≠ .run → l.queue.notices = [] ∧ l.queue.demand = none)
    (mode : t.control.mode = s.control.mode) : LineSafe t := by
  obtain ⟨hqueue, hair, hattempts, htimer⟩ := putOnAir_frame content seq s.micros l
  rw [← line] at hqueue hair hattempts htimer
  exact h.onAir sends hair (hattempts ▸ Nat.zero_le _) (htimer.trans timer) (hqueue ▸ notices) (hqueue ▸ outsideRun) mode

theorem LineSafe.noticeOnAir {s : State} (h : LineSafe s) (sends : Machine.transmits s.control.mode .notice = true) :
    LineSafe (noticeOnAir s) := by
  have hnotices := h.notices
  have hout := h.outsideRun
  unfold Machine.noticeOnAir
  split
  · exact h
  · rename_i c rest hq
    rw [hq] at hnotices hout
    exact h.putOnAir (content := .notice c) sends rfl rfl ((Nat.le_succ _).trans hnotices) (fun hm => nomatch (hout hm).1) rfl

theorem LineSafe.demandOnAir {s : State} (h : LineSafe s) (sends : Machine.transmits s.control.mode .demand = true) :
    LineSafe (demandOnAir s) := by
  unfold Machine.demandOnAir
  split
  · exact h
  · rename_i c _
    exact h.putOnAir (content := .demand c) sends rfl rfl h.notices (fun hm => ⟨(h.outsideRun hm).1, rfl⟩) rfl

theorem LineSafe.candidateOnAir {s : State} (h : LineSafe s) {kind : FrameKind}
    (sends : Machine.transmits s.control.mode kind = true) : LineSafe (candidateOnAir kind s) := by
  cases kind with
  | notice => exact h.noticeOnAir sends
  | demand => exact h.demandOnAir sends
  | report => exact h.putOnAir (content := .report s.reportPayload) sends rfl rfl h.notices h.outsideRun rfl

theorem LineSafe.firstGoesOnAir {s : State} (h : LineSafe s) (idle : Nat) : LineSafe (firstGoesOnAirEffect idle s) := by
  unfold firstGoesOnAirEffect
  repeat' split
  · exact h
  · rename_i hgo; exact h.candidateOnAir hgo.1
  · exact h

theorem LineSafe.retryAttempt {s : State} (h : LineSafe s) (idle : Nat) : LineSafe (retryAttemptEffect idle s) := by
  unfold retryAttemptEffect
  split
  · rename_i content seq hair
    split
    · exact h.phase (g := ⟨content, seq, .sending s.micros⟩) hair
        (by simp [driveStart_frame, LineController.withPhase]) rfl
        (by simpa [driveStart_frame, LineController.withPhase] using h.attempts)
        (by simp [driveStart_frame, LineController.withPhase]) (by simp [driveStart_frame, LineController.withPhase]) rfl
    · exact h
  · exact h

theorem LineSafe.collision {s : State} (h : LineSafe s) : LineSafe (collisionEffect s) := by
  unfold collisionEffect
  split
  · rename_i content seq since hair
    exact h.phase (g := ⟨content, seq, .jamming s.micros⟩) hair rfl rfl h.attempts rfl rfl rfl
  · exact h

/-- A frame that ends leaves the attempt count at 0 (R109, R110). -/
theorem LineSafe.endFrame {s t : State} (h : LineSafe s) (line : t.line = s.line.endFrame)
    (mode : t.control.mode = s.control.mode) : LineSafe t := by
  obtain ⟨notices, -, -, outsideRun, silent, -, timer, init⟩ := h
  constructor <;> simp only [line, mode, LineController.endFrame]
  case notices => exact notices
  case attempts => omega
  case idle => exact fun _ => trivial
  case outsideRun => exact outsideRun
  case silent => exact fun hw => ⟨(silent hw).1, trivial⟩
  case safeAir => exact fun _ _ hf => by cases hf
  case timer => exact timer
  case init => exact init

theorem LineSafe.attemptSuccess {s : State} (h : LineSafe s) : LineSafe (attemptSuccessEffect s) := by
  unfold attemptSuccessEffect
  repeat' split
  · exact h.endFrame rfl rfl
  · exact h
  · exact h

theorem giveUp_line (content : FrameContent) (s : State) : (giveUp content s).line = s.line.endFrame := by
  unfold giveUp; cases content <;> simp

/-- The eighth failure gives the frame up, so that no more than seven stand in the count (R110). -/
theorem LineSafe.jamEnd {s : State} (h : LineSafe s) : LineSafe (jamEndEffect s) := by
  unfold jamEndEffect
  split
  case h_2 => exact h
  case h_1 content seq since hair =>
  split
  case isFalse => exact h
  case isTrue =>
  simp only []
  split
  · exact h.endFrame (by rw [giveUp_line]; rfl) (by simp)
  · rename_i hfew
    exact h.phase (g := ⟨content, seq, .waiting⟩) hair rfl rfl
      (by simpa [attemptLimit, LineController.withPhase] using hfew) rfl rfl rfl

/-! ### The receive framer -/

theorem LineSafe.framerIdle {s : State} (h : LineSafe s) : LineSafe (framerIdleEffect s) := by
  unfold framerIdleEffect
  split
  · rename_i hgo
    exact h.of_transmitter ⟨rfl, rfl, rfl, rfl⟩ (fun hm => absurd hm hgo.1) rfl
  · exact h

theorem LineSafe.frameDiscarded {s : State} (h : LineSafe s) (cause : DiscardCause) :
    LineSafe (frameDiscardedEffect cause s) := by
  unfold frameDiscardedEffect
  simp only []
  split
  · rename_i hgo
    obtain ⟨hqueue, hair, hattempts, -, -, -, -, htimer⟩ := (receive_frame false s.line).fields
    exact h.of_transmitter ⟨hqueue, hair, hattempts, htimer⟩ (fun hm => absurd hm hgo.1) rfl
  · exact h

theorem LineSafe.dispatch {s : State} (h : LineSafe s) (f : ReceivedFrame) : LineSafe (dispatchFrame f s) := by
  unfold dispatchFrame
  repeat' split
  · unfold duplicateArrival
    simp only []
    split
    · exact h.congr rfl rfl
    · apply LineSafe.raise; exact h.congr rfl rfl
  · unfold reportArrival
    split
    · exact h
    · rename_i e _
      exact LineSafe.congr (h.changeEntry f.station e (e.report f.seq (.ofBytes f.payload) s.now)) (by simp) (by simp)
  · exact h.congr (by simp) (by simp)
  · unfold noticeArrival
    repeat' split
    · exact h
    · exact h
    · exact LineSafe.raiseWith (h.congr (by simp) (by simp)) _ _ _

theorem LineSafe.frameComplete {s : State} (h : LineSafe s) (chars : List Byte) :
    LineSafe (frameCompleteEffect chars s) := by
  have hline : s.control.mode ≠ .init → ∀ l, SameButFramer s.line l → LineSafe (s.setLine l) := by
    intro hm l hl
    obtain ⟨hqueue, hair, hattempts, -, -, -, -, htimer⟩ := hl.fields
    exact h.of_transmitter ⟨hqueue, hair, hattempts, htimer⟩ (fun hi => absurd hi hm) rfl
  have hheard := heard_frame (chars.map .character) s.line
  unfold frameCompleteEffect frameCompleted
  simp only []
  split
  case isTrue => exact h
  case isFalse hgo =>
  rw [not_or] at hgo
  have hdone := hline hgo.1 { s.line.heard (chars.map .character) with framer := .idle }
    (hheard.trans (m := s.line.heard (chars.map .character)) rfl)
  repeat' split
  · exact hdone
  · exact hdone
  · exact hdone.dispatch _
  · exact hline hgo.1 _ hheard

/-! ### Changes of mode -/

/-- In RUN the line may hold what it held (R113). -/
theorem LineSafe.toRun {s t : State} (h : LineSafe s)
    (kept : t.line.queue = s.line.queue ∧ t.line.onAir = s.line.onAir ∧ t.line.attempts = s.line.attempts)
    (timer : t.line.reportTimer.isSome = true) (mode : t.control.mode = .run) : LineSafe t := by
  obtain ⟨hqueue, hair, hattempts⟩ := kept
  constructor
  case notices => rw [hqueue]; exact h.notices
  case attempts => rw [hattempts]; exact h.attempts
  case idle => rw [hair, hattempts]; exact h.idle
  case timer => rw [timer, mode]; rfl
  all_goals simp [mode, Mode.working]

/-- Entry to SAFE takes every DEMAND and NOTICE from the line; the report timer runs on (R113). -/
theorem LineSafe.toSafe {s t : State} (h : LineSafe s) (works : s.control.mode.working = true)
    (line : t.line = s.line.toSafe) (mode : t.control.mode = .safe) : LineSafe t := by
  rw [LineController.toSafe_eq] at line
  have htimer : s.line.reportTimer.isSome = true := h.timer.trans works
  constructor <;> simp only [line, mode]
  case notices => simp
  case attempts => have := h.attempts; split <;> omega
  case idle =>
    cases hair : s.line.onAir with
    | none => simp [h.idle hair]
    | some f => simp +contextual [Option.filter]
  case outsideRun => simp
  case silent => simp [Mode.working]
  case safeAir => simp
  case timer => rw [htimer]; rfl
  case init => simp

theorem LineSafe.enterSafe {s : State} (h : LineSafe s) (works : s.control.mode.working = true) :
    LineSafe (enterSafe s) := h.toSafe works (by simp) (by simp)

/-- POWER offers its NOTICE in SAFE, where it is refused (R113, R186). -/
theorem LineSafe.powerFail {s : State} (h : LineSafe s) (works : s.control.mode.working = true) :
    LineSafe (powerFail s) := (h.enterSafe works).raise .power

/-- A warning that stands at an entry to RUN leads on to SAFE (R185). -/
theorem LineSafe.warningAtEntry {s : State} (h : LineSafe s) (works : s.control.mode.working = true) :
    LineSafe (warningAtEntry s) := by
  unfold Machine.warningAtEntry
  split
  · exact LineSafe.powerFail (h.congr (by simp) (by simp)) (by simpa using works)
  · exact h

/-- Entry to RUN, from INIT or CONFIG with all timers started, or back from SAFE (R185, R187). -/
theorem LineSafe.enterRun {s : State} (h : LineSafe s) {fresh : Bool} (kind : fresh = true ∨ s.control.mode = .safe) :
    LineSafe (enterRun fresh s) := by
  have hrun : LineSafe (if fresh = true then startWork (changeMode .run s) else changeMode .run s) := by
    split
    · exact h.toRun (by simp [startWork_blocks]) (by simp [startWork_blocks]) (by simp)
    · rename_i hf
      have hsafe := kind.resolve_left hf
      exact h.toRun (by simp) (by simpa [hsafe, Mode.working] using h.timer) (by simp)
  have hmode : (if fresh = true then startWork (changeMode .run s) else changeMode .run s).control.mode = .run := by
    split <;> simp
  exact LineSafe.warningAtEntry (hrun.congr (by simp) (by simp)) (by simp [hmode, Mode.working])

/-- Between INIT and CONFIG the line stays silent (R113). -/
theorem LineSafe.toConfig {s t : State} (h : LineSafe s) (hs : s.control.mode.working = false) (line : t.line = s.line)
    (mode : t.control.mode = .config) : LineSafe t := by
  have hrun : s.control.mode ≠ .run := fun hm => by rw [hm] at hs; cases hs
  obtain ⟨hreport, hair⟩ := h.silent hs
  constructor <;> simp only [line, mode]
  case notices => exact h.notices
  case attempts => exact h.attempts
  case idle => exact h.idle
  case outsideRun => exact fun _ => h.outsideRun hrun
  case silent => exact fun _ => ⟨hreport, hair⟩
  case timer => rw [h.timer, hs]; rfl
  all_goals simp

/-! ### The commands that change the mode -/

theorem LineSafe.warningAsserted {s : State} (h : LineSafe s) : LineSafe (warningAssertedEffect s) := by
  have hs : LineSafe (s.setControl { s.control with warning := true, releaseTimer := none }) := h.congr rfl rfl
  unfold warningAssertedEffect
  simp only []
  split
  · rename_i hm; exact hs.powerFail (by rw [hm]; rfl)
  · exact hs

theorem LineSafe.recheck {s : State} (h : LineSafe s) : LineSafe (recheckEffect s) := by
  unfold recheckEffect
  simp only []
  repeat' split
  · exact h.congr rfl rfl
  · rename_i hm
    exact LineSafe.enterSafe (h.congr rfl rfl) (by rw [hm]; rfl)
  · exact h.congr rfl rfl
  · exact h

theorem LineSafe.releaseTimer {s : State} (h : LineSafe s) : LineSafe (releaseTimerEffect s) := by
  have hs : LineSafe (s.setControl { s.control with releaseTimer := none }) := h.congr rfl rfl
  unfold releaseTimerEffect
  simp only []
  split
  · rename_i hm
    repeat' split
    · exact hs
    · exact hs.enterRun (.inr hm.1)
    · exact hs.congr rfl rfl
  · exact h

theorem LineSafe.scanEnd {s : State} (h : LineSafe s) (cut : MarkReading) : LineSafe (scanEndEffect cut s) := by
  have hmode : (s.settled cut).control.mode = s.control.mode := by simp [State.settled, settleRecord_mode]
  have hs : LineSafe (s.settled cut) := h.congr (by simp [State.settled]) hmode
  rw [scanEndEffect_eq]
  split
  · rename_i hinit
    split
    · exact hs.enterRun (.inl rfl)
    · exact hs.toConfig (by rw [hmode, hinit.1]; rfl) (by simp) (by simp)
  · exact h

theorem LineSafe.answerStart {s : State} (h : LineSafe s) : LineSafe (answerStart s) := by
  unfold Machine.answerStart
  split
  · rename_i l _ _
    have hs : LineSafe (activate l s) := h.congr (by simp) (by simp [activate])
    exact LineSafe.congr (hs.enterRun (fresh := true) (.inl rfl)) (by simp) (by simp)
  · exact h.congr (by simp) (by simp)

theorem LineSafe.start {s : State} (h : LineSafe s) (params : List Byte) : LineSafe (startEffect params s) := by
  unfold startEffect takeCommand withLength
  repeat' split
  · exact LineSafe.answerStart (h.congr rfl rfl)
  · exact h.congr (by simp) (by simp)
  · exact h

/-- The assertion of a reset empties the line; the mode and the report timer stand until the release (R114). -/
theorem LineSafe.resetAsserted {s : State} (h : LineSafe s) (input : ResetInput) :
    LineSafe (resetAssertedEffect input s) :=
  ⟨Nat.zero_le _, Nat.zero_le _, fun _ => rfl, fun _ => ⟨rfl, rfl⟩, fun _ => ⟨rfl, rfl⟩, fun _ _ => nofun, h.timer,
    fun _ => rfl⟩

/-- A released device (R114). -/
theorem LineSafe.ofReset {t : State} (line : t.line = LineController.reset) (mode : t.control.mode = .init) : LineSafe t :=
  lineSafe_reset.congr line mode

theorem LineSafe.resetReleased {s : State} (h : LineSafe s) (powerOn : Bool) (levels : ReleaseLevels) :
    LineSafe (resetReleased powerOn levels s) := by
  unfold Machine.resetReleased
  repeat' split
  · exact h
  · exact .ofReset rfl rfl
  · exact .ofReset rfl rfl

/-- The answer UNKNOWN changes the port alone (R171). -/
theorem takeCommand_unknown_line (code : Byte) (params : List Byte) (s : State) :
    (takeCommand code params (refuse .unknown) s).line = s.line := by
  unfold takeCommand; split <;> simp

/-- An unknown code leaves the line, and a code that is known has its command's effect (R171). -/
theorem LineSafe.unknownCommand {s : State} (h : LineSafe s) (code : Byte) (params : List Byte) :
    LineSafe (unknownCommandEffect code params s) := by
  unfold unknownCommandEffect
  split
  case h_3 => exact h.congr (by simp) (loadConfigEffect_mode params s)
  case h_4 => exact h.start params
  case h_12 => exact h.mark params
  case h_13 => exact h.congr (takeCommand_unknown_line code params s) (by rw [(takeCommand_unknown code params s).2])
  all_goals exact h.congr (by simp) (by simp)

/-! ### All commands -/

/-- The commands that may change the line or the mode. -/
def movesLine : Instr → Bool
  | .tachometerEdge _ _ => false
  | .converterFeedback _ _ => false
  | .stalenessExpiry _ => false
  | .requestMessage _ => false
  | .powerFailWarningDeasserted _ => false
  | .duplicateExpiry _ => false
  | .snapshot _ => false
  | .eraseComplete _ _ => false
  | .lockComplete _ _ => false
  | .unlockComplete _ _ => false
  | .selectAsserted _ => false
  | .selectReleased _ => false
  | .getStatus _ _ => false
  | .getRoster _ _ => false
  | .loadConfig _ _ => false
  | .getDirectory _ _ => false
  | .readIncident _ _ => false
  | .readEvents _ _ => false
  | .readHistory _ _ => false
  | .lockSlot _ _ => false
  | .unlockSlot _ _ _ => false
  | .eraseSlot _ _ => false
  | _ => true

/-- Every other command leaves both. -/
theorem effectOf_keeps_line {c : Instr} (hc : movesLine c = false) (s : State) :
    (effectOf c s).line = s.line ∧ (effectOf c s).control.mode = s.control.mode := by
  cases c
  case loadConfig => exact ⟨by simp [effectOf], loadConfigEffect_mode _ s⟩
  all_goals first | (cases hc; done) | simp [effectOf, warningDeassertedEffect]

theorem LineSafe.effectOf {s : State} (h : LineSafe s) (c : Instr) : LineSafe (effectOf c s) := by
  cases hc : movesLine c with
  | false => exact h.congr (effectOf_keeps_line hc s).1 (effectOf_keeps_line hc s).2
  | true =>
    cases c with
    | powerOnResetRelease dt levels =>
      have hs : LineSafe (s.setPins { s.pins with powerOnReset := false }) := h.congr rfl rfl
      exact hs.resetReleased true levels
    | hardResetRelease dt levels =>
      have hs : LineSafe (s.setPins { s.pins with hardReset := false }) := h.congr rfl rfl
      exact hs.resetReleased false levels
    | resetAsserted dt input => exact h.resetAsserted input
    | scanEnd dt cut => exact h.scanEnd cut
    | powerFailWarningAsserted dt => exact h.warningAsserted
    | releaseTimerExpiry dt => exact h.releaseTimer
    | configurationRecheck dt => exact h.recheck
    | demandSample dt raw cab he tl => exact h.demandSample raw cab he tl
    | demandFrameTimerExpiry dt => exact h.demandFrame
    | speedSweep dt => exact h.speedSweep
    | blendComputation dt => exact h.blendComputation
    | pressureSample dt p1 p2 => exact h.pressureSample p1 p2
    | reportTimerExpiry dt => exact h.reportTimer
    | firstGoesOnAir dt idle => exact h.firstGoesOnAir idle
    | retryAttempt dt idle => exact h.retryAttempt idle
    | attemptSuccess dt => exact h.attemptSuccess
    | collision dt => exact h.collision
    | jamEnd dt => exact h.jamEnd
    | framerIdle dt => exact h.framerIdle
    | frameComplete dt chars => exact h.frameComplete chars
    | silenceExpiry dt n => exact h.silence n
    | unheardExpiry dt => exact h.unheard
    | writeComplete dt rb => exact h.writeComplete rb
    | unknownCommand dt code params => exact h.unknownCommand code params
    | start dt params => exact h.start params
    | mark dt params => exact h.mark params
    | frameDiscarded dt cause => exact h.frameDiscarded cause
    | _ => cases hc

/-- In INIT a passage leaves the framer IGNORING (R99). -/
theorem LineSafe.advance {s : State} (h : LineSafe s) (dt : Passage) : LineSafe (s.advance dt) :=
  h.of_transmitter (by simp) (fun hm => (advance_ignoring (h.init hm) dt).1) (by simp)

/-- Settles O9: a step is a passage and at most one command's effect, and both keep the relations. -/
theorem lineHoldsWhatTheModeAllows : Obligations.LineHoldsWhatTheModeAllows := by
  unfold Obligations.LineHoldsWhatTheModeAllows
  intro s t hs hstep
  suffices hline : LineSafe t from ⟨hline, hline.notices⟩
  have h := hs.line
  unfold step at hstep
  split at hstep
  · cases hstep; exact h.advance _
  · rename_i c rest _
    have hrest : LineSafe (s.setPending rest) := h.congr rfl rfl
    rcases exec_cases hstep with ⟨rfl, -⟩ | ⟨rfl, -⟩
    · exact (hrest.advance _).effectOf _
    · exact hrest.advance _

end Sys2Proof.Machine
end

section
/-!
PROOFS. The assertion of a reset (O16, R114, R166, R170, R182): what it cuts off, and what the commands come
to until the release.
-/

namespace Sys2Proof.Machine

open Sys2Proof

/-- Either input's assertion holds the device in reset (R182). -/
theorem resetAsserted_heldInReset (input : ResetInput) (s : State) : (resetAssertedEffect input s).heldInReset = true := by
  cases input
  · exact Bool.true_or _
  · exact Bool.or_true _

/-- Settles O16: the assertion block by block, and `perform` of a device held in reset. -/
theorem resetAssertionCutsOffAndHolds : Obligations.ResetAssertionCutsOffAndHolds := by
  unfold Obligations.ResetAssertionCutsOffAndHolds
  refine ⟨fun dt input s => ⟨resetAssertedEffect input (s.advance dt), rfl, rfl, rfl, rfl,
    resetAsserted_heldInReset input _, ?pins, rfl, rfl, rfl, rfl, rfl, rfl, rfl, rfl, rfl⟩,
    fun c s held hpower hhard hassert => ?held⟩
  case pins => cases input <;> rfl
  case held =>
    have hc : resetCommand c = false := by
      cases c with
      | powerOnResetRelease dt levels => exact absurd rfl (hpower dt levels)
      | hardResetRelease dt levels => exact absurd rfl (hhard dt levels)
      | resetAsserted dt input => exact absurd rfl (hassert dt input)
      | _ => rfl
    rw [exec_eq_perform hc, perform_eq, if_pos held]

end Sys2Proof.Machine
end

section
/-!
PROOFS. The frames of the consist line (O13, R98 to R100, R191 to R193): the check value as a division, the layout of a
frame as sent, and the receiver's tests.
-/

namespace Sys2Proof.Machine

open Sys2Proof

/-! ### The check value -/

/-- The generator polynomial's coefficients below x^16 (R191). -/
theorem generator_bit {i : Nat} (h : i < 16) : (0x1021#16).getLsbD i = decide (i = 0 ∨ i = 5 ∨ i = 12) := by
  revert i; decide

/-- A bit that enters the register moves it one place up, and where a 1 leaves it the generator is subtracted (R191). -/
theorem checkBit_bit (reg : BitVec 16) (bit : Bool) {i : Nat} (h : i < 16) : (checkBit reg bit).getLsbD i =
    ((decide (0 < i) && reg.getLsbD (i - 1)) ^^ ((reg.getLsbD 15 ^^ bit) && decide (i = 0 ∨ i = 5 ∨ i = 12))) := by
  have hmsb : (reg.msb != bit) = (reg.getLsbD 15 ^^ bit) := by rw [BitVec.msb_eq_getLsbD_last]
  have hshift : (reg <<< 1).getLsbD i = (decide (0 < i) && reg.getLsbD (i - 1)) := by
    cases i <;> simp [BitVec.getLsbD_shiftLeft]; omega
  rw [checkBit, hmsb]
  cases (reg.getLsbD 15 ^^ bit) with
  | true => rw [if_pos rfl, BitVec.getLsbD_xor, hshift, generator_bit h, Bool.true_and]
  | false => rw [if_neg Bool.false_ne_true, hshift, Bool.false_and, Bool.xor_false]

/-- The register after the first `k` bits of a byte (R191). -/
def checkAfter (reg : BitVec 16) (b : Byte) (k : Nat) : BitVec 16 :=
  ([7, 6, 5, 4, 3, 2, 1, 0].take k).foldl (fun r i => checkBit r (b.getLsbD i)) reg

theorem checkAfter_succ (reg : BitVec 16) (b : Byte) {k : Nat} (h : k < 8) :
    checkAfter reg b (k + 1) = checkBit (checkAfter reg b k) (b.getLsbD (7 - k)) := by
  have hbit : [7, 6, 5, 4, 3, 2, 1, 0][k] = 7 - k := by revert k; decide
  rw [checkAfter, List.take_succ_eq_append_getElem h, List.foldl_append, hbit]
  rfl

/-! ### The layout -/

theorem payload_length (x : FrameContent) : x.payload.length = x.kind.payloadLength := by cases x <;> rfl

/-- What the check covers: the header without the start mark, and the payload (R98). -/
def coveredBytes (n : Nat) (seq : Byte) (x : FrameContent) : List Byte :=
  x.kind.code :: byteOf n :: seq :: byteOf x.kind.payloadLength :: x.payload

theorem frameBytes_eq (n : Nat) (seq : Byte) (x : FrameContent) : frameBytes n seq x =
    startMark :: (coveredBytes n seq x ++ wordBytes (checkValue (coveredBytes n seq x))) := rfl

theorem coveredBytes_length (n : Nat) (seq : Byte) (x : FrameContent) :
    (coveredBytes n seq x).length = 4 + x.kind.payloadLength := by
  simp [coveredBytes, payload_length]; omega

theorem frameBytes_length (n : Nat) (seq : Byte) (x : FrameContent) :
    (frameBytes n seq x).length = 7 + x.kind.payloadLength := by
  rw [frameBytes_eq, List.length_cons, List.length_append, coveredBytes_length]
  simp [wordBytes]; omega

/-- The length byte (R192). -/
theorem natAt_length (n : Nat) (seq : Byte) (x : FrameContent) :
    natAt (frameBytes n seq x) 4 = x.kind.payloadLength := by
  cases x <;> rfl

/-- The payload and the check at their offsets (R98, R192). -/
theorem frameBytes_parts (n : Nat) (seq : Byte) (x : FrameContent) :
    ((frameBytes n seq x).drop 5).take x.kind.payloadLength = x.payload ∧
    wordAt (frameBytes n seq x) (5 + x.kind.payloadLength) =
      checkValue (((frameBytes n seq x).drop 1).take (4 + x.kind.payloadLength)) := by
  have hcovered : ((frameBytes n seq x).drop 1).take (4 + x.kind.payloadLength) = coveredBytes n seq x := by
    rw [frameBytes_eq, List.drop_succ_cons, List.drop_zero, ← coveredBytes_length n seq x, List.take_left]
  refine ⟨?_, ?_⟩
  · rw [← payload_length]; exact List.take_left
  · rw [hcovered]
    apply wordAt_eq_of_slice
    rw [frameBytes_eq, show 5 + x.kind.payloadLength = (coveredBytes n seq x).length + 1 by rw [coveredBytes_length]; omega,
      List.drop_succ_cons, List.drop_left]
    rfl

/-! ### The receiver's tests -/

theorem ofCode_code (k : FrameKind) : FrameKind.ofCode k.code = some k := by cases k <;> rfl

/-- A frame as sent passes every test (R99). -/
theorem parseFrame_frameBytes {n : Nat} (h1 : 1 ≤ n) (h8 : n ≤ 8) (seq : Byte) (x : FrameContent) :
    parseFrame (frameBytes n seq x) = some ⟨x.kind, n, seq, x.payload⟩ := by
  have hn : (byteOf n).toNat = n := by simp [byteOf]; omega
  have hlen : (byteOf x.kind.payloadLength).toNat = x.kind.payloadLength := by cases x <;> rfl
  rw [frameBytes_eq, coveredBytes]
  simp only [List.cons_append, parseFrame, ofCode_code, hn, hlen]
  have hrest : (x.payload ++ wordBytes (checkValue (coveredBytes n seq x))).length - 2 = x.payload.length := by
    simp [wordBytes]
  rw [← coveredBytes, hrest, List.take_left, ← coveredBytes, if_pos]
  refine ⟨trivial, by simp [wordBytes], h1, h8, trivial, payload_length x, wordAt_eq_of_slice ?_⟩
  rw [List.drop_left]; rfl

/-- Settles O13: the register bit by bit, the offsets, and the tests of R99 on a frame as sent. -/
theorem framesReadBackAsSent : Obligations.FramesReadBackAsSent := by
  unfold Obligations.FramesReadBackAsSent
  refine ⟨⟨rfl, by decide +kernel, fun bs b => by simp [checkValue],
      fun reg b => ⟨checkAfter reg b, rfl, rfl, ?division⟩⟩,
    ?offsets, fun n seq x h1 h8 => ⟨parseFrame_frameBytes h1 h8 seq x, frameBytes_length n seq x⟩,
    fun p => ⟨rfl, reportPayload_ofBytes_bytes p⟩⟩
  case division =>
    intro k i hk hi
    rw [checkAfter_succ reg b hk]; exact checkBit_bit _ _ hi
  case offsets =>
    rintro n seq x _ _ - - rfl rfl
    obtain ⟨hpayload, hcheck⟩ := frameBytes_parts n seq x
    rw [natAt_length, hpayload]
    refine ⟨rfl, rfl, rfl, hcheck, ?_⟩
    cases x with
    | report p =>
      exact ⟨rfl, rfl, rfl, rfl, wordAt_eq_of_slice rfl, wordAt_eq_of_slice rfl, wordAt_eq_of_slice rfl,
        wordAt_eq_of_slice rfl, wordAt_eq_of_slice rfl, rfl, rfl, rfl, wordAt_eq_of_slice rfl, rfl, rfl, rfl⟩
    | demand c => exact ⟨rfl, rfl, wordAt_eq_of_slice rfl, rfl, rfl⟩
    | notice c =>
      exact ⟨rfl, rfl, wordAt_eq_of_slice rfl, sourceCode_toNat c.cause, classCode_eq c.cls, wordAt_eq_of_slice rfl⟩

end Sys2Proof.Machine
end

section
/-!
PROOFS. NOTICE and DEMAND go on air (O46, R100, R106, R107, R113): the candidate by the service order, and its quiet time.
-/

namespace Sys2Proof.Machine

open Sys2Proof

/-- The service order: NOTICE before DEMAND before REPORT, with nothing on air (R106). -/
theorem candidate_eq_some_iff {l : LineController} {k : FrameKind} : l.candidate = some k ↔ l.onAir = none ∧
    match k with
    | .notice => l.queue.notices ≠ []
    | .demand => l.queue.notices = [] ∧ l.queue.demand ≠ none
    | .report => l.queue.notices = [] ∧ l.queue.demand = none ∧ l.queue.report = true := by
  obtain ⟨⟨notices, demand, report⟩, air, _, _, _, _, _, _, _, _, _⟩ := l
  cases air <;> cases notices <;> cases demand <;> cases report <;> cases k <;> simp [LineController.candidate]

/-- In RUN every kind is sent, and a NOTICE or DEMAND in RUN alone (R113). -/
theorem transmits_run {m : Mode} (h : m = .run) (k : FrameKind) : transmits m k = true := by rw [h]; rfl

theorem run_of_transmits {m : Mode} {k : FrameKind} (h : transmits m k = true) (hk : k ≠ .report) : m = .run := by
  cases m with
  | run => rfl
  | safe => exact absurd (beq_iff_eq.1 h) hk
  | _ => cases h

/-- The candidate has waited for its quiet time, as far as the line has been idle (R107, R113). -/
def State.firstDue (idle : Nat) (kind : FrameKind) (s : State) : Prop :=
  transmits s.control.mode kind ∧ quietTime s.control.station kind ≤ idle ∧ idle ≤ s.line.idleBits

theorem firstGoesOnAirEffect_due {s : State} {idle : Nat} {kind : FrameKind} (hc : s.line.candidate = some kind)
    (due : s.firstDue idle kind) : firstGoesOnAirEffect idle s = candidateOnAir kind s := by
  rw [firstGoesOnAirEffect, hc]
  exact if_pos due

theorem firstGoesOnAirEffect_early {s : State} {idle : Nat}
    (early : ∀ kind, s.line.candidate = some kind → ¬ s.firstDue idle kind) : firstGoesOnAirEffect idle s = s := by
  rw [firstGoesOnAirEffect]
  split
  · rfl
  · rename_i kind hc
    exact if_neg (early kind hc)

theorem noticeOnAir_eq {s : State} {c : NoticeContent} {rest : List NoticeContent} (h : s.line.queue.notices = c :: rest) :
    noticeOnAir s = s.setLine (({ s.line with
      queue := { s.line.queue with notices := rest }
      nextNoticeSeq := s.line.nextNoticeSeq + 1 } : LineController).putOnAir (.notice c) s.line.nextNoticeSeq s.micros) := by
  rw [noticeOnAir, h]

theorem demandOnAir_eq {s : State} {c : DemandContent} (h : s.line.queue.demand = some c) :
    demandOnAir s = s.setLine (({ s.line with
      queue := { s.line.queue with demand := none }
      nextDemandSeq := s.line.nextDemandSeq + 1 } : LineController).putOnAir (.demand c) s.line.nextDemandSeq s.micros) := by
  rw [demandOnAir, h]

/-- Settles O46: the candidate is the kind that the service order gives, and goes on air when it is due. -/
theorem firstAttemptWaitsForItsQuietTime : Obligations.FirstAttemptWaitsForItsQuietTime := by
  unfold Obligations.FirstAttemptWaitsForItsQuietTime
  rintro dt idle s ha _ rfl framer buffer echo rfl rfl rfl
  rw [exec_firstGoesOnAir ha]
  refine ⟨fun hnot => ?waits, fun c rest hair hrun hq hquiet hidle => ?notice,
    fun c hair hrun hq hd hquiet hidle => ?demand⟩
  case waits =>
    rw [firstGoesOnAirEffect_early]
    rintro kind hc ⟨hsends, hquiet, hidle⟩
    obtain ⟨hair, hkind⟩ := candidate_eq_some_iff.1 hc
    rcases hnot with hon | hempty | hline | ⟨hn, hw⟩ | ⟨hn, hd, hw⟩ | ⟨hn, hd, hw⟩
    · exact hon hair
    · rw [hempty] at hkind
      cases kind with
      | notice => exact hkind rfl
      | demand => exact hkind.2 rfl
      | report => cases hkind.2.2
    · exact absurd hidle (Nat.not_le.2 hline)
    · cases kind with
      | notice => exact hw.elim (· (run_of_transmits hsends nofun)) (Nat.not_lt.2 hquiet)
      | demand => exact hn hkind.1
      | report => exact hn hkind.1
    · cases kind with
      | notice => exact hkind hn
      | demand => exact hw.elim (· (run_of_transmits hsends nofun)) (Nat.not_lt.2 hquiet)
      | report => exact hd hkind.2.1
    · cases kind with
      | notice => exact hkind hn
      | demand => exact hkind.2 hd
      | report => exact hw.elim (fun hm => nomatch hm.symm.trans (transmits_iff.1 hsends).1) (Nat.not_lt.2 hquiet)
  case notice =>
    have hcandidate : (s.advance dt).line.candidate = some .notice :=
      candidate_eq_some_iff.2 ⟨hair, fun hn => nomatch hn.symm.trans hq⟩
    rw [firstGoesOnAirEffect_due hcandidate ⟨transmits_run hrun _, hquiet, hidle⟩, candidateOnAir, noticeOnAir_eq hq]
    simp [LineController.putOnAir, driveStart_eq]
  case demand =>
    have hcandidate : (s.advance dt).line.candidate = some .demand :=
      candidate_eq_some_iff.2 ⟨hair, hq, fun hn => nomatch hn.symm.trans hd⟩
    rw [firstGoesOnAirEffect_due hcandidate ⟨transmits_run hrun _, hquiet, hidle⟩, candidateOnAir, demandOnAir_eq hd]
    simp [LineController.putOnAir, driveStart_eq]

end Sys2Proof.Machine
end

section
/-!
PROOFS. The attempts of a frame on air (O48, R108 to R110): success, collision, the jam's end, and the next attempt.
-/

namespace Sys2Proof.Machine

open Sys2Proof

/-! ### The own frame at the receive framer -/

@[simp] theorem collect_echo (b : Byte) (l : LineController) : (l.collect b).echo = l.echo := by
  unfold LineController.collect; repeat' split
  all_goals rfl

theorem receiving_of_collect {b : Byte} {l : LineController} (h : (l.collect b).framer = .receiving) :
    l.framer = .receiving := by
  unfold LineController.collect at h
  split at h
  · assumption
  · exact h

/-- Another station's start bit clears the echo mark (R111). -/
theorem receive_echo {l : LineController} (hf : (l.receive false).framer = .receiving) (he : (l.receive false).echo = true) :
    l.framer = .receiving ∧ l.echo = true := by
  unfold LineController.receive at hf he
  split at hf
  · simp_all
  · simp_all

/-- So a framer that receives under the mark has done so from the start. -/
theorem hear_echo {l : LineController} {e : LineEvent} (hf : (l.hear e).framer = .receiving) (he : (l.hear e).echo = true) :
    l.framer = .receiving ∧ l.echo = true := by
  cases e with
  | startBit => exact receive_echo hf he
  | character b => exact receive_echo (receiving_of_collect hf) (by simpa [LineController.hear] using he)

theorem heard_echo {l : LineController} {es : List LineEvent} (hf : (l.heard es).framer = .receiving)
    (he : (l.heard es).echo = true) : l.framer = .receiving ∧ l.echo = true := by
  induction es generalizing l with
  | nil => exact ⟨hf, he⟩
  | cons e es ih =>
    obtain ⟨hf', he'⟩ := ih hf he
    exact hear_echo hf' he'

/-- While the own attempt is received, the characters that stand in the buffer are those sent so far (R99, R108, R111). -/
theorem framed_own {mode : Mode} {own : Nat} {now since : Time} {l : LineController} {content : FrameContent} {seq : Byte}
    (hm : mode ≠ .init) (hair : l.onAir = some ⟨content, seq, .sending since⟩) (hf : l.framer = .receiving)
    (he : l.echo = true) (traffic : List LineEvent) : l.framed mode own now traffic =
      { l with buffer := (frameBytes own seq content).take (elapsed since now / 40) } := by
  simp [LineController.framed, LineController.ownHeard, hm, hair, hf, he]

/-- A framer that does not receive the own attempt hears the traffic. -/
theorem framed_traffic {mode : Mode} {own : Nat} {now : Time} {l : LineController} (hm : mode ≠ .init)
    (hown : l.ownHeard own now = none) (traffic : List LineEvent) : l.framed mode own now traffic = l.heard traffic := by
  simp [LineController.framed, hm, hown]

theorem ownHeard_eq_none {own : Nat} {now : Time} {l : LineController} (h : ¬ (l.framer = .receiving ∧ l.echo = true)) :
    l.ownHeard own now = none := by
  unfold LineController.ownHeard
  split
  · exact if_neg h
  · rfl

/-- When the own attempt has been sent to its end, a framer that receives it holds the whole frame. -/
theorem advance_buffer_sent {dt : Passage} {s : State} {content : FrameContent} {seq : Byte} {since : Time}
    (hm : s.control.mode ≠ .init) (hair : s.line.onAir = some ⟨content, seq, .sending since⟩)
    (hsent : 40 * (7 + content.kind.payloadLength) ≤ elapsed since (s.advance dt).micros)
    (hf : (s.advance dt).line.framer = .receiving) (he : (s.advance dt).line.echo = true) :
    (s.advance dt).line.buffer = frameBytes s.control.station seq content := by
  by_cases hown : s.line.framer = .receiving ∧ s.line.echo = true
  · have hframed := framed_own (own := s.control.station) (now := (s.clock.advance dt.micros).us)
      hm hair hown.1 hown.2 dt.traffic
    rw [(advance_framer dt s hframed).2.1]
    refine List.take_of_length_le ?_
    rw [frameBytes_length]
    rw [advance_micros] at hsent
    omega
  · have hframed := framed_traffic hm
      (ownHeard_eq_none (own := s.control.station) (now := (s.clock.advance dt.micros).us) hown)
      dt.traffic
    obtain ⟨hf', -, he'⟩ := advance_framer dt s hframed
    exact absurd (heard_echo (hf' ▸ hf) (he' ▸ he)) hown

/-! ### The four commands -/

theorem exec_retryAttempt {dt : Passage} {idle : Nat} {s : State} (ha : Accepts s) :
    exec (.retryAttempt dt idle) s = .next (retryAttemptEffect idle (s.advance dt)) := exec_accepted ha

theorem exec_attemptSuccess {dt : Passage} {s : State} (ha : Accepts s) :
    exec (.attemptSuccess dt) s = .next (attemptSuccessEffect (s.advance dt)) := exec_accepted ha

theorem exec_collision {dt : Passage} {s : State} (ha : Accepts s) :
    exec (.collision dt) s = .next (collisionEffect (s.advance dt)) := exec_accepted ha

theorem exec_jamEnd {dt : Passage} {s : State} (ha : Accepts s) :
    exec (.jamEnd dt) s = .next (jamEndEffect (s.advance dt)) := exec_accepted ha

section

variable {s : State} {content : FrameContent} {seq : Byte}

theorem retryAttemptEffect_waiting (hair : s.line.onAir = some ⟨content, seq, .waiting⟩) (idle : Nat) :
    retryAttemptEffect idle s =
      if transmits s.control.mode content.kind ∧
          quietTime s.control.station content.kind + s.line.attempts * s.control.station * 20 ≤ idle ∧
          idle ≤ s.line.idleMicros / 4 then
        s.setLine (s.line.withPhase ⟨content, seq, .waiting⟩ (.sending s.micros)).driveStart
      else s := by
  rw [retryAttemptEffect, hair]; rfl

theorem attemptSuccessEffect_sending {since : Time} (hair : s.line.onAir = some ⟨content, seq, .sending since⟩) :
    attemptSuccessEffect s =
      if 40 * (7 + content.kind.payloadLength) ≤ elapsed since s.micros then s.setLine s.line.endFrame else s := by
  rw [attemptSuccessEffect, hair, Nat.mul_comm]; rfl

theorem collisionEffect_sending {since : Time} (hair : s.line.onAir = some ⟨content, seq, .sending since⟩) :
    collisionEffect s = s.setLine { s.line with onAir := some ⟨content, seq, .jamming s.micros⟩, idleMicros := 0 } := by
  rw [collisionEffect, hair]; rfl

/-- The jam's end counts a failed attempt; the eighth gives the frame up (R108 to R110). -/
theorem jamEndEffect_jamming {since : Time} (hair : s.line.onAir = some ⟨content, seq, .jamming since⟩) :
    jamEndEffect s =
      if 64 ≤ elapsed since s.micros then
        if 8 ≤ s.line.attempts + 1 then giveUp content (s.setLine { s.line with attempts := s.line.attempts + 1 })
        else s.setLine { s.line with onAir := some ⟨content, seq, .waiting⟩, attempts := s.line.attempts + 1 }
      else s := by
  rw [jamEndEffect, hair]; rfl

/-- A frame given up leaves LINE_DISCARD, and a NOTICE is returned as not sent (R110, R140). -/
theorem giveUp_eq (content : FrameContent) (s : State) : giveUp content s = (s.setLine s.line.endFrame).setRecorder
    (match content with
    | .notice c => (s.recorder.log ⟨s.now, .lineDiscard content.kind⟩).noticeReturned c.number
    | _ => s.recorder.log ⟨s.now, .lineDiscard content.kind⟩) := by
  cases content <;> rfl

end

/-- Settles O48: each command by the phase of the frame on air. -/
theorem attemptsSucceedWaitOrGiveUp : Obligations.AttemptsSucceedWaitOrGiveUp := by
  unfold Obligations.AttemptsSucceedWaitOrGiveUp
  rintro dt s _ idle content seq ha rfl hworks hkind
  rw [exec_retryAttempt ha, exec_collision ha, exec_attemptSuccess ha, exec_jamEnd ha]
  refine ⟨?retry, fun since hair => ⟨?collision, fun early => ?early, fun hsent => ?success⟩,
    fun since hair => ⟨fun early => ?jam, fun hover hfew => ?waits, fun hover hmany => ?givesUp⟩, fun hair => ?silent⟩
  case retry =>
    intro quiet hquiet hair
    obtain rfl : quiet = quietTime s.control.station content.kind := hquiet.trans (by cases content.kind <;> rfl)
    have hsends : transmits s.control.mode content.kind = true :=
      transmits_iff.2 ⟨hworks, fun hm => hkind.resolve_left (by simp [hm])⟩
    rw [retryAttemptEffect_waiting hair]
    refine ⟨fun hq hidle => ?_, fun early => ?_⟩
    · rw [if_pos ⟨hsends, hq, hidle⟩, driveStart_eq]; rfl
    · rw [if_neg]
      rintro ⟨-, hq, hidle⟩
      exact early.elim (Nat.not_lt.2 hq) (Nat.not_lt.2 hidle)
  case collision => rw [collisionEffect_sending hair]
  case early => rw [attemptSuccessEffect_sending hair, if_neg (Nat.not_le.2 early)]
  case success =>
    rw [attemptSuccessEffect_sending hair, if_pos hsent]
    have hbuffer : (if (s.advance dt).line.framer = .receiving ∧ (s.advance dt).line.echo = true then
        frameBytes s.control.station seq content else (s.advance dt).line.buffer) = (s.advance dt).line.buffer := by
      split
      · rename_i hown
        exact (advance_buffer_sent (Mode.ne_init_of_working hworks) ((advance_line dt s).2.1.symm.trans hair) hsent
          hown.1 hown.2).symm
      · rfl
    rw [hbuffer]; rfl
  case jam => rw [jamEndEffect_jamming hair, if_neg (Nat.not_le.2 early)]
  case waits => rw [jamEndEffect_jamming hair, if_pos hover, if_neg (Nat.not_le.2 hfew)]
  case givesUp =>
    rw [jamEndEffect_jamming hair, if_pos hover, if_pos hmany, giveUp_eq]; rfl
  case silent =>
    rw [collisionEffect, attemptSuccessEffect, jamEndEffect, retryAttemptEffect, hair]
    exact ⟨rfl, rfl, rfl, rfl⟩

end Sys2Proof.Machine
end

section
/-!
PROOFS. The receive framer (O49, R97, R99, R111, R112): what a passage brings to it, its discards, and the completed
frame with the tests that it must pass.
-/

namespace Sys2Proof.Machine

open Sys2Proof

/-! ### What the framer hears -/

/-- A start bit at a framer that is not IGNORING begins a frame or belongs to the one that is received (R99). -/
theorem receive_started {l : LineController} (h : l.framer ≠ .ignoring) : l.receive false = { l with
    framer := .receiving
    buffer := if l.framer = .idle then [] else l.buffer
    echo := if l.framer = .idle then false else l.echo } := by
  obtain ⟨_, _, _, _, _, _, _, _, framer, _, _⟩ := l
  cases framer with
  | ignoring => exact absurd rfl h
  | _ => rfl

/-- A frame that does not begin with a start mark is discarded at its first character (R99). -/
theorem heard_wrongStart {l : LineController} {char : Byte}
    (h : l.framer = .idle ∨ (l.framer = .receiving ∧ l.buffer = []))
    (hc : char ≠ startMark) (rest : List LineEvent) : l.heard (.character char :: rest) = { l with
      framer := .ignoring, buffer := [], echo := if l.framer = .idle then false else l.echo } := by
  have hear : l.hear (.character char) = { l with
      framer := .ignoring, buffer := [], echo := if l.framer = .idle then false else l.echo } := by
    rcases h with h | ⟨h, hb⟩ <;>
      simp [LineController.hear, receive_started, LineController.collect, *]
  rw [heard_cons, hear, heard_ignoring rfl]

/-- A start bit within a frame is its next character's (R99). -/
theorem heard_tail {l : LineController} (h : l.framer = .receiving) {tail : List LineEvent}
    (ht : tail = [] ∨ tail = [.startBit]) : l.heard tail = l := by
  rcases ht with rfl | rfl
  · rfl
  · simp [LineController.heard, LineController.hear, LineController.receive, h]

/-- The framer that receives none of the own attempt hears the passage's traffic (R99, R108). -/
theorem advance_heard {dt : Passage} {s : State} (hm : s.control.mode ≠ .init)
    (hown : s.line.ownHeard s.control.station (s.clock.advance dt.micros).us = none) {m : LineController}
    (h : s.line.heard dt.traffic = m) :
    (s.advance dt).line.framer = m.framer ∧ (s.advance dt).line.buffer = m.buffer ∧ (s.advance dt).line.echo = m.echo :=
  advance_framer dt s ((framed_traffic hm hown dt.traffic).trans h)

/-- With the echo mark clear, or no attempt under way, what is received is not the own frame (R108, R111). -/
theorem ownHeard_foreign {own : Nat} {now : Time} {l : LineController}
    (h : l.echo = false ∨ ∀ f since, l.onAir = some f → f.phase ≠ .sending since) : l.ownHeard own now = none := by
  rcases h with h | h
  · exact ownHeard_eq_none (by simp [h])
  · unfold LineController.ownHeard
    split
    · rename_i since hair
      exact absurd rfl (h _ since hair)
    · rfl

/-! ### Discards -/

theorem exec_frameDiscarded {dt : Passage} {cause : DiscardCause} {s : State} (ha : Accepts s) :
    exec (.frameDiscarded dt cause) s = .next (frameDiscardedEffect cause (s.advance dt)) := exec_accepted ha

theorem exec_framerIdle {dt : Passage} {s : State} (ha : Accepts s) :
    exec (.framerIdle dt) s = .next (framerIdleEffect (s.advance dt)) := exec_accepted ha

theorem exec_frameComplete {dt : Passage} {chars : List Byte} {s : State} (ha : Accepts s) :
    exec (.frameComplete dt chars) s = .next (frameCompleteEffect chars (s.advance dt)) := exec_accepted ha

theorem frameDiscardedEffect_none {s : State} {cause : DiscardCause}
    (h : s.control.mode = .init ∨ (s.line.receive false).discards cause = false) : frameDiscardedEffect cause s = s := by
  rw [frameDiscardedEffect]
  refine if_neg ?_
  rintro ⟨hm, hd⟩
  rcases h with h | h
  · exact hm h
  · rw [h] at hd; cases hd

/-- A framer that is not IGNORING discards as the cause asks (R97, R99). -/
theorem frameDiscardedEffect_discards {s : State} {cause : DiscardCause} (hm : s.control.mode ≠ .init)
    (hf : s.line.framer ≠ .ignoring) (hd : (s.line.receive false).discards cause = true) :
    frameDiscardedEffect cause s = s.setLine { s.line with
      framer := .ignoring, buffer := [], echo := if s.line.framer = .idle then false else s.line.echo
      idleMicros := min s.line.idleMicros (discardIdle cause) } := by
  rw [frameDiscardedEffect]
  refine (if_pos ⟨hm, hd⟩).trans ?_
  rw [receive_started hf]; rfl

/-- The first character decides a discard (R99). -/
theorem discards_wrongStart {l : LineController} (h : l.framer ≠ .ignoring) (char : Byte) :
    (l.receive false).discards (.wrongStartMark char) = true ↔
      (l.framer = .idle ∨ l.buffer = []) ∧ char ≠ startMark := by
  rw [receive_started h]
  by_cases hi : l.framer = .idle <;> simp [LineController.discards, hi]

theorem discards_ignoring {l : LineController} (h : l.framer = .ignoring) (cause : DiscardCause) :
    (l.receive false).discards cause = false := by
  cases cause <;> simp [LineController.discards, LineController.receive, h]

/-! ### The completed frame -/

theorem heard_idleBits (es : List LineEvent) (l : LineController) : (l.heard es).idleBits = l.idleBits := by
  obtain ⟨-, -, -, hidle, -⟩ := (heard_frame es l).fields
  rw [LineController.idleBits, hidle]; rfl

/-- The line with the completed frame in the buffer: what the framer has heard, and what FRAME_COMPLETE brings (R99). -/
def LineController.completed (chars : List Byte) (l : LineController) : LineController :=
  { l with
    framer := .idle
    buffer := if l.framer = .idle then chars else l.buffer ++ chars
    echo := if l.framer = .idle then false else l.echo }

/-- The characters that FRAME_COMPLETE brings are the rest of a frame, or a whole one (R99). -/
def LineController.Completes (chars : List Byte) (l : LineController) : Prop :=
  (l.framer = .receiving ∧ (l.buffer ≠ [] ∨ chars = [])) ∨ chars.head? = some startMark

theorem heard_completes {l : LineController} {chars : List Byte} (hf : l.framer ≠ .ignoring) (h : l.Completes chars) :
    l.heard (chars.map .character) = { l.completed chars with framer := .receiving } := by
  cases hl : l.framer with
  | ignoring => exact absurd hl hf
  | idle =>
    rcases h with ⟨hr, -⟩ | h
    · rw [hl] at hr; cases hr
    · obtain ⟨rest, rfl⟩ := List.head?_eq_some_iff.1 h
      rw [heard_whole hl]; simp [LineController.completed, hl]
  | receiving =>
    rw [heard_characters hl]
    · simp [LineController.completed, hl]
    · rcases h with ⟨-, hb | rfl⟩ | h
      · exact .inl hb
      · exact .inr nofun
      · exact .inr fun b hb => Option.some.inj (hb.symm.trans h)

theorem frameCompleteEffect_none {s : State} {chars : List Byte} (h : s.control.mode = .init ∨ s.line.idleBits < 10) :
    frameCompleteEffect chars s = s := by
  rw [frameCompleteEffect]
  exact if_pos h

/-- A framer that does not receive completes no frame. -/
theorem frameCompleteEffect_unreceived {s : State} {chars : List Byte} (hm : s.control.mode ≠ .init)
    (hi : 10 ≤ s.line.idleBits) {m : LineController} (h : s.line.heard (chars.map .character) = m)
    (hf : m.framer ≠ .receiving) : frameCompleteEffect chars s = s.setLine m := by
  subst h
  rw [frameCompleteEffect]
  exact (if_neg (not_or.2 ⟨hm, Nat.not_lt.2 hi⟩)).trans (if_neg hf)

/-- No frame completes in INIT, in IGNORING, without a character, or before 10 bit times of idle (R99). -/
theorem frameCompleteEffect_nothing {s : State} {chars : List Byte} (h : s.control.mode = .init ∨
    s.line.framer = .ignoring ∨ (s.line.framer = .idle ∧ chars = []) ∨ s.line.idleBits < 10) :
    frameCompleteEffect chars s = s := by
  by_cases hm : s.control.mode = .init
  · exact frameCompleteEffect_none (.inl hm)
  by_cases hi : 10 ≤ s.line.idleBits
  · rcases h with h | h | ⟨h, rfl⟩ | h
    · exact absurd h hm
    · exact frameCompleteEffect_unreceived hm hi (heard_ignoring h _) fun hr => nomatch h.symm.trans hr
    · exact frameCompleteEffect_unreceived hm hi (heard_nil _) fun hr => nomatch h.symm.trans hr
    · exact absurd h (Nat.not_lt.2 hi)
  · exact frameCompleteEffect_none (.inr (Nat.not_le.1 hi))

theorem frameCompleteEffect_completed {s : State} {chars : List Byte} (hm : s.control.mode ≠ .init)
    (hi : 10 ≤ s.line.idleBits) (hf : s.line.framer ≠ .ignoring) (h : s.line.Completes chars) :
    frameCompleteEffect chars s =
      frameCompleted (s.setLine { s.line.completed chars with framer := .receiving }) := by
  rw [← heard_completes hf h, frameCompleteEffect]
  refine (if_neg (not_or.2 ⟨hm, Nat.not_lt.2 hi⟩)).trans (if_pos ?_)
  rw [heard_completes hf h]

/-- A frame whose first character is no start mark is discarded and not completed (R99). -/
theorem frameCompleteEffect_wrongStart {s : State} {char : Byte} (hm : s.control.mode ≠ .init)
    (hf : s.line.framer ≠ .ignoring) (hi : 10 ≤ s.line.idleBits)
    (hb : s.line.framer = .idle ∨ s.line.buffer = []) (hc : char ≠ startMark) (rest : List Byte) :
    frameCompleteEffect (char :: rest) s = s.setLine { s.line with
      framer := .ignoring, buffer := [], echo := if s.line.framer = .idle then false else s.line.echo } := by
  have hb' : s.line.framer = .idle ∨ (s.line.framer = .receiving ∧ s.line.buffer = []) := by
    cases hl : s.line.framer <;> simp_all
  exact frameCompleteEffect_unreceived hm hi (heard_wrongStart hb' hc _) nofun

/-- A frame that fails a test, and the own echo, are dispatched to no block (R99, R111). -/
theorem frameCompleted_undispatched {s : State} (h : parseFrame s.line.buffer = none ∨ s.line.echo = true) :
    frameCompleted s = s.setLine { s.line with framer := .idle } := by
  unfold frameCompleted
  simp only [State.setLine_line]
  rcases h with h | h
  · rw [h]
  · split
    · rfl
    · exact if_pos h

theorem frameCompleted_dispatched {s : State} {f : ReceivedFrame} (h : parseFrame s.line.buffer = some f)
    (he : s.line.echo = false) : frameCompleted s = dispatchFrame f (s.setLine { s.line with framer := .idle }) := by
  unfold frameCompleted
  simp only [State.setLine_line]
  rw [h]
  exact if_neg (by simp [he])

/-! ### The tests of a completed frame -/

theorem code_of_ofCode {b : Byte} {k : FrameKind} (h : FrameKind.ofCode b = some k) : k.code = b := by
  unfold FrameKind.ofCode at h
  split at h <;> cases h <;> exact BitVec.eq_of_toNat_eq (by simp_all [FrameKind.code])

/-- The tests of R99, at the frame's own offsets. -/
structure FramePasses (chars : List Byte) (k : FrameKind) : Prop where
  length : 7 ≤ chars.length
  mark : byteAt chars 0 = startMark
  kind : k.code = byteAt chars 1
  source : 1 ≤ natAt chars 2 ∧ natAt chars 2 ≤ 8
  payload : natAt chars 4 = k.payloadLength
  whole : chars.length = natAt chars 4 + 7
  check : wordAt chars (chars.length - 2) = checkValue ((chars.take (chars.length - 2)).drop 1)

/-- A frame that is dispatched has passed every test (R99). -/
theorem framePasses_of_parseFrame {chars : List Byte} {f : ReceivedFrame} (h : parseFrame chars = some f) :
    ∃ k, FramePasses chars k := by
  unfold parseFrame at h
  split at h
  case h_2 => cases h
  case h_1 start kindByte source seq len rest =>
  simp only [] at h
  split at h
  case h_1 => cases h
  case h_2 kind hkind =>
  split at h
  case isFalse => cases h
  case isTrue htests =>
  obtain ⟨hmark, hlen, h1, h8, hpayload, hwhole, hcheck⟩ := htests
  rw [List.length_take] at hwhole
  obtain ⟨k, hk⟩ : ∃ k, rest.length = k + 2 := ⟨rest.length - 2, by omega⟩
  have hnat : natAt (start :: kindByte :: source :: seq :: len :: rest) 4 = len.toNat := rfl
  refine ⟨kind, by simp; omega, hmark, code_of_ofCode hkind, ⟨h1, h8⟩, hpayload,
    by simp only [List.length_cons, hnat]; omega, ?_⟩
  simp only [List.length_cons, hk] at hcheck ⊢
  exact hcheck

/-- One test that fails, or the echo mark, keeps the frame from every block (R99, R111). -/
theorem undispatched_of_test {chars : List Byte} {echo : Bool}
    (h : chars.length < 7 ∨ byteAt chars 0 ≠ startMark ∨ (∀ k : FrameKind, k.code ≠ byteAt chars 1) ∨
      natAt chars 2 = 0 ∨ 8 < natAt chars 2 ∨
      (∀ k : FrameKind, k.code = byteAt chars 1 → natAt chars 4 ≠ k.payloadLength) ∨
      chars.length ≠ natAt chars 4 + 7 ∨
      wordAt chars (chars.length - 2) ≠ checkValue ((chars.take (chars.length - 2)).drop 1) ∨ echo = true) :
    parseFrame chars = none ∨ echo = true := by
  cases hp : parseFrame chars with
  | none => exact .inl rfl
  | some f =>
    obtain ⟨k, passes⟩ := framePasses_of_parseFrame hp
    rcases h with h | h | h | h | h | h | h | h | h
    · exact absurd passes.length (Nat.not_le.2 h)
    · exact absurd passes.mark h
    · exact absurd passes.kind (h k)
    · exact absurd passes.source.1 (by omega)
    · exact absurd passes.source.2 (Nat.not_le.2 h)
    · exact absurd passes.payload (h k passes.kind)
    · exact absurd passes.whole h
    · exact absurd passes.check h
    · exact .inr h

/-- Settles O49: the passage by the framer's state, then the three commands. -/
theorem framerDispatchesNoBadFrameAndNoEcho : Obligations.FramerDispatchesNoBadFrameAndNoEcho := by
  unfold Obligations.FramerDispatchesNoBadFrameAndNoEcho
  rintro dt chars s _ _ ha rfl rfl
  rw [exec_framerIdle ha, exec_frameComplete ha]
  refine ⟨?inert, ?own, fun tail hm ht => ⟨fun hf => ?fromIdle, fun hf hforeign => ?inFrame⟩, ?discardNone,
    ?completeNone, ?idleNone, fun hm hf hi => ?idle, ?working⟩
  case inert =>
    rintro (hm | hf)
    · exact advance_framer dt s (if_pos hm)
    · rw [hf]; exact advance_ignoring hf dt
  case own =>
    rintro hm hf he ⟨content, seq, phase⟩ since hair rfl
    obtain ⟨hf', hb', he'⟩ := advance_framer dt s (framed_own hm hair hf he dt.traffic)
    exact ⟨hf'.trans hf, he'.trans he, hb'⟩
  case fromIdle =>
    have heard := @advance_heard dt s hm (ownHeard_eq_none (by simp [hf]))
    refine ⟨fun h => ?_, fun h => ?_, fun rest h => ?_, fun char rest hc h => ?_⟩ <;> rw [h] at heard
    · rw [← hf]; exact heard rfl
    · exact heard (receive_started (by simp [hf])) |>.imp id (by simp [hf])
    · rw [heard_append] at heard
      exact heard ((congrArg _ (heard_whole hf rest)).trans (heard_tail rfl ht))
    · have := heard (heard_wrongStart (.inl hf) hc rest)
      simpa [hf] using this
  case inFrame =>
    have heard := @advance_heard dt s hm (ownHeard_foreign hforeign)
    refine ⟨fun more hmore h => ?_, fun char rest hb hc h => ?_⟩ <;> rw [h] at heard
    · rw [heard_append, heard_characters hf more] at heard
      · rw [← hf]; exact heard (heard_tail (l := { s.line with buffer := s.line.buffer ++ more }) hf ht)
      · rcases hmore with hb | rfl | hh
        · exact .inl hb
        · exact .inr nofun
        · exact .inr fun b hb => Option.some.inj (hb.symm.trans hh)
    · have := heard (heard_wrongStart (.inr ⟨hf, hb⟩) hc rest)
      simpa [hf] using this
  case discardNone =>
    intro h cause
    rw [exec_frameDiscarded ha, frameDiscardedEffect_none (h.imp_right (discards_ignoring · cause))]
  case completeNone => exact fun h => congrArg _ (frameCompleteEffect_nothing h)
  case idleNone =>
    intro h
    refine congrArg _ (if_neg ?_)
    rintro ⟨hm, hf, hi⟩
    rcases h with h | h | h
    · exact hm h
    · exact h hf
    · exact Nat.not_lt.2 hi h
  case idle => exact congrArg _ (if_pos ⟨hm, hf, hi⟩)
  case working =>
    rintro hm hf _ rfl
    replace hm : (s.advance dt).control.mode ≠ .init := hm
    refine ⟨?_, fun char hc hb => ?_, fun char hc => ?_,
      fun hi => ⟨fun char rest hb hc hchars => ?_, fun hwhole hbad => ?_⟩⟩
    · rw [exec_frameDiscarded ha,
        frameDiscardedEffect_discards hm hf (by simp [receive_started hf, LineController.discards])]
      simp [discardIdle]
    · rw [exec_frameDiscarded ha, frameDiscardedEffect_discards hm hf ((discards_wrongStart hf char).2 ⟨hb, hc⟩)]
      rfl
    · rw [exec_frameDiscarded ha, frameDiscardedEffect_none (.inr (Bool.eq_false_iff.2 ?_))]
      rw [Ne, discards_wrongStart hf]
      rintro ⟨hb, hne⟩
      rcases hc with ⟨hi, hbuf⟩ | rfl
      · exact hb.elim hi hbuf
      · exact hne rfl
    · subst hchars
      exact congrArg _ (frameCompleteEffect_wrongStart hm hf hi hb hc rest)
    · rw [frameCompleteEffect_completed hm hi hf hwhole, frameCompleted_undispatched ?_]
      · rfl
      · exact undispatched_of_test hbad

end Sys2Proof.Machine
end

section
/-!
PROOFS. A peer's REPORT (O50, R112, R117 to R124): a good frame reaches the block that owns its meaning, and there the entry's
standing, the record of its change and UNHEARD follow from it.
-/

namespace Sys2Proof.Machine

open Sys2Proof

/-! ### A good frame reaches its block -/

theorem startMark_head (n : Nat) (seq : Byte) (x : FrameContent) : (frameBytes n seq x).head? = some startMark := rfl

/-- A framer that has the beginning of a frame, and the characters that FRAME_COMPLETE brings, complete it (R99). -/
theorem completes_frame {l : LineController} {chars : List Byte} {n : Nat} {seq : Byte} {x : FrameContent}
    (hf : l.framer ≠ .ignoring) (h : (if l.framer = .idle then chars else l.buffer ++ chars) = frameBytes n seq x) :
    l.Completes chars := by
  cases hl : l.framer with
  | ignoring => exact absurd hl hf
  | idle => rw [if_pos hl] at h; exact .inr (h ▸ startMark_head n seq x)
  | receiving =>
    rw [if_neg (by simp [hl])] at h
    by_cases hb : l.buffer = []
    · rw [hb, List.nil_append] at h; exact .inr (h ▸ startMark_head n seq x)
    · exact .inl ⟨hl, .inl hb⟩

/-- A whole frame of another's sending is dispatched as it was sent (R99, R112). -/
theorem exec_frameComplete_good {dt : Passage} {chars : List Byte} {s : State} {l : LineController} {n : Nat} {seq : Byte}
    {x : FrameContent} (ha : Accepts s) (hm : s.control.mode ≠ .init) (hl : l = (s.advance dt).line)
    (hf : l.framer ≠ .ignoring) (hi : 10 ≤ l.idleMicros / 4) (he : l.framer ≠ .idle → l.echo = false)
    (hwhole : (if l.framer = .idle then chars else l.buffer ++ chars) = frameBytes n seq x) (h1 : 1 ≤ n) (h8 : n ≤ 8) :
    exec (.frameComplete dt chars) s = .next (dispatchFrame ⟨x.kind, n, seq, x.payload⟩
      ((s.advance dt).setLine { l with framer := .idle, buffer := frameBytes n seq x, echo := false })) := by
  subst hl
  have hm' : (s.advance dt).control.mode ≠ .init := hm
  have hecho : (if (s.advance dt).line.framer = .idle then false else (s.advance dt).line.echo) = false := by
    split
    · rfl
    · exact he ‹_›
  have hline : (s.advance dt).line.completed chars =
      { (s.advance dt).line with framer := .idle, buffer := frameBytes n seq x, echo := false } := by
    rw [LineController.completed, hwhole, hecho]
  rw [exec_frameComplete ha, frameCompleteEffect_completed hm' hi hf (completes_frame hf hwhole), hline,
    frameCompleted_dispatched (parseFrame_frameBytes h1 h8 seq x) rfl]
  rfl

theorem dispatchFrame_own {f : ReceivedFrame} {s : State} (h : f.station = s.control.station) :
    dispatchFrame f s = duplicateArrival s := if_pos h

/-- A peer's frame goes by its kind (R112). -/
theorem dispatchFrame_peer {n : Nat} {seq : Byte} {x : FrameContent} {s : State} (h : n ≠ s.control.station) :
    dispatchFrame ⟨x.kind, n, seq, x.payload⟩ s = match x with
      | .report p => reportArrival n seq p s
      | .demand c => demandArrival n c.bytes s
      | .notice c => noticeArrival n (BitVec.ofNat 16 c.number) s := by
  refine (if_neg h).trans ?_
  cases x with
  | report p => exact congrArg (reportArrival n seq · s) (reportPayload_ofBytes_bytes p)
  | demand c => rfl
  | notice c => exact congrArg (noticeArrival n · s) (wordAt_eq_of_slice rfl)

/-! ### The entry's standing (R117 to R119) -/

theorem standing_ne_lost (seq : Byte) (now : Time) (e : Entry) : (e.standing seq now).1 ≠ .lost := by
  unfold Entry.standing
  split <;> (repeat' split) <;> nofun

theorem standing_of_absent_or_lost {seq : Byte} {now : Time} {e : Entry} (h : e.state = .absent ∨ e.state = .lost) :
    e.standing seq now = (.joining, 1) := by
  rcases h with h | h <;> rw [Entry.standing, h]

theorem standing_joining {seq q : Byte} {now t : Time} {e : Entry} (h : e.state = .joining) (hq : e.lastSeq = some q)
    (ht : e.lastHeard = some t) : e.standing seq now =
      if seq = q + 1 ∧ elapsed t now ≤ 250 then
        if 2 ≤ e.joinCount then (.present, 3) else (.joining, e.joinCount + 1)
      else (.joining, 1) := by
  simp [Entry.standing, Entry.inSequence, Entry.inTime, h, hq, ht]

theorem standing_of_present_or_stale {seq q : Byte} {now : Time} {e : Entry} (h : e.state = .present ∨ e.state = .stale)
    (hq : e.lastSeq = some q) : e.standing seq now = if seq = q + 1 then (.present, 3) else (.joining, 1) := by
  rcases h with h | h <;> simp [Entry.standing, Entry.inSequence, h, hq]

/-! ### The roster after a REPORT -/

/-- The unheard condition over the entries themselves (R123). -/
theorem unheardCondition_iff (s : State) : s.unheardCondition = true ↔
    s.control.mode = .run ∧ (∃ x ∈ s.roster.entries, x.state = .present) ∧
    ∀ x ∈ s.roster.entries, x.state = .present → ∀ q, x.held = some q →
      q.view.getLsbD (s.control.station - 1) = false := by
  have hlists (x : Entry) : x.lists s.control.station = false ↔
      ∀ q, x.held = some q → q.view.getLsbD (s.control.station - 1) = false := by
    cases hx : x.held <;> simp [Entry.lists, inMask, hx]
  simp [State.unheardCondition, Roster.presentEntries, hlists, and_assoc]

/-- The roster after a REPORT has made station `n`'s entry `new` (R123, R124). -/
def State.reportedRoster (n : Nat) (new : Entry) (s : State) : Roster :=
  let r := clearUnheard s.control.station new (s.roster.setEntry n new)
  { r with unheardSince := if (s.setRoster r).unheardCondition then some (r.unheardSince.getD s.now) else none }

theorem changeEntry_of_ne_lost {n : Nat} {old new : Entry} {s : State} (h : new.state ≠ .lost) : changeEntry n old new s =
    (s.setRoster (s.roster.setEntry n new)).setRecorder
      (if new.state = old.state then s.recorder else s.recorder.log ⟨s.now, .peerState n old.state new.state⟩) := by
  unfold changeEntry
  by_cases hs : old.state = new.state
  · rw [if_pos hs, if_pos hs.symm]; rfl
  · rw [if_neg hs, if_neg (Ne.symm hs)]; exact if_neg h

theorem reportArrival_eq {n : Nat} {seq : Byte} {p : ReportPayload} {s : State} {e new : Entry}
    (he : s.roster.entry? n = some e) (hnew : new = e.report seq p s.now) : reportArrival n seq p s =
      (s.setRoster (s.reportedRoster n new)).setRecorder
        (if new.state = e.state then s.recorder else s.recorder.log ⟨s.now, .peerState n e.state new.state⟩) := by
  subst hnew
  unfold reportArrival
  simp only [he]
  rw [changeEntry_of_ne_lost (standing_ne_lost seq s.now e)]
  rfl

theorem clearUnheard_eq (own : Nat) (e : Entry) (r : Roster) : clearUnheard own e r =
    { r with unheard := if e.state = .present ∧ e.lists own = true then false else r.unheard } := by
  unfold clearUnheard; split <;> rfl

theorem reportedRoster_eq (n : Nat) (new : Entry) (s : State) : s.reportedRoster n new =
    { s.roster.setEntry n new with
      unheard := if new.state = .present ∧ new.lists s.control.station = true then false else s.roster.unheard
      unheardSince := if (s.setRoster (s.reportedRoster n new)).unheardCondition
        then some (s.roster.unheardSince.getD s.now) else none } := by
  rw [State.reportedRoster, clearUnheard_eq]
  rfl

/-- Settles O50: the frame's dispatch, the entry's standing case by case, and the roster that is left. -/
theorem reportsTakePeersThroughJoining : Obligations.ReportsTakePeersThroughJoining := by
  unfold Obligations.ReportsTakePeersThroughJoining
  rintro dt chars s u l n seq p e ha hm hl hf hi hecho hwhole hu h1 h8 hpeer he -
  have hroster : u.roster = s.roster := by subst hu; rfl
  have hcontrol : u.control = s.control := by subst hu; rfl
  rw [exec_frameComplete_good ha hm hl hf hi hecho hwhole h1 h8, ← hu, ← hcontrol, ← hroster]
  rw [← hcontrol] at hpeer
  rw [← hroster] at he
  obtain ⟨-, hbound, -⟩ := Roster.entry?_bound he
  have hr := reportedRoster_eq n (e.report seq p u.now) u
  refine ⟨(e.standing seq u.now).1, (e.standing seq u.now).2, u.reportedRoster n (e.report seq p u.now), ?_, ?entry, ?others,
    ?rejoins, fun q t hq ht => ?heard, by rw [hr]; rfl, by rw [hr]; rfl, by rw [hr]; rfl, ?runs, ?rests⟩
  · rw [dispatchFrame_peer hpeer]
    exact congrArg _ (reportArrival_eq he rfl)
  case entry => rw [hr]; exact Roster.setEntry_entry?_same h1 hbound
  case others =>
    intro m hne
    rw [hr]; exact Roster.setEntry_entry?_other h1 hne
  case rejoins =>
    intro h
    rw [standing_of_absent_or_lost h]; exact ⟨rfl, rfl⟩
  case heard =>
    refine ⟨fun h hs hin hk => ?_, fun h hs hin hk => ?_, fun h hs => ?_, fun h hs => ?_, fun h hs => ?_⟩
    · rw [standing_joining h hq ht, if_pos ⟨hs, hin⟩, if_neg (by omega)]; exact ⟨rfl, rfl⟩
    · rw [standing_joining h hq ht, if_pos ⟨hs, hin⟩, if_pos hk]; exact ⟨rfl, rfl⟩
    · rw [standing_joining h hq ht, if_neg (by rintro ⟨h1, h2⟩; exact hs.elim (· h1) (by omega))]; exact ⟨rfl, rfl⟩
    · rw [standing_of_present_or_stale h hq, if_pos hs]; exact ⟨rfl, rfl⟩
    · rw [standing_of_present_or_stale h hq, if_neg hs]; exact ⟨rfl, rfl⟩
  case runs =>
    intro h
    have hc := (unheardCondition_iff (u.setRoster (u.reportedRoster n (e.report seq p u.now)))).2 h
    exact (congrArg Roster.unheardSince hr).trans (if_pos hc)
  case rests =>
    intro h
    have hc := mt (unheardCondition_iff (u.setRoster (u.reportedRoster n (e.report seq p u.now)))).1 h
    exact (congrArg Roster.unheardSince hr).trans (if_neg hc)

end Sys2Proof.Machine
end

section
/-!
PROOFS. A peer's DEMAND and NOTICE, and a frame with the own station number (O51, R112, R126, R128, R149).
-/

namespace Sys2Proof.Machine

open Sys2Proof

theorem flagByte_bit (b : Bool) : (flagByte b).getLsbD 0 = b := by cases b <;> rfl

/-- The demand that a DEMAND carries becomes the entry's latest (R128, R193). -/
theorem demandArrival_entry {n : Nat} {s : State} {e : Entry} (he : s.roster.entry? n = some e) (c : DemandContent) :
    demandArrival n c.bytes s = s.setRoster (s.roster.setEntry n
      { e with latestDemand := some ⟨BitVec.ofNat 16 c.d, c.emergency, s.now⟩ }) := by
  have hd : wordAt c.bytes 0 = BitVec.ofNat 16 c.d := wordAt_eq_of_slice rfl
  have hflag : (byteAt c.bytes 2).getLsbD 0 = c.emergency := flagByte_bit c.emergency
  unfold demandArrival
  simp only [he, hd, hflag]

/-- A NOTICE without a number of its own, or heard already, is discarded (R149). -/
theorem noticeArrival_discarded {n : Nat} {w : BitVec 16} {s : State} {e : Entry} (he : s.roster.entry? n = some e)
    (h : w = 0 ∨ e.lastNotice = some w) : noticeArrival n w s = s := by
  unfold noticeArrival
  simp only [he]
  exact if_pos h

/-- Any other NOTICE is noted, logged and raised (R149). -/
theorem noticeArrival_accepted {n : Nat} {w : BitVec 16} {s : State} {e : Entry} (he : s.roster.entry? n = some e)
    (h0 : w ≠ 0) (hlast : e.lastNotice ≠ some w) : noticeArrival n w s =
      raiseWith .peerNotice .note (some ⟨n, w.toNat⟩) (logEvent (.noticeHeard n w.toNat)
        (s.setRoster (s.roster.setEntry n { e with lastNotice := some w }))) := by
  unfold noticeArrival
  simp only [he]
  exact if_neg (not_or.2 ⟨h0, hlast⟩)

/-- A duplicate frame sets DUPLICATE and its expiry, and raises its source when DUPLICATE was clear (R126). -/
theorem duplicateArrival_eq (s : State) : duplicateArrival s =
    if s.roster.duplicate then s.setRoster { s.roster with duplicateExpiry := some (s.now + 5000#32) }
    else raiseWith .duplicateStation .note none
      (s.setRoster { s.roster with duplicate := true, duplicateExpiry := some (s.now + 5000#32) }) := by
  unfold duplicateArrival
  cases h : s.roster.duplicate with
  | true => simp only [if_true, ← h]
  | false => rfl

/-- A raising sets its own source's last occurrence time (R137). -/
theorem raiseWith_ownOccurrence (c : Source) (given : Class) (o : Option Originator) {s : State}
    (h : s.recorder.lastOccurrence.length = 12) : (raiseWith c given o s).recorder.lastOccurrenceOf c.codeNat = some s.now :=
  (raiseWith_lastOccurrenceOf c given o h (by cases c <;> decide)).trans (if_pos rfl)

/-- An event and then a raising add to the Recorder alone what a raising may (R134, R137). -/
theorem raisedFrom_logEvent_raiseWith (k : EventKind) (c : Source) (given : Class) (o : Option Originator) (s : State) :
    RaisedFrom s (raiseWith c given o (logEvent k s)) :=
  (raisedFrom_logEvent k s).trans (raisedFrom_raiseWith c given o (logEvent k s))

/-- Settles O51: the frame's dispatch, then the block that it reaches. -/
theorem demandsNoticesAndDuplicatesArrive : Obligations.DemandsNoticesAndDuplicatesArrive := by
  unfold Obligations.DemandsNoticesAndDuplicatesArrive
  rintro dt chars s u l n seq x ha hm hl hf hi hecho hwhole hu h1 h8
  have hroster : u.roster = s.roster := by subst hu; rfl
  have hrecorder : u.recorder = s.recorder := by subst hu; rfl
  have hstation : s.control.station = u.control.station := by subst hu; rfl
  rw [exec_frameComplete_good ha hm hl hf hi hecho hwhole h1 h8, ← hu, ← hroster, ← hrecorder, hstation]
  refine ⟨fun e hpeer he => ⟨?demand, ?notice⟩, fun hown => ?own⟩
  case demand =>
    rintro c rfl
    rw [dispatchFrame_peer hpeer]
    exact congrArg _ (demandArrival_entry he c)
  case notice =>
    rintro c w rfl rfl
    rw [dispatchFrame_peer hpeer]
    refine ⟨fun h => congrArg _ (noticeArrival_discarded he h), fun h0 hlast =>
      ⟨_, congrArg _ (noticeArrival_accepted he h0 hlast), rfl, fun h => ?_, raisedFrom_logEvent_raiseWith ..⟩⟩
    exact raiseWith_ownOccurrence .peerNotice .note _ h
  case own =>
    rw [dispatchFrame_own hown, duplicateArrival_eq]
    refine ⟨fun h => by rw [if_pos h],
      fun h => ⟨_, by rw [if_neg (by simp [h])], rfl, fun hlen => ?_, raisedFrom_raiseWith ..⟩⟩
    exact raiseWith_ownOccurrence .duplicateStation .note none hlen

end Sys2Proof.Machine
end

section
/-!
PROOFS. Every step keeps the Peer Roster (O10): first the entries by themselves, then what expires and what arrives, then the
own entry and the changes of mode, then all commands.
-/

namespace Sys2Proof.Machine

open Sys2Proof

/-! ### The entries -/

/-- The relations of `RosterSafe` that are about the entries alone, for a device of a station number that works or does not (R115,
R116). -/
structure Roster.EntriesSafe (station : Nat) (works : Bool) (r : Roster) : Prop where
  entries : r.entries.length = 8
  each : ∀ e ∈ r.entries, EntrySafe e
  own : ∀ e, r.entry? station = some e → e.latestDemand = none ∧ e.lastNotice = none ∧
    e.state = if works then .self else .absent
  peers : ∀ n e, n ≠ station → r.entry? n = some e → e.state ≠ .self

theorem Roster.EntriesSafe.congr {station : Nat} {works : Bool} {r r' : Roster} (h : r.EntriesSafe station works)
    (entries : r'.entries = r.entries) : r'.EntriesSafe station works := by
  have hentry : ∀ n, r'.entry? n = r.entry? n := fun n => by simp only [Roster.entry?, entries]
  constructor
  case entries => rw [entries]; exact h.entries
  case each => rw [entries]; exact h.each
  case own => rw [hentry]; exact h.own
  case peers => intro n; rw [hentry]; exact h.peers n

theorem Roster.EntriesSafe.setEntry_each {station : Nat} {works : Bool} {r : Roster} (h : r.EntriesSafe station works)
    {n : Nat} {new : Entry} (safe : EntrySafe new) : ∀ e ∈ (r.setEntry n new).entries, EntrySafe e := by
  intro e he
  rcases List.mem_or_eq_of_mem_set he with hmem | rfl
  · exact h.each e hmem
  · exact safe

/-- A peer's entry may change to any other that is not SELF (R116). -/
theorem Roster.EntriesSafe.setPeer {station : Nat} {works : Bool} {r : Roster} (h : r.EntriesSafe station works) {n : Nat}
    {e new : Entry} (he : r.entry? n = some e) (hn : n ≠ station) (safe : EntrySafe new) (peer : new.state ≠ .self) :
    (r.setEntry n new).EntriesSafe station works := by
  obtain ⟨h1, hbound, -⟩ := Roster.entry?_bound he
  constructor
  case entries => exact List.length_set.trans h.entries
  case each => exact h.setEntry_each safe
  case own => rw [Roster.setEntry_entry?_other h1 hn.symm]; exact h.own
  case peers =>
    intro m x hm hx
    by_cases hmn : m = n
    · subst hmn
      rw [Roster.setEntry_entry?_same h1 hbound] at hx
      cases hx; exact peer
    · rw [Roster.setEntry_entry?_other h1 hmn] at hx
      exact h.peers m x hm hx

/-- The own entry may change with whether the device works (R116). -/
theorem Roster.EntriesSafe.setOwn {station : Nat} {works works' : Bool} {r : Roster} (h : r.EntriesSafe station works)
    (h1 : 1 ≤ station) {new : Entry} (safe : EntrySafe new) (own : new.latestDemand = none ∧ new.lastNotice = none ∧
      new.state = if works' then .self else .absent) : (r.setEntry station new).EntriesSafe station works' := by
  constructor
  case entries => exact List.length_set.trans h.entries
  case each => exact h.setEntry_each safe
  case own =>
    intro e he
    obtain ⟨-, hbound, -⟩ := Roster.entry?_bound he
    rw [Roster.setEntry_entry?_same h1 (hbound.trans_eq List.length_set)] at he
    cases he; exact own
  case peers =>
    intro n e hn
    rw [Roster.setEntry_entry?_other h1 hn]
    exact h.peers n e hn

theorem entriesSafe_reset (station : Nat) : Roster.reset.EntriesSafe station false := by
  have hreset : ∀ n e, Roster.reset.entry? n = some e → e = Entry.reset :=
    fun n e he => List.eq_of_mem_replicate (Roster.entry?_bound he).2.2
  constructor
  case entries => rfl
  case each => exact fun e he => List.eq_of_mem_replicate he ▸ entrySafe_reset
  case own => exact fun e he => hreset station e he ▸ ⟨rfl, rfl, rfl⟩
  case peers => exact fun n e _ he => hreset n e he ▸ nofun

theorem entrySafe_ownSelf (p : ReportPayload) : EntrySafe (Entry.ownSelf p) := by
  constructor <;> simp [Entry.ownSelf, Entry.reset]

/-- Entry to SAFE changes what the own entry holds, and neither its state nor whether it holds anything (R21). -/
theorem EntrySafe.toSafe {e : Entry} (h : EntrySafe e) : EntrySafe e.toSafe := by
  obtain ⟨fields, notice⟩ := h
  refine ⟨?_, notice⟩
  simp only [Entry.toSafe]
  cases hs : e.state <;> simpa [hs] using fields

/-- A peer's latest demand and last NOTICE are free in every state, but that number 0 is no NOTICE's (R128, R149). -/
theorem EntrySafe.heardFrom {e : Entry} (h : EntrySafe e) (peer : e.state ≠ .self) (demand : Option LatestDemand)
    {notice : Option (BitVec 16)} (hn : notice ≠ some 0) :
    EntrySafe { e with latestDemand := demand, lastNotice := notice } := by
  obtain ⟨fields, -⟩ := h
  refine ⟨?_, hn⟩
  cases hs : e.state
  case self => exact absurd hs peer
  all_goals simpa [hs] using fields

/-- A REPORT leaves a peer JOINING with a count of 1 or 2, or PRESENT with a count of 3 (R117 to R119). -/
theorem standing_cases {seq : Byte} {now : Time} {e : Entry} (h : EntrySafe e) (peer : e.state ≠ .self) :
    ((e.standing seq now).1 = .joining ∧ ((e.standing seq now).2 = 1 ∨ (e.standing seq now).2 = 2)) ∨
    ((e.standing seq now).1 = .present ∧ (e.standing seq now).2 = 3) := by
  have fields := h.fields
  unfold Entry.standing
  cases hs : e.state <;> simp only [hs] at fields ⊢
  case self => exact absurd hs peer
  case joining =>
    obtain ⟨-, -, hcount, -⟩ := fields
    split
    · split
      · exact .inr ⟨rfl, rfl⟩
      · exact .inl ⟨rfl, by simp only []; omega⟩
    · exact .inl ⟨rfl, .inl rfl⟩
  case present => split <;> simp
  case stale => split <;> simp
  all_goals exact .inl ⟨trivial, .inl trivial⟩

theorem EntrySafe.report {e : Entry} (h : EntrySafe e) (peer : e.state ≠ .self) (seq : Byte) (p : ReportPayload) (now : Time) :
    EntrySafe (e.report seq p now) := by
  refine ⟨?_, h.notice⟩
  rcases standing_cases (seq := seq) (now := now) h peer with ⟨hstate, hcount⟩ | ⟨hstate, hcount⟩ <;>
    simpa [Entry.report, hstate] using hcount

theorem report_ne_self {e : Entry} (h : EntrySafe e) (peer : e.state ≠ .self) (seq : Byte) (p : ReportPayload) (now : Time) :
    (e.report seq p now).state ≠ .self := by
  rcases standing_cases (seq := seq) (now := now) h peer with ⟨hstate, -⟩ | ⟨hstate, -⟩ <;>
    simp [Entry.report, hstate]

/-- Silence changes a PRESENT, a STALE and a JOINING entry, each after its time (R120). -/
theorem silence_eq_some_iff {now : Time} {e new : Entry} : e.silence now = some new ↔
    (e.state = .present ∧ timerDue e.lastHeard 250 now = true ∧ new = { e with state := .stale }) ∨
    (e.state = .stale ∧ timerDue e.lastHeard 1000 now = true ∧
      new = { e with state := .lost, held := none, joinCount := 0 }) ∨
    (e.state = .joining ∧ timerDue e.lastHeard 1000 now = true ∧
      new = { e with state := .absent, held := none, lastSeq := none, lastHeard := none, joinCount := 0 }) := by
  unfold Entry.silence
  split <;> simp_all [eq_comm (a := new)]

theorem EntrySafe.silence {now : Time} {e new : Entry} (h : EntrySafe e) (hnew : e.silence now = some new) :
    EntrySafe new := by
  obtain ⟨fields, notice⟩ := h
  rcases silence_eq_some_iff.1 hnew with ⟨hs, -, rfl⟩ | ⟨hs, -, rfl⟩ | ⟨hs, -, rfl⟩ <;> rw [hs] at fields
  · exact ⟨fields, notice⟩
  · obtain ⟨hseq, hheard, -, -⟩ := fields
    exact ⟨⟨hseq, hheard, rfl, rfl⟩, notice⟩
  · exact ⟨⟨rfl, rfl, rfl, rfl⟩, notice⟩

/-- The own entry has no silence expiry (R116, R120). -/
theorem silence_peer {now : Time} {e new : Entry} (h : e.silence now = some new) :
    e.state ≠ .self ∧ e.state ≠ .absent ∧ new.state ≠ .self := by
  rcases silence_eq_some_iff.1 h with ⟨hs, -, rfl⟩ | ⟨hs, -, rfl⟩ | ⟨hs, -, rfl⟩ <;> simp [hs]

/-! ### The roster of a device -/

theorem RosterSafe.entriesSafe {s : State} (h : RosterSafe s) :
    s.roster.EntriesSafe s.control.station s.control.mode.working := ⟨h.entries, h.each, h.own, h.peers⟩

/-- Besides the entries the relations are about the unheard run and the duplicate episode (R125, R126). -/
theorem RosterSafe.of_entriesSafe {s : State} (entries : s.roster.EntriesSafe s.control.station s.control.mode.working)
    (unheard : s.roster.unheardSince.isSome = true → s.control.mode = .run)
    (duplicate : s.roster.duplicateExpiry.isSome = s.roster.duplicate) : RosterSafe s :=
  ⟨entries.entries, entries.each, entries.own, entries.peers, unheard, duplicate⟩

theorem RosterSafe.congr {s t : State} (h : RosterSafe s) (roster : t.roster = s.roster)
    (station : t.control.station = s.control.station) (mode : t.control.mode = s.control.mode) : RosterSafe t := by
  obtain ⟨entries, each, own, peers, unheard, duplicate⟩ := h
  rw [← roster] at entries each own peers unheard duplicate
  rw [← station] at own peers
  rw [← mode] at own unheard
  exact ⟨entries, each, own, peers, unheard, duplicate⟩

/-- A peer's entry changes and nothing else of the roster. -/
theorem RosterSafe.setPeer {s t : State} (h : RosterSafe s) {n : Nat} {e new : Entry} (he : s.roster.entry? n = some e)
    (hn : n ≠ s.control.station) (safe : EntrySafe new) (peer : new.state ≠ .self)
    (roster : t.roster = s.roster.setEntry n new) (control : t.control = s.control) : RosterSafe t := by
  apply RosterSafe.of_entriesSafe <;> simp only [roster, control]
  · exact h.entriesSafe.setPeer he hn safe peer
  · exact h.unheard
  · exact h.duplicate

theorem RosterSafe.evalUnheard {s : State} (h : RosterSafe s) : RosterSafe (evalUnheard s) := by
  refine .of_entriesSafe (h.entriesSafe.congr rfl) (fun hsince => ?_) h.duplicate
  by_cases hc : s.unheardCondition = true
  · exact ((unheardCondition_iff s).1 hc).1
  · rw [evalUnheard_roster rfl rfl rfl] at hsince
    simp [hc] at hsince

/-! ### What expires -/

theorem RosterSafe.unheardExpiry {s : State} (h : RosterSafe s) : RosterSafe (unheardExpiryEffect s) := by
  have hends (b : Bool) : RosterSafe (s.setRoster { s.roster with unheardSince := none, unheard := b }) :=
    .of_entriesSafe (h.entriesSafe.congr rfl) nofun h.duplicate
  unfold unheardExpiryEffect
  simp only []
  repeat' split
  · exact hends true
  · exact (hends true).congr (by simp) (by simp) (by simp)
  · exact h

theorem RosterSafe.duplicateExpiry {s : State} (h : RosterSafe s) : RosterSafe (duplicateExpiryEffect s) := by
  unfold duplicateExpiryEffect
  split
  · exact .of_entriesSafe (h.entriesSafe.congr rfl) h.unheard rfl
  · exact h

theorem changeEntry_roster (n : Nat) (old new : Entry) (s : State) :
    (changeEntry n old new s).roster = s.roster.setEntry n new := by
  unfold changeEntry
  simp only []
  repeat' split
  all_goals simp

theorem RosterSafe.silence {s : State} (h : RosterSafe s) (n : Nat) : RosterSafe (silenceExpiryEffect n s) := by
  unfold silenceExpiryEffect
  split
  · exact h
  split
  · exact h
  rename_i e he
  split
  · exact h
  rename_i new hnew
  obtain ⟨hself, habsent, hpeer⟩ := silence_peer hnew
  have hn : n ≠ s.control.station := by
    rintro rfl
    obtain ⟨-, -, hstate⟩ := h.own e he
    split at hstate
    · exact hself hstate
    · exact habsent hstate
  have hsafe := (h.each e (Roster.entry?_bound he).2.2).silence hnew
  exact (h.setPeer he hn hsafe hpeer (changeEntry_roster n e new s) (by simp)).evalUnheard

/-! ### What arrives -/

theorem RosterSafe.duplicateArrival {s : State} (h : RosterSafe s) : RosterSafe (duplicateArrival s) := by
  have hset (x : Time) : RosterSafe (s.setRoster { s.roster with duplicate := true, duplicateExpiry := some x }) :=
    .of_entriesSafe (h.entriesSafe.congr rfl) h.unheard rfl
  unfold Machine.duplicateArrival
  simp only []
  split
  · exact hset _
  · exact (hset (s.now + 5000#32)).congr (by simp) (by simp) (by simp)

/-- UNHEARD itself is free (R124). -/
theorem RosterSafe.clearUnheard {s : State} (h : RosterSafe s) (e : Entry) :
    RosterSafe (s.setRoster (clearUnheard s.control.station e s.roster)) := by
  rw [clearUnheard_eq]
  exact .of_entriesSafe (h.entriesSafe.congr rfl) h.unheard h.duplicate

theorem RosterSafe.reportArrival {s : State} (h : RosterSafe s) {n : Nat} (hn : n ≠ s.control.station) (seq : Byte)
    (p : ReportPayload) : RosterSafe (reportArrival n seq p s) := by
  unfold Machine.reportArrival
  split
  · exact h
  rename_i e he
  have hsafe := h.each e (Roster.entry?_bound he).2.2
  have hpeer := h.peers n e hn he
  have hchanged : RosterSafe (changeEntry n e (e.report seq p s.now) s) :=
    h.setPeer he hn (hsafe.report hpeer seq p s.now) (report_ne_self hsafe hpeer seq p s.now) (changeEntry_roster ..) (by simp)
  exact (hchanged.clearUnheard (e.report seq p s.now)).evalUnheard

theorem RosterSafe.demandArrival {s : State} (h : RosterSafe s) {n : Nat} (hn : n ≠ s.control.station) (payload : List Byte) :
    RosterSafe (demandArrival n payload s) := by
  unfold Machine.demandArrival
  split
  · exact h
  rename_i e he
  have hsafe := h.each e (Roster.entry?_bound he).2.2
  have hpeer := h.peers n e hn he
  have hnew := hsafe.heardFrom hpeer (some ⟨wordAt payload 0, (byteAt payload 2).getLsbD 0, s.now⟩) hsafe.notice
  exact h.setPeer he hn hnew hpeer rfl rfl

theorem RosterSafe.noticeArrival {s : State} (h : RosterSafe s) {n : Nat} (hn : n ≠ s.control.station) (number : BitVec 16) :
    RosterSafe (noticeArrival n number s) := by
  unfold Machine.noticeArrival
  split
  · exact h
  rename_i e he
  split
  · exact h
  rename_i hgood
  rw [not_or] at hgood
  simp only []
  have hsafe := h.each e (Roster.entry?_bound he).2.2
  have hpeer := h.peers n e hn he
  have hnotice : some number ≠ some 0 := fun heq => hgood.1 (Option.some.inj heq)
  exact h.setPeer he hn (hsafe.heardFrom hpeer e.latestDemand hnotice) hpeer (by simp) (by simp)

theorem RosterSafe.dispatch {s : State} (h : RosterSafe s) (f : ReceivedFrame) : RosterSafe (dispatchFrame f s) := by
  unfold dispatchFrame
  split
  · exact h.duplicateArrival
  rename_i hn
  split
  · exact h.reportArrival hn _ _
  · exact h.demandArrival hn _
  · exact h.noticeArrival hn _

theorem RosterSafe.frameComplete {s : State} (h : RosterSafe s) (chars : List Byte) :
    RosterSafe (frameCompleteEffect chars s) := by
  have hline : ∀ l, RosterSafe (s.setLine l) := fun l => h.congr rfl rfl rfl
  unfold frameCompleteEffect frameCompleted
  simp only []
  repeat' split
  · exact h
  · exact hline _
  · exact hline _
  · exact (hline _).dispatch _
  · exact hline _

/-! ### The own entry -/

/-- A blend computation falls in RUN alone, where it refreshes the SELF entry (R21, R39). -/
theorem RosterSafe.blendComputation {s : State} (h : RosterSafe s) (h1 : 1 ≤ s.control.station)
    (timer : s.blend.timer.isSome = decide (s.control.mode = .run)) : RosterSafe (blendEffect s) := by
  by_cases due : timerDue s.blend.timer 20 s.now = true
  · have hrun : s.control.mode = .run := of_decide_eq_true (timer ▸ isSome_of_timerDue due)
    have hcontrol : (blendEffect s).control = s.control := by simp
    apply RosterSafe.of_entriesSafe <;> simp only [blendEffect_roster due, hcontrol]
    · exact h.entriesSafe.setOwn h1 (entrySafe_ownSelf _) ⟨rfl, rfl, by rw [hrun]; rfl⟩
    · exact h.unheard
    · exact h.duplicate
  · rw [blendEffect, if_neg due]; exact h

/-- Entry to SAFE keeps the SELF entry and ends the unheard run (R21, R125). -/
theorem RosterSafe.enterSafe {s : State} (h : RosterSafe s) (works : s.control.mode.working = true)
    (h1 : 1 ≤ s.control.station) : RosterSafe (enterSafe s) := by
  have hentries : (ownToSafe s).roster.EntriesSafe s.control.station true := by
    have hsafe := works ▸ h.entriesSafe
    unfold ownToSafe
    split
    · exact hsafe
    · rename_i e he
      exact hsafe.setOwn h1 (h.each e (Roster.entry?_bound he).2.2).toSafe (hsafe.own e he)
  have hduplicate : (ownToSafe s).roster.duplicateExpiry = s.roster.duplicateExpiry ∧
      (ownToSafe s).roster.duplicate = s.roster.duplicate := by
    unfold ownToSafe; split <;> exact ⟨rfl, rfl⟩
  apply RosterSafe.of_entriesSafe <;> rw [enterSafe_roster]
  · rw [enterSafe_control]; exact hentries.congr rfl
  · exact nofun
  · exact hduplicate.1 ▸ hduplicate.2 ▸ h.duplicate

theorem RosterSafe.powerFail {s : State} (h : RosterSafe s) (works : s.control.mode.working = true)
    (h1 : 1 ≤ s.control.station) : RosterSafe (powerFail s) :=
  (h.enterSafe works h1).congr (by simp [Machine.powerFail]) (by simp) (by simp)

/-- A warning that stands at an entry to RUN leads on to SAFE (R185). -/
theorem RosterSafe.warningAtEntry {s : State} (h : RosterSafe s) (works : s.control.mode.working = true)
    (h1 : 1 ≤ s.control.station) : RosterSafe (warningAtEntry s) := by
  unfold Machine.warningAtEntry
  split
  · exact RosterSafe.powerFail (h.congr rfl rfl rfl) works h1
  · exact h

/-- Entry to RUN, from INIT or CONFIG with the own entry made SELF, or back from SAFE (R116, R185, R187). -/
theorem RosterSafe.enterRun {s : State} (h : RosterSafe s) (h1 : 1 ≤ s.control.station) {fresh : Bool}
    (kind : fresh = true ∨ s.control.mode = .safe) : RosterSafe (enterRun fresh s) := by
  generalize ht : (if fresh = true then startWork (changeMode .run s) else changeMode .run s) = t
  have hcontrol : t.control.mode = .run ∧ t.control.station = s.control.station := by
    subst ht; split <;> simp
  obtain ⟨hmode, hstation⟩ := hcontrol
  have hduplicate : t.roster.duplicateExpiry = s.roster.duplicateExpiry ∧ t.roster.duplicate = s.roster.duplicate := by
    subst ht; split <;> simp [startWork_blocks, Roster.setEntry]
  have hentries : t.roster.EntriesSafe s.control.station true := by
    subst ht
    split
    · simp only [startWork_blocks, changeMode_frame, changeMode_control]
      exact h.entriesSafe.setOwn h1 (entrySafe_ownSelf _) ⟨rfl, rfl, rfl⟩
    · rename_i hf
      simpa [kind.resolve_left hf, Mode.working] using h.entriesSafe
  have hrun : RosterSafe (runOutputs t) := by
    apply RosterSafe.of_entriesSafe <;> rw [runOutputs_roster]
    · simp only [runOutputs_frame, hmode, hstation]; exact hentries.congr rfl
    · simp [hmode]
    · exact hduplicate.1 ▸ hduplicate.2 ▸ h.duplicate
  have heq : Machine.enterRun fresh s = Machine.warningAtEntry (runOutputs t) := by subst ht; rfl
  rw [heq]
  exact hrun.warningAtEntry (by simp [hmode, Mode.working]) (by simpa [hstation] using h1)

/-! ### The commands that change the mode -/

theorem RosterSafe.warningAsserted {s : State} (h : RosterSafe s) (h1 : 1 ≤ s.control.station) :
    RosterSafe (warningAssertedEffect s) := by
  have hs : RosterSafe (s.setControl { s.control with warning := true, releaseTimer := none }) := h.congr rfl rfl rfl
  unfold warningAssertedEffect
  simp only []
  split
  · rename_i hm; exact hs.powerFail (by rw [hm]; rfl) h1
  · exact hs

theorem RosterSafe.recheck {s : State} (h : RosterSafe s) (h1 : 1 ≤ s.control.station) : RosterSafe (recheckEffect s) := by
  unfold recheckEffect
  simp only []
  repeat' split
  · exact h.congr rfl rfl rfl
  · rename_i hm
    exact RosterSafe.enterSafe (h.congr rfl rfl rfl) (by rw [hm]; rfl) h1
  · exact h.congr rfl rfl rfl
  · exact h

theorem RosterSafe.releaseTimer {s : State} (h : RosterSafe s) (h1 : 1 ≤ s.control.station) :
    RosterSafe (releaseTimerEffect s) := by
  have hs : RosterSafe (s.setControl { s.control with releaseTimer := none }) := h.congr rfl rfl rfl
  unfold releaseTimerEffect
  simp only []
  split
  · rename_i hm
    repeat' split
    · exact hs
    · exact hs.enterRun h1 (.inr hm.1)
    · exact hs.congr rfl rfl rfl
  · exact h

theorem settled_station (cut : MarkReading) (s : State) : (s.settled cut).control.station = s.control.station := by
  simp only [State.settled, beginCommit_frame, State.setRecorder_control]
  unfold settleRecord
  repeat' split
  all_goals rfl

/-- Between INIT and CONFIG the own entry stays ABSENT (R116). -/
theorem RosterSafe.toConfig {s : State} (h : RosterSafe s) (hm : s.control.mode = .init) :
    RosterSafe (changeMode .config s) := by
  apply RosterSafe.of_entriesSafe <;> simp only [changeMode_frame, changeMode_control]
  · simpa [hm, Mode.working] using h.entriesSafe
  · exact fun hsince => nomatch hm.symm.trans (h.unheard hsince)
  · exact h.duplicate

theorem RosterSafe.scanEnd {s : State} (h : RosterSafe s) (h1 : 1 ≤ s.control.station) (cut : MarkReading) :
    RosterSafe (scanEndEffect cut s) := by
  have hmode : (s.settled cut).control.mode = s.control.mode := by simp [State.settled, settleRecord_mode]
  have hstation := settled_station cut s
  have hs : RosterSafe (s.settled cut) := h.congr (by simp [State.settled]) hstation hmode
  rw [scanEndEffect_eq]
  split
  · rename_i hinit
    split
    · exact hs.enterRun (hstation ▸ h1) (.inl rfl)
    · exact hs.toConfig (hmode.trans hinit.1)
  · exact h

theorem RosterSafe.answerStart {s : State} (h : RosterSafe s) (h1 : 1 ≤ s.control.station) : RosterSafe (answerStart s) := by
  unfold Machine.answerStart
  split
  · rename_i l _ _
    have hs : RosterSafe (activate l s) := h.congr (by simp) rfl rfl
    exact RosterSafe.congr (hs.enterRun (fresh := true) h1 (.inl rfl)) (by simp) (by simp) (by simp)
  · exact h.congr (by simp) (by simp) (by simp)

theorem RosterSafe.start {s : State} (h : RosterSafe s) (h1 : 1 ≤ s.control.station) (params : List Byte) :
    RosterSafe (startEffect params s) := by
  unfold startEffect takeCommand withLength
  repeat' split
  · exact RosterSafe.answerStart (h.congr rfl rfl rfl) h1
  · exact h.congr (by simp) (by simp) (by simp)
  · exact h

theorem RosterSafe.resetReleased {s : State} (h : RosterSafe s) (powerOn : Bool) (levels : ReleaseLevels) :
    RosterSafe (resetReleased powerOn levels s) := by
  unfold Machine.resetReleased
  repeat' split
  · exact h
  · exact .of_entriesSafe (entriesSafe_reset _) nofun rfl
  · exact .of_entriesSafe (entriesSafe_reset _) nofun rfl

theorem loadConfigEffect_station (params : List Byte) (s : State) :
    (loadConfigEffect params s).control.station = s.control.station := by
  simp only [loadConfigEffect, takeCommand, withLength, answerLoadConfig, loadRecord]
  repeat' split
  all_goals simp

/-- The answer UNKNOWN changes the port alone (R171). -/
theorem takeCommand_unknown_roster (code : Byte) (params : List Byte) (s : State) :
    (takeCommand code params (refuse .unknown) s).roster = s.roster := by
  unfold takeCommand; split <;> simp

/-- An unknown code leaves the roster, and a code that is known has its command's effect (R171). -/
theorem RosterSafe.unknownCommand {s : State} (h : RosterSafe s) (h1 : 1 ≤ s.control.station) (code : Byte)
    (params : List Byte) : RosterSafe (unknownCommandEffect code params s) := by
  unfold unknownCommandEffect
  split
  case h_3 => exact h.congr (by simp) (loadConfigEffect_station params s) (loadConfigEffect_mode params s)
  case h_4 => exact h.start h1 params
  case h_13 =>
    obtain ⟨-, hcontrol⟩ := takeCommand_unknown code params s
    exact h.congr (takeCommand_unknown_roster code params s) (by rw [hcontrol]) (by rw [hcontrol])
  all_goals exact h.congr (by simp) (by simp) (by simp)

/-! ### All commands -/

/-- The commands that may change the roster, the station number or the mode. -/
def movesRoster : Instr → Bool
  | .powerOnResetRelease _ _ => true
  | .hardResetRelease _ _ => true
  | .scanEnd _ _ => true
  | .powerFailWarningAsserted _ => true
  | .releaseTimerExpiry _ => true
  | .configurationRecheck _ => true
  | .blendComputation _ => true
  | .frameComplete _ _ => true
  | .silenceExpiry _ _ => true
  | .unheardExpiry _ => true
  | .duplicateExpiry _ => true
  | .unknownCommand _ _ _ => true
  | .start _ _ => true
  | _ => false

/-- Every other command leaves all three. -/
theorem effectOf_keeps_roster {c : Instr} (hc : movesRoster c = false) (s : State) :
    (effectOf c s).roster = s.roster ∧ (effectOf c s).control.station = s.control.station ∧
    (effectOf c s).control.mode = s.control.mode := by
  cases c
  case loadConfig => exact ⟨by simp [effectOf], loadConfigEffect_station _ s, loadConfigEffect_mode _ s⟩
  case resetAsserted => exact ⟨by simp [effectOf], rfl, rfl⟩
  all_goals first | (cases hc; done) | simp [effectOf, warningDeassertedEffect]

theorem RosterSafe.effectOf {s : State} (h : RosterSafe s) (hmode : ModeSafe s) (houtput : OutputSafe s) (c : Instr) :
    RosterSafe (effectOf c s) := by
  have h1 := hmode.station.1
  cases hc : movesRoster c with
  | false =>
    obtain ⟨hroster, hstation, hmode⟩ := effectOf_keeps_roster hc s
    exact h.congr hroster hstation hmode
  | true =>
    cases c with
    | powerOnResetRelease dt levels =>
      have hs : RosterSafe (s.setPins { s.pins with powerOnReset := false }) := h.congr rfl rfl rfl
      exact hs.resetReleased true levels
    | hardResetRelease dt levels =>
      have hs : RosterSafe (s.setPins { s.pins with hardReset := false }) := h.congr rfl rfl rfl
      exact hs.resetReleased false levels
    | scanEnd dt cut => exact h.scanEnd h1 cut
    | powerFailWarningAsserted dt => exact h.warningAsserted h1
    | releaseTimerExpiry dt => exact h.releaseTimer h1
    | configurationRecheck dt => exact h.recheck h1
    | blendComputation dt => exact h.blendComputation h1 houtput.blendTimer
    | frameComplete dt chars => exact h.frameComplete chars
    | silenceExpiry dt n => exact h.silence n
    | unheardExpiry dt => exact h.unheardExpiry
    | duplicateExpiry dt => exact h.duplicateExpiry
    | unknownCommand dt code params => exact h.unknownCommand h1 code params
    | start dt params => exact h.start h1 params
    | _ => cases hc

theorem RosterSafe.advance {s : State} (h : RosterSafe s) (dt : Passage) : RosterSafe (s.advance dt) :=
  h.congr (by simp) (by simp) (by simp)

/-- Settles O10: a step is a passage and at most one command's effect, and both keep the relations. -/
theorem rosterEntriesMatchTheirStates : Obligations.RosterEntriesMatchTheirStates := by
  unfold Obligations.RosterEntriesMatchTheirStates
  intro s t hs hstep
  have h := hs.roster
  unfold step at hstep
  split at hstep
  · cases hstep; exact h.advance _
  · rename_i c rest _
    have hrest : RosterSafe (s.setPending rest) := h.congr rfl rfl rfl
    have hout : OutputSafe (s.setPending rest) := hs.output.congr rfl rfl rfl (.inl rfl)
    rcases exec_cases hstep with ⟨rfl, -⟩ | ⟨rfl, -⟩
    · exact (hrest.advance _).effectOf (hs.mode.congr (by simp)) (hout.advance _) _
    · exact hrest.advance _

end Sys2Proof.Machine
end

section
/-!
PROOFS. The expiries of the Peer Roster (O52): silence (R120, R121), the unheard run (R123) and DUPLICATE (R126).
-/

namespace Sys2Proof.Machine

open Sys2Proof

/-! ### Silence -/

/-- An entry that is not PRESENT, STALE or JOINING has no silence expiry, and the others none before their time (R120). -/
theorem silence_eq_none {now : Time} {e : Entry} (h : e.state = .absent ∨ e.state = .lost ∨ e.state = .self ∨
    (e.state = .present ∧ timerDue e.lastHeard 250 now = false) ∨
    ((e.state = .stale ∨ e.state = .joining) ∧ timerDue e.lastHeard 1000 now = false)) : e.silence now = none := by
  rw [Option.eq_none_iff_forall_ne_some]
  intro new hnew
  rcases silence_eq_some_iff.1 hnew with ⟨hs, due, -⟩ | ⟨hs, due, -⟩ | ⟨hs, due, -⟩ <;> simp [hs, due] at h

/-- A silence expiry changes the state, and makes a STALE entry LOST and no other (R120). -/
theorem silence_state {now : Time} {e new : Entry} (h : e.silence now = some new) :
    e.state ≠ new.state ∧ (new.state = .lost ↔ e.state = .stale) := by
  rcases silence_eq_some_iff.1 h with ⟨hs, -, rfl⟩ | ⟨hs, -, rfl⟩ | ⟨hs, -, rfl⟩ <;> simp [hs]

theorem silenceExpiryEffect_due {n : Nat} {s : State} {e new : Entry} (hm : s.control.mode ≠ .init)
    (he : s.roster.entry? n = some e) (hnew : e.silence s.now = some new) :
    silenceExpiryEffect n s = evalUnheard (changeEntry n e new s) := by
  rw [silenceExpiryEffect, if_neg hm]
  simp only [he, hnew]

theorem silenceExpiryEffect_none {n : Nat} {s : State} (h : s.control.mode = .init ∨ s.roster.entry? n = none ∨
    ∃ e, s.roster.entry? n = some e ∧ e.silence s.now = none) : silenceExpiryEffect n s = s := by
  unfold silenceExpiryEffect
  rcases h with hm | he | ⟨e, he, hnone⟩
  · rw [if_pos hm]
  · simp only [he, ite_self]
  · simp only [he, hnone, ite_self]

/-! ### The record of a change -/

/-- What a raising may change, it may change under another roster. -/
theorem RaisedFrom.setRoster {s t : State} (h : RaisedFrom s t) (r : Roster) : RaisedFrom (s.setRoster r) (t.setRoster r) := by
  obtain ⟨recorder, store, ns, es, rfl, rest⟩ := h
  exact ⟨recorder, store, ns, es, rfl, rest⟩

/-- A change of state is logged, and LOST raises PEER_LOST (R121). -/
theorem changeEntry_of_ne {n : Nat} {old new : Entry} (h : old.state ≠ new.state) (s : State) : changeEntry n old new s =
    if new.state = .lost then
      raise .peerLost (logEvent (.peerState n old.state new.state) (s.setRoster (s.roster.setEntry n new)))
    else logEvent (.peerState n old.state new.state) (s.setRoster (s.roster.setEntry n new)) := if_neg h

theorem raisedFrom_changeEntry {n : Nat} {old new : Entry} (h : old.state ≠ new.state) (s : State) :
    RaisedFrom (s.setRoster (s.roster.setEntry n new)) (changeEntry n old new s) := by
  have hlogged := raisedFrom_logEvent (.peerState n old.state new.state) (s.setRoster (s.roster.setEntry n new))
  rw [changeEntry_of_ne h]
  split
  · exact hlogged.trans (raisedFrom_raiseWith ..)
  · exact hlogged

/-- The change stands in the event ring, PEER_LOST's own event behind it (R121, R134). -/
theorem changeEntry_logged {n : Nat} {old new : Entry} (h : old.state ≠ new.state) (s : State) :
    ⟨s.now, .peerState n old.state new.state⟩ ∈ (changeEntry n old new s).recorder.events := by
  have hlogged := logged_logEvent (.peerState n old.state new.state) (s.setRoster (s.roster.setEntry n new))
  rw [changeEntry_of_ne h]
  split
  · obtain ⟨es, hmerges, hraised⟩ :=
      raise_logged .peerLost (logEvent (.peerState n old.state new.state) (s.setRoster (s.roster.setEntry n new)))
    have hlen := hmerges.length
    exact (hlogged.trans hraised).mem (by simp; omega) (List.mem_append_left es (List.mem_singleton_self _))
  · exact hlogged.mem (by simp) (List.mem_singleton_self _)

/-- PEER_LOST occurs at a change to LOST and at no other (R121, R137). -/
theorem changeEntry_peerLost {n : Nat} {old new : Entry} (h : old.state ≠ new.state) {s : State}
    (hl : s.recorder.lastOccurrence.length = 12) : (changeEntry n old new s).recorder.lastOccurrenceOf 3 =
      if new.state = .lost then some s.now else s.recorder.lastOccurrenceOf 3 := by
  rw [changeEntry_of_ne h]
  split
  · exact raiseWith_ownOccurrence .peerLost .note none hl
  · rfl

/-- The roster after a changed entry, under the unheard condition that it leaves (R121, R123). -/
theorem evalUnheard_changeEntry_roster (n : Nat) (old new : Entry) (s : State) :
    (evalUnheard (changeEntry n old new s)).roster = { s.roster.setEntry n new with
      unheardSince := if (evalUnheard (changeEntry n old new s)).unheardCondition
        then some (s.roster.unheardSince.getD s.now) else none } := by
  have hroster := changeEntry_roster n old new s
  have hnow : (changeEntry n old new s).now = s.now := now_congr (by simp)
  generalize changeEntry n old new s = u at hroster hnow ⊢
  have hcondition : (evalUnheard u).unheardCondition = u.unheardCondition := unheardCondition_congr rfl rfl
  rw [hcondition, evalUnheard_roster rfl rfl rfl, hroster, hnow]
  rfl

/-! ### The unheard run and DUPLICATE -/

theorem unheardExpiryEffect_due {s : State} (hm : s.control.mode = .run)
    (due : timerDue s.roster.unheardSince 1000 s.now = true) : unheardExpiryEffect s =
      if s.roster.unheard then s.setRoster { s.roster with unheardSince := none }
      else raise .unheard (s.setRoster { s.roster with unheardSince := none, unheard := true }) := by
  rw [unheardExpiryEffect, if_pos ⟨hm, due⟩]
  cases h : s.roster.unheard with
  | true => simp only [if_true, ← h]
  | false => rfl

/-- DUPLICATE is due 5000 ms after the arrival that set its expiry (R126). -/
theorem duplicateDue_eq {s : State} {x : Time} (h : s.roster.duplicateExpiry = some x) :
    s.duplicateDue = decide (5000 ≤ elapsed (x - 5000#32) s.now) := by
  rw [State.duplicateDue, h]; rfl

/-- Settles O52: each expiry by whether it is due, and the change that a silence expiry makes by what it logs and raises. -/
theorem silenceUnheardAndDuplicateExpire : Obligations.SilenceUnheardAndDuplicateExpire := by
  unfold Obligations.SilenceUnheardAndDuplicateExpire
  rintro dt n s _ ha rfl
  have hsilence : exec (.silenceExpiry dt n) s = .next (silenceExpiryEffect n (s.advance dt)) := exec_accepted ha
  have hunheard : exec (.unheardExpiry dt) s = .next (unheardExpiryEffect (s.advance dt)) := exec_accepted ha
  have hduplicate : exec (.duplicateExpiry dt) s = .next (duplicateExpiryEffect (s.advance dt)) := exec_accepted ha
  rw [hsilence, hunheard, hduplicate]
  refine ⟨fun e he hm => ⟨fun new hcases => ?changes, fun h => ?stays⟩, fun h => ?nothing, fun h => ?early,
    fun hm due => ⟨fun h => ?again, fun h => ?first⟩, fun h => ?noDuplicate, fun x hx => ⟨fun h => ?duplicate, fun h => ?clears⟩⟩
  case changes =>
    have hnew := silence_eq_some_iff.2 hcases
    obtain ⟨hne, hlost⟩ := silence_state hnew
    obtain ⟨h1, hbound, -⟩ := Roster.entry?_bound he
    have hroster := evalUnheard_changeEntry_roster n e new (s.advance dt)
    refine ⟨_, congrArg _ (silenceExpiryEffect_due hm he hnew), ?entry, fun m hother => ?others, ?_, ?_, ?_,
      congrArg Roster.unheardSince hroster, changeEntry_logged hne _, fun hl => ?peerLost,
      (raisedFrom_changeEntry hne _).setRoster _⟩
    case entry => rw [hroster]; exact Roster.setEntry_entry?_same h1 hbound
    case others => rw [hroster]; exact Roster.setEntry_entry?_other h1 hother
    case peerLost => simpa only [evalUnheard_frame, advance_frame, hlost] using changeEntry_peerLost hne (s := s.advance dt) hl
    all_goals rw [hroster]; rfl
  case stays => exact congrArg _ (silenceExpiryEffect_none (.inr (.inr ⟨e, he, silence_eq_none h⟩)))
  case nothing => exact congrArg _ (silenceExpiryEffect_none (h.imp_right .inl))
  case early =>
    refine congrArg _ (if_neg ?_)
    rintro ⟨hm, due⟩
    exact h.elim (· hm) fun hnot => nomatch hnot.symm.trans due
  case again => exact congrArg _ ((unheardExpiryEffect_due (s := s.advance dt) hm due).trans (if_pos h))
  case first =>
    have heq : unheardExpiryEffect (s.advance dt) = raise .unheard
        ((s.advance dt).setRoster { s.roster with unheardSince := none, unheard := true }) :=
      (unheardExpiryEffect_due (s := s.advance dt) hm due).trans (if_neg (by simp [h]))
    refine ⟨_, congrArg _ heq, by simp, fun hl => ?_, raisedFrom_raiseWith ..⟩
    exact raiseWith_ownOccurrence .unheard .note none hl
  case noDuplicate =>
    refine congrArg _ (if_neg ?_)
    simp [State.duplicateDue, timerDue, h]
  case duplicate =>
    refine congrArg _ (if_neg ?_)
    rw [duplicateDue_eq (s := s.advance dt) hx]; simpa using h
  case clears =>
    refine congrArg _ (if_pos ?_)
    rw [duplicateDue_eq (s := s.advance dt) hx]; simpa using h

end Sys2Proof.Machine
end

section
/-!
PROOFS. The slot that a WRITE takes (R158, R159): the lowest FREE one, else the lowest DAMAGED one, else the oldest STORED one, and
where a commit finds one (O56).
-/

namespace Sys2Proof.Machine

open Sys2Proof

/-! ### The lowest slot in a state -/

theorem mem_numbered {st : Store} {x : Slot} {n : Nat} : (x, n) ∈ st.numbered ↔ st.slot? n = some x := by
  rw [Store.numbered, List.mk_mem_zipIdx_iff_le_and_getElem?_sub, Store.slot?_eq_some]

/-- The slots stand in the order of their numbers. -/
theorem numbered_pairwise (st : Store) : st.numbered.Pairwise fun a b => a.2 < b.2 := by
  rw [← List.pairwise_map, Store.numbered, List.zipIdx_map_snd]
  exact List.pairwise_lt_range'

theorem lowest_eq_none_iff {st : Store} {want : SlotState} :
    st.lowest want = none ↔ ∀ n x, st.slot? n = some x → x.state ≠ want := by
  simp only [Store.lowest, Option.map_eq_none_iff, List.find?_eq_none, Prod.forall, mem_numbered, beq_iff_eq]
  exact ⟨fun h n x => h x n, fun h x n => h n x⟩

theorem slot?_of_lowest {st : Store} {want : SlotState} {n : Nat} (h : st.lowest want = some n) :
    ∃ x, st.slot? n = some x ∧ x.state = want := by
  obtain ⟨⟨x, m⟩, hfind, rfl⟩ := Option.map_eq_some_iff.1 h
  exact ⟨x, mem_numbered.1 (List.mem_of_find?_eq_some hfind), by simpa using List.find?_some hfind⟩

theorem lowest_eq_some {st : Store} {n : Nat} {x : Slot} (hx : st.slot? n = some x)
    (lower : ∀ m y, m < n → st.slot? m = some y → y.state ≠ x.state) : st.lowest x.state = some n := by
  obtain ⟨h1, hget⟩ := Store.slot?_eq_some.1 hx
  obtain ⟨hlen, hget⟩ := List.getElem?_eq_some_iff.1 hget
  rw [Store.lowest, Option.map_eq_some_iff]
  refine ⟨(x, n), List.find?_eq_some_iff_getElem.2 ⟨by simp, n - 1, by simpa [Store.numbered] using hlen, ?_, ?_⟩, rfl⟩
  · simp [Store.numbered, hget]; omega
  · intro j hj
    have hy : st.slot? (j + 1) = some st.slots[j] := by simp [Store.slot?]
    simpa [Store.numbered] using lower (j + 1) _ (by omega) hy

/-! ### The oldest STORED slot -/

/-- Of numbered slots, `best` is the number and the distance of the oldest, the lowest-numbered of those at one distance (R159). -/
structure Store.Oldest (st : Store) (l : List (Slot × Nat)) (best : Nat × Nat) : Prop where
  found : ∃ x, (x, best.1) ∈ l ∧ distanceBehind st.nextNumber x.number = best.2
  oldest : ∀ y m, (y, m) ∈ l → distanceBehind st.nextNumber y.number < best.2 ∨
    (distanceBehind st.nextNumber y.number = best.2 ∧ best.1 ≤ m)

theorem oldest_foldl_pick {st : Store} {l : List (Slot × Nat)} (sorted : l.Pairwise fun a b => a.2 < b.2) (hne : l ≠ []) :
    ∃ best, l.foldl (Store.oldestStored.pick st) none = some best ∧ st.Oldest l best := by
  induction l using List.reverseRecOn with
  | nil => exact absurd rfl hne
  | append_singleton l c ih =>
    obtain ⟨sorted, -, later⟩ := List.pairwise_append.1 sorted
    rw [List.foldl_append]
    rcases List.eq_nil_or_concat l with rfl | ⟨l', b', rfl⟩
    · refine ⟨_, rfl, ⟨c.1, by simp, rfl⟩, fun y m hm => ?_⟩
      cases List.mem_singleton.1 hm; simp
    obtain ⟨best, hbest, ⟨x, hx, hd⟩, hold⟩ := ih sorted (by simp)
    have hbehind := later _ hx c (by simp)
    simp only [hbest, List.foldl_cons, List.foldl_nil, Store.oldestStored.pick]
    by_cases hlt : best.2 < distanceBehind st.nextNumber c.1.number
    · rw [if_pos hlt]
      refine ⟨_, rfl, ⟨c.1, by simp, rfl⟩, fun y m hm => ?_⟩
      rcases List.mem_append.1 hm with hm | hm
      · have := hold y m hm; dsimp only; omega
      · cases List.mem_singleton.1 hm; simp
    · rw [if_neg hlt]
      refine ⟨_, rfl, ⟨x, List.mem_append_left _ hx, hd⟩, fun y m hm => ?_⟩
      rcases List.mem_append.1 hm with hm | hm
      · exact hold y m hm
      · cases List.mem_singleton.1 hm; dsimp only at hbehind hlt; omega

theorem mem_stored {st : Store} {x : Slot} {n : Nat} : (x, n) ∈ (st.numbered.filter fun (x, _) => x.state == .stored) ↔
    st.slot? n = some x ∧ x.state = .stored := by
  simp [List.mem_filter, mem_numbered]

/-- With a STORED slot there is an oldest one. -/
theorem oldestStored_spec {st : Store} {n : Nat} {x : Slot} (hx : st.slot? n = some x) (hs : x.state = .stored) :
    ∃ best, st.oldestStored = some best.1 ∧ st.Oldest (st.numbered.filter fun (x, _) => x.state == .stored) best := by
  obtain ⟨best, hbest, hold⟩ := oldest_foldl_pick (st := st) ((numbered_pairwise st).filter _)
    (List.ne_nil_of_mem (mem_stored.2 ⟨hx, hs⟩))
  exact ⟨best, by rw [Store.oldestStored, hbest]; rfl, hold⟩

theorem oldestStored_eq_none {st : Store} (h : ∀ n x, st.slot? n = some x → x.state ≠ .stored) : st.oldestStored = none := by
  have : (st.numbered.filter fun (x, _) => x.state == .stored) = [] := by
    rw [List.eq_nil_iff_forall_not_mem]
    rintro ⟨x, n⟩ hm
    obtain ⟨hx, hs⟩ := mem_stored.1 hm
    exact h n x hx hs
  rw [Store.oldestStored, this]; rfl

theorem oldestStored_eq_some {st : Store} {n : Nat} {x : Slot} (hx : st.slot? n = some x) (hs : x.state = .stored)
    (older : ∀ m y, st.slot? m = some y → y.state = .stored → m ≠ n →
      distanceBehind st.nextNumber y.number < distanceBehind st.nextNumber x.number ∨
        (n < m ∧ distanceBehind st.nextNumber y.number = distanceBehind st.nextNumber x.number)) :
    st.oldestStored = some n := by
  obtain ⟨⟨m, d⟩, hbest, ⟨y, hy, rfl⟩, hold⟩ := oldestStored_spec hx hs
  obtain ⟨hy, hys⟩ := mem_stored.1 hy
  suffices m = n by rw [hbest, this]
  by_contra hne
  have hxold := hold x n (mem_stored.2 ⟨hx, hs⟩)
  have hyold := older m y hy hys hne
  dsimp only at hxold
  omega

/-! ### The slot chosen -/

/-- The states from which a WRITE takes a slot (R159). -/
def Slot.writable (x : Slot) : Bool := x.state == .free || x.state == .damaged || x.state == .stored

theorem writable_iff {x : Slot} : x.writable = true ↔ x.state = .free ∨ x.state = .damaged ∨ x.state = .stored := by
  simp [Slot.writable, or_assoc]

/-- The slot chosen exists, and it is FREE, DAMAGED or STORED (R159). -/
theorem slot?_of_chooseSlot {st : Store} {n : Nat} (h : st.chooseSlot = some n) :
    ∃ x, st.slot? n = some x ∧ x.writable = true := by
  rw [Store.chooseSlot, Option.or_eq_some_iff, Option.or_eq_some_iff] at h
  rcases h with h | ⟨-, h | ⟨-, h⟩⟩
  · obtain ⟨x, hx, hs⟩ := slot?_of_lowest h
    exact ⟨x, hx, writable_iff.2 (.inl hs)⟩
  · obtain ⟨x, hx, hs⟩ := slot?_of_lowest h
    exact ⟨x, hx, writable_iff.2 (.inr (.inl hs))⟩
  · by_cases hs : ∃ m y, st.slot? m = some y ∧ y.state = .stored
    · obtain ⟨m, y, hy, hs⟩ := hs
      obtain ⟨best, hbest, ⟨x, hx, -⟩, -⟩ := oldestStored_spec hy hs
      obtain ⟨hx, hxs⟩ := mem_stored.1 hx
      obtain rfl : best.1 = n := Option.some.inj (hbest.symm.trans h)
      exact ⟨x, hx, writable_iff.2 (.inr (.inr hxs))⟩
    · rw [oldestStored_eq_none fun m y hy hs' => hs ⟨m, y, hy, hs'⟩] at h
      cases h

/-- Where a slot can be written, one is chosen. -/
theorem exists_chooseSlot {st : Store} {m : Nat} {y : Slot} (hy : st.slot? m = some y) (hw : y.writable = true) :
    ∃ n, st.chooseSlot = some n := by
  rw [← Option.ne_none_iff_exists']
  intro h
  obtain ⟨hfree, h⟩ := Option.or_eq_none_iff.1 h
  obtain ⟨hdamaged, hstored⟩ := Option.or_eq_none_iff.1 h
  rcases writable_iff.1 hw with hs | hs | hs
  · exact lowest_eq_none_iff.1 hfree m y hy hs
  · exact lowest_eq_none_iff.1 hdamaged m y hy hs
  · obtain ⟨best, hbest, -⟩ := oldestStored_spec hy hs
    rw [hstored] at hbest; cases hbest

/-- Sixteen slots, at most 12 of them LOCKED and none at work, leave four to write. -/
theorem four_le_countP_writable {st : Store} (hl : st.slots.length = 16) (hlocked : st.lockedCount ≤ 12)
    (idle : ∀ x ∈ st.slots, x.state ≠ .writing ∧ x.state ≠ .erasing) : 4 ≤ st.slots.countP Slot.writable := by
  have hsplit := List.length_eq_countP_add_countP Slot.writable (l := st.slots)
  have hrest : st.slots.countP (fun x => decide ¬x.writable = true) ≤ st.lockedCount := by
    refine List.countP_mono_left fun x hx hw => ?_
    have := idle x hx
    cases hs : x.state <;> simp_all [Slot.writable]
  omega

theorem chooseSlot_of_lockedCount {st : Store} (hl : st.slots.length = 16) (hlocked : st.lockedCount ≤ 12)
    (idle : ∀ x ∈ st.slots, x.state ≠ .writing ∧ x.state ≠ .erasing) : ∃ n, st.chooseSlot = some n := by
  have hcount := four_le_countP_writable hl hlocked idle
  obtain ⟨x, hx, hw⟩ := List.countP_pos_iff.1 (by omega : 0 < st.slots.countP Slot.writable)
  obtain ⟨i, hi⟩ := List.mem_iff_getElem?.1 hx
  exact exists_chooseSlot (m := i + 1) (by simpa [Store.slot?] using hi) hw

/-- The distance behind the next incident number, counted on the cycle of 65535 numbers (R159). -/
theorem distanceBehind_eq {n : Nat} (h1 : 1 ≤ n) (h2 : n ≤ 65535) (next : Nat) :
    (distanceBehind next n : Int) = ((next : Int) - n - 1) % 65535 + 1 := by
  unfold distanceBehind; omega

/-! ### The commit -/

theorem beginCommit_eq_self {s : State}
    (h : s.recorder.capture ≠ .committing ∨ s.recorder.image = none ∨ s.store.op ≠ .none) : beginCommit s = s := by
  unfold beginCommit
  split
  · rename_i hc hi ho; simp [hc, hi, ho] at h
  · rfl

theorem beginCommit_eq {s : State} {img : Image} {n : Nat} (hc : s.recorder.capture = .committing)
    (hi : s.recorder.image = some img) (ho : s.store.op = .none) (hn : s.store.chooseSlot = some n) :
    beginCommit s = s.setStore (s.store.beginWrite n img) := by
  simp [beginCommit, hc, hi, ho, hn]

theorem beginWrite_op (st : Store) (n : Nat) (img : Image) : ∃ l r, (st.beginWrite n img).op = .write n l r := ⟨_, _, rfl⟩

/-- A slot begins its WRITE under the number assigned (R158). -/
theorem beginWrite_slot? {st : Store} {n : Nat} (hn : st.chooseSlot = some n) (img : Image) :
    (st.beginWrite n img).slot? n = some (Slot.beginWrite (st.assigned img)) := by
  obtain ⟨x, hx, -⟩ := slot?_of_chooseSlot hn
  obtain ⟨h1, hx⟩ := Store.slot?_eq_some.1 hx
  obtain ⟨hlen, -⟩ := List.getElem?_eq_some_iff.1 hx
  exact Store.setSlot_slot?_same h1 (by omega)

/-- Settles O56: the three clauses of R159 are the three alternatives of `chooseSlot`. -/
theorem writeTakesFreeThenDamagedThenOldest : Obligations.WriteTakesFreeThenDamagedThenOldest := by
  unfold Obligations.WriteTakesFreeThenDamagedThenOldest
  intro s
  refine ⟨beginCommit_eq_self, fun hc hi ho hl hlocked idle => ⟨?four, ?finds⟩, ?chosen⟩
  case four => exact four_le_countP_writable hl hlocked idle
  case finds =>
    obtain ⟨img, hi⟩ := Option.isSome_iff_exists.1 hi
    obtain ⟨n, hn⟩ := chooseSlot_of_lockedCount hl hlocked idle
    obtain ⟨x, hx, hw⟩ := slot?_of_chooseSlot hn
    obtain ⟨l, r, hop⟩ := beginWrite_op s.store n img
    exact ⟨n, x, l, r, hx, writable_iff.1 hw, by rw [beginCommit_eq hc hi ho hn]; exact hop⟩
  case chosen =>
    rintro img n x number distance hc hi ho hx rfl hdistance h
    have hn : s.store.chooseSlot = some n := by
      rw [Store.chooseSlot]
      rcases h with ⟨hs, lower⟩ | ⟨hs, free, lower⟩ | ⟨hs, neither, numbers, older⟩
      · rw [← hs] at lower ⊢
        rw [lowest_eq_some hx lower]; rfl
      · rw [lowest_eq_none_iff.2 free]
        rw [← hs] at lower ⊢
        rw [lowest_eq_some hx lower]; rfl
      · rw [lowest_eq_none_iff.2 fun m y hy => (neither m y hy).1, lowest_eq_none_iff.2 fun m y hy => (neither m y hy).2]
        have hbehind : ∀ m y, s.store.slot? m = some y → y.state = .stored →
            distanceBehind s.store.nextNumber y.number = distance y := by
          intro m y hy hys
          obtain ⟨hd, hhd, h1, h2⟩ := numbers m y hy hys
          have hnumber : y.number = hd.number := by rw [Slot.number, hhd]
          rw [hnumber]
          exact Int.ofNat.inj ((distanceBehind_eq h1 h2 _).trans (hdistance y hd hhd h1 h2).symm)
        refine oldestStored_eq_some hx hs fun m y hy hys hm => ?_
        rw [hbehind m y hy hys, hbehind n x hx hs]
        exact older m y hy hys hm
    rw [beginCommit_eq hc hi ho hn]
    have hlock : (img.cls == .severe && decide (s.store.lockedCount < 12)) =
        decide (img.cls = .severe ∧ s.store.lockedCount < 12) := by simp [Bool.beq_eq_decide_eq]
    have hrefused : (img.cls == .severe && !decide (s.store.lockedCount < 12)) =
        decide (img.cls = .severe ∧ 12 ≤ s.store.lockedCount) := by
      simp [Bool.beq_eq_decide_eq, ← decide_not]
    simp only [Store.beginWrite, hlock, hrefused]
    rfl

end Sys2Proof.Machine
end

section
/-!
PROOFS. Raising and firing: the trigger table (O54), and what a firing does by the capture state (O55).
-/

namespace Sys2Proof.Machine

open Sys2Proof

/-! ### Raising by the trigger table -/

/-- A source other than POWER and MANUAL fires when its row is enabled and its qualifier has occurred (R137). -/
theorem fires_by_row {c : Source} {s : State} (hw : s.control.mode.working = true) (hp : c ≠ .power) (hm : c ≠ .manual) :
    s.fires c = true ↔ (s.params.trigger c).enabled = 1 ∧ (s.params.trigger c).qualified s.recorder s.now = true := by
  have hmode : (s.control.mode == .run || s.control.mode == .safe) = true := by
    cases h : s.control.mode <;> simp_all [Mode.working]
  simp [State.fires, hmode, hp, hm]

/-- Outside RUN and SAFE nothing fires (R137). -/
theorem fires_outside (c : Source) {s : State} (hw : s.control.mode.working = false) : s.fires c = false := by
  cases h : s.control.mode <;> simp_all [State.fires, Mode.working]

/-- In RUN and SAFE, POWER and MANUAL fire whatever the trigger table says (R136, R137). -/
theorem fires_always {c : Source} {s : State} (hw : s.control.mode.working = true) (hc : c = .power ∨ c = .manual) :
    s.fires c = true := by
  cases h : s.control.mode <;> rcases hc with rfl | rfl <;> simp_all [State.fires, Mode.working]

theorem qualified_iff {t : TriggerEntry} {r : Recorder} {now : Time} : t.qualified r now = true ↔
    t.qualifier = 0 ∨ ∃ since, r.lastOccurrenceOf t.qualifier = some since ∧ elapsed since now ≤ t.window * 1000 := by
  unfold TriggerEntry.qualified
  split
  · simp [*]
  · split <;> simp [*]

/-- The Recorder once a raising has set its source's last occurrence time (R136). -/
def State.occurred (c : Source) (s : State) : State := s.setRecorder { s.recorder with
  lastOccurrence := s.recorder.lastOccurrence.set (c.codeNat - 1) (some s.now) }

theorem raiseWith_fires {c : Source} {s : State} (h : (s.occurred c).fires c = true) (g : Machine.Class) (o : Option Originator) :
    raiseWith c g o s = fire ⟨c, s.classOf c g, s.now, o, 0, c == .power⟩ (s.occurred c) := if_pos h

theorem raiseWith_quiet {c : Source} {s : State} (h : (s.occurred c).fires c ≠ true) (g : Machine.Class) (o : Option Originator) :
    raiseWith c g o s = s.occurred c := if_neg h

theorem classOf_by_row {c : Source} (hp : c ≠ .power) (hm : c ≠ .manual) (g : Machine.Class) (s : State) :
    s.classOf c g = if (s.params.trigger c).cls = 1 then .severe else .note := by
  cases c <;> first | rfl | contradiction

/-- Settles O54: whether a raising fires, by the mode, the source and its row. -/
theorem raisingFiresByTheTriggerTable : Obligations.RaisingFiresByTheTriggerTable := by
  unfold Obligations.RaisingFiresByTheTriggerTable
  rintro c g o s _ _ rfl rfl
  refine ⟨fun hw => raiseWith_quiet (Bool.eq_false_iff.1 (fires_outside c (s := s.occurred c) hw)) g o,
    fun hw => ⟨?power, ?manual, fun hp hm => ?row⟩⟩
  case power => rintro rfl; exact raiseWith_fires (fires_always hw (.inl rfl)) g o
  case manual => rintro rfl; exact raiseWith_fires (fires_always hw (.inr rfl)) g o
  case row =>
    have hfires := fires_by_row (c := c) (s := s.occurred c) hw hp hm
    rw [qualified_iff] at hfires
    refine ⟨fun h => raiseWith_quiet (fun hf => h (hfires.1 hf).1) g o, fun hq h => raiseWith_quiet (fun hf => ?_) g o,
      fun since hq h late => raiseWith_quiet (fun hf => ?_) g o, fun he h => ?_⟩
    · obtain ⟨-, h0 | ⟨since, hsince, -⟩⟩ := hfires.1 hf
      · exact hq h0
      · exact nomatch h.symm.trans hsince
    · obtain ⟨-, h0 | ⟨x, hx, intime⟩⟩ := hfires.1 hf
      · exact hq h0
      · obtain rfl : since = x := Option.some.inj (h.symm.trans hx)
        exact absurd intime (Nat.not_le.2 late)
    · have hnot : (c == Source.power) = false := by simpa using hp
      rw [raiseWith_fires (hfires.2 ⟨he, h⟩), classOf_by_row hp hm, hnot]
      rfl

/-! ### The NOTICE of an image -/

/-- Whether a NOTICE is enqueued for the image (R140). -/
def Image.offers (img : Image) : Bool := img.cls == .severe && img.owesNotice

theorem Image.offers_iff {img : Image} :
    img.offers = true ↔ img.cls = .severe ∧ img.cause ≠ .peerNotice ∧ img.noticeEnqueued = false := by
  simp [Image.offers, Image.owesNotice_iff]

/-- Whether the Line Controller accepts a NOTICE (R104, R113). -/
def State.noticeRoom (s : State) : Bool := decide (s.control.mode = .run ∧ s.line.queue.notices.length < 2)

theorem enqueueNotice_accepted {s : State} (h : s.noticeRoom = true) (c : NoticeContent) : enqueueNotice c s =
    s.setLine (s.line.withQueue { s.line.queue with notices := s.line.queue.notices ++ [c] }) := if_pos (of_decide_eq_true h)

theorem enqueueNotice_refused {s : State} (h : s.noticeRoom = false) (c : NoticeContent) :
    enqueueNotice c s = noticeReturned c.number s := if_neg (of_decide_eq_false h)

/-- The image once its NOTICE has been offered: handed over, and come back as not sent where there is no room (R140). -/
def Image.handed (room : Bool) (img : Image) : Image := { img with
  noticeEnqueued := img.noticeEnqueued || img.offers
  flags := { img.flags with noticeNotSent := img.flags.noticeNotSent || (img.offers && !room) } }

/-- The line once the image's NOTICE has been offered. -/
def LineController.offered (room : Bool) (img : Image) (l : LineController) : LineController :=
  if img.offers && room then
    { l with queue := { l.queue with notices := l.queue.notices ++ [⟨img.number, img.cause, img.cls⟩] } }
  else l

theorem offerNotice_eq {s : State} {img : Image} (h : s.recorder.image = some img) : offerNotice s =
    (s.setRecorder { s.recorder with image := some (img.handed s.noticeRoom) }).setLine (s.line.offered s.noticeRoom img) := by
  cases ho : img.offers with
  | false =>
    have himg : img.handed s.noticeRoom = img := by simp [Image.handed, ho]
    have hline : s.line.offered s.noticeRoom img = s.line := by simp [LineController.offered, ho]
    have hsame : { s.recorder with image := some img } = s.recorder := by rw [← h]
    have hnot : ¬(img.cls = .severe ∧ img.cause ≠ .peerNotice ∧ img.noticeEnqueued = false) :=
      fun hx => by rw [Image.offers_iff.2 hx] at ho; cases ho
    rw [himg, hline, hsame]
    simp only [offerNotice, h, if_neg hnot]
    rfl
  | true =>
    simp only [offerNotice, h, if_pos (Image.offers_iff.1 ho)]
    cases hroom : s.noticeRoom with
    | true =>
      refine (enqueueNotice_accepted (s := s.setRecorder { s.recorder with
        image := some { img with noticeEnqueued := true } }) hroom _).trans ?_
      simp [Image.handed, LineController.offered, ho, LineController.withQueue]
    | false =>
      refine (enqueueNotice_refused (s := s.setRecorder { s.recorder with
        image := some { img with noticeEnqueued := true } }) hroom _).trans ?_
      simp [Image.handed, LineController.offered, ho, noticeReturned, Recorder.noticeReturned]
      rfl

/-! ### Opening, merging, waiting -/

/-- The capture state that a firing leaves after an opening, or while FILLING (R139, R144). -/
def Pending.window (f : Pending) : CaptureState := if f.power then .committing else .filling

/-- The Recorder at an opening (R139). -/
def State.openedRecorder (f : Pending) (s : State) : Recorder := { s.recorder with
  lastOpened := s.store.nextNumber, capture := f.window, image := some ((s.openedImage f).handed s.noticeRoom) }

theorem openIncident_eq (f : Pending) (s : State) : openIncident f s =
    beginCommit ((s.setRecorder (s.openedRecorder f)).setLine (s.line.offered s.noticeRoom (s.openedImage f))) := by
  rw [openIncident, offerNotice_eq rfl]
  rfl

theorem fire_idle {f : Pending} {s : State} (hc : s.recorder.capture = .idle) : fire f s = openIncident f s := by
  simp [fire, hc]

/-- The image after a firing merged, before POWER ends the window (R142, R143). -/
def Image.merged (f : Pending) (now : Time) (img : Image) : Image :=
  (img.offer ⟨now, .secondaryTrigger f.cause f.cls⟩).merge f.cls

/-- The Recorder after a firing while FILLING (R142 to R144). -/
def State.mergedRecorder (f : Pending) (img : Image) (s : State) : Recorder :=
  let img := (img.merged f s.now).handed s.noticeRoom
  { s.recorder with
    events := pushRing 32 ⟨s.now, .secondaryTrigger f.cause f.cls⟩ s.recorder.events
    capture := f.window
    image := some { img with flags := { img.flags with power := img.flags.power || f.power } } }

theorem mergeIntoImage_eq {f : Pending} {s : State} {img : Image} (hc : s.recorder.capture = .filling)
    (hi : s.recorder.image = some img) : mergeIntoImage f s =
      (s.setRecorder { s.recorder with
        events := pushRing 32 ⟨s.now, .secondaryTrigger f.cause f.cls⟩ s.recorder.events
        image := some ((img.merged f s.now).handed s.noticeRoom) }).setLine
      (s.line.offered s.noticeRoom (img.merged f s.now)) := by
  have himg : (logEvent (.secondaryTrigger f.cause f.cls) s).recorder.image.map (Image.merge f.cls) =
      some (img.merged f s.now) := by
    simp [logEvent, Recorder.log, hc, hi, Image.merged]
  rw [mergeIntoImage, himg, offerNotice_eq rfl]
  rfl

theorem fire_filling {f : Pending} {s : State} {img : Image} (hc : s.recorder.capture = .filling)
    (hi : s.recorder.image = some img) : fire f s =
      beginCommit ((s.setRecorder (s.mergedRecorder f img)).setLine (s.line.offered s.noticeRoom (img.merged f s.now))) := by
  rw [fire, hc]
  simp only []
  rw [mergeIntoImage_eq hc hi]
  cases hp : f.power with
  | true => simp [endFillingOnPower, State.mergedRecorder, Pending.window, hp]; rfl
  | false =>
    rw [beginCommit_eq_self (.inl (by simp [State.mergedRecorder, Pending.window, hp]))]
    simp [State.mergedRecorder, Pending.window, hp, hc]

theorem fire_committing {f : Pending} {s : State} (hc : s.recorder.capture = .committing) : fire f s = holdFiring f s := by
  simp [fire, hc]

/-- An offered event, while FILLING (R142). -/
theorem Image.offer_eq (e : Event) (img : Image) : img.offer e = { img with
    events := if img.events.length < 48 then img.events ++ [e] else img.events
    flags := { img.flags with eventsTruncated := img.flags.eventsTruncated || decide (48 ≤ img.events.length) } } := by
  unfold Image.offer
  split <;> rename_i h
  · simp [Nat.not_le.2 h]
  · simp [Nat.not_lt.1 h]

/-- Settles O55: by the capture state, each firing's whole next state. -/
theorem firingOpensMergesOrWaits : Obligations.FiringOpensMergesOrWaits := by
  unfold Obligations.FiringOpensMergesOrWaits
  rintro f s room hroom
  replace hroom : s.noticeRoom = room := hroom.symm
  refine ⟨fun hc severe t hsevere ht => ?idle, fun hc img cls count severe r t hi hcls hcount hsevere hr ht => ?filling,
    fun hc => ⟨fun hp => ?waits, fun p hp => ?joins⟩⟩
  case idle =>
    have hoffers : (s.openedImage f).offers = severe := by
      rw [hsevere, Bool.eq_iff_iff, Image.offers_iff]; simp [State.openedImage]
    have hopened : (s.setRecorder (s.openedRecorder f)).setLine (s.line.offered s.noticeRoom (s.openedImage f)) = t := by
      rw [ht]
      simp only [State.openedRecorder, LineController.offered, Image.handed, hroom, hoffers]
      simp [State.openedImage, IncidentFlags.opening, Pending.window]
    rw [fire_idle hc, openIncident_eq, hopened]
    refine ⟨fun hp => beginCommit_eq_self (.inl ?_), fun _ => rfl⟩
    rw [ht]; simp [hp]
  case filling =>
    have hmax : img.cls.max f.cls = cls := hcls.symm
    have hoffers : (img.merged f s.now).offers = severe := by
      rw [hsevere, Bool.eq_iff_iff, Image.offers_iff]; simp [Image.merged, Image.merge, Image.offer_eq, hmax]
    have hmerged : (s.setRecorder (s.mergedRecorder f img)).setLine (s.line.offered s.noticeRoom (img.merged f s.now)) = t := by
      rw [ht, hr, hcount]
      simp only [State.mergedRecorder, LineController.offered, Image.handed, hroom, hoffers]
      simp [Image.merged, Image.merge, Image.offer_eq, Pending.window, hmax]
    rw [fire_filling hc hi, hmerged]
    refine ⟨fun hp => beginCommit_eq_self (.inl ?_), fun _ => rfl⟩
    rw [ht, hr]; simp [hp]
  case waits => rw [fire_committing hc, holdFiring, hp]
  case joins => rw [fire_committing hc, holdFiring, hp]; simp [logEvent, Recorder.log, hc, Pending.merge, Class.max]

end Sys2Proof.Machine
end

section
/-!
PROOFS. The snapshot (O53) and the completions of the store's operations (O57).
-/

namespace Sys2Proof.Machine

open Sys2Proof

/-! ### The snapshot -/

theorem exec_snapshot {dt : Passage} {s : State} (ha : Accepts s) :
    exec (.snapshot dt) s = .next (snapshotEffect (s.advance dt)) := exec_accepted ha

theorem snapshotEffect_early {s : State} (h : timerDue s.recorder.snapshotTimer 100 s.now = false) : snapshotEffect s = s := by
  rw [snapshotEffect, h]; rfl

/-- The Recorder after a snapshot that a FILLING image does not take (R132). -/
def State.snapped (s : State) : Recorder := { s.recorder with
  history := pushRing 64 s.takeSnapshot s.recorder.history, snapshotTimer := timerNext s.recorder.snapshotTimer 100 }

theorem snapshotEffect_outside {s : State} (due : timerDue s.recorder.snapshotTimer 100 s.now = true)
    (hc : s.recorder.capture ≠ .filling) : snapshotEffect s = s.setRecorder s.snapped := by
  have hadd : s.recorder.addSnapshot s.takeSnapshot =
      { s.recorder with history := pushRing 64 s.takeSnapshot s.recorder.history } := by
    unfold Recorder.addSnapshot
    cases h : s.recorder.capture <;> simp_all
  have hsame : becameCommitting s.recorder.capture s.recorder.capture = false := by
    cases s.recorder.capture <;> rfl
  rw [snapshotEffect, if_pos due, hadd]
  exact if_neg (Bool.eq_false_iff.1 hsame)

/-- While FILLING the image takes the snapshot too, and the 32nd ends the window (R141, R145). -/
theorem snapshotEffect_filling {s : State} {img : Image} (due : timerDue s.recorder.snapshotTimer 100 s.now = true)
    (hc : s.recorder.capture = .filling) (hi : s.recorder.image = some img) : snapshotEffect s =
      if 32 ≤ img.post.length + 1 then
        beginCommit (s.setRecorder { s.snapped with capture := .committing, image := some (img.addPost s.takeSnapshot) })
      else s.setRecorder { s.snapped with image := some (img.addPost s.takeSnapshot) } := by
  have hfull : (img.addPost s.takeSnapshot).full = decide (32 ≤ img.post.length + 1) := by
    simp [Image.full, Image.addPost]
  rw [snapshotEffect, if_pos due]
  simp only [Recorder.addSnapshot, hc, hi, hfull, State.setRecorder_recorder, State.snapped]
  by_cases h : 32 ≤ img.post.length + 1 <;> simp [h, becameCommitting]

/-- Settles O53: the snapshot field by field, and the Recorder by the capture state. -/
theorem snapshotFillsHistoryAndImage : Obligations.SnapshotFillsHistoryAndImage := by
  unfold Obligations.SnapshotFillsHistoryAndImage
  intro dt s ha
  rw [exec_snapshot ha]
  refine ⟨fun early => congrArg _ (snapshotEffect_early early), fun due hl => ?_⟩
  refine ⟨(s.advance dt).takeSnapshot, (s.advance dt).snapped, rfl, rfl, rfl, rfl, rfl, rfl, rfl, rfl, rfl, rfl, rfl, rfl, rfl,
    rfl, rfl, rfl, rfl, rfl, rfl, fun n e hn he => ⟨Roster.maskOf_bit hl hn he, Roster.maskOf_bit hl hn he⟩, rfl,
    fun hc => congrArg _ (snapshotEffect_outside due hc), fun img hc hi => ?_⟩
  have heffect := snapshotEffect_filling (s := s.advance dt) due hc hi
  exact ⟨fun h => congrArg _ (heffect.trans (if_neg (by omega))), fun h => congrArg _ (heffect.trans (if_pos h))⟩

/-! ### The completions -/

@[simp] theorem xorBytes_nil (bs : List Byte) : xorBytes bs [] = bs := by cases bs <;> rfl

/-- A completed WRITE, with the slot as it reads back (R145, R148, R160). -/
theorem writeCompleteEffect_eq {rb : ReadBack} {s : State} {n : Nat} {lock refused : Bool} {img : Image} {x : Slot}
    (ho : s.store.op = .write n lock refused) (hi : s.recorder.image = some img) (hx : s.store.slot? n = some x) :
    writeCompleteEffect rb s = openPending s.recorder.pendingTrigger
      ((s.setStore { s.store with
          slots := s.store.slots.set (n - 1) (Slot.written img x.writing lock refused rb), op := .none
          lastResult := some ⟨.write, n, readBackMatched rb⟩ }).setRecorder s.recorder.writeDone) := by
  simp only [writeCompleteEffect, ho, hi, hx]
  rfl

theorem writeCompleteEffect_other {rb : ReadBack} {s : State} (h : ∀ n l r, s.store.op ≠ .write n l r) :
    writeCompleteEffect rb s = s := by
  unfold writeCompleteEffect
  split
  · rename_i ho _; exact absurd ho (h _ _ _)
  · rfl

theorem eraseCompleteEffect_eq {clear : Bool} {s : State} {n : Nat} (ho : s.store.op = .erase n) :
    eraseCompleteEffect clear s = beginCommit (s.setStore { s.store with
      slots := s.store.slots.set (n - 1) (Slot.erased clear), op := .none, lastResult := some ⟨.erase, n, clear⟩ }) := by
  rw [eraseCompleteEffect, ho]; rfl

theorem eraseCompleteEffect_other {clear : Bool} {s : State} (h : ∀ n, s.store.op ≠ .erase n) :
    eraseCompleteEffect clear s = s := by
  unfold eraseCompleteEffect
  split
  · rename_i ho; exact absurd ho (h _)
  · rfl

theorem lockCompleteEffect_eq {m : MarkReading} {s : State} {n : Nat} {x : Slot} (ho : s.store.op = .lock n)
    (hx : s.store.slot? n = some x) : lockCompleteEffect m s = beginCommit (s.setStore { s.store with
      slots := s.store.slots.set (n - 1) (x.marked m), op := .none, lastResult := some ⟨.lock, n, m == .locked⟩ }) := by
  simp only [lockCompleteEffect, ho, Store.markSlot, hx]; rfl

theorem lockCompleteEffect_other {m : MarkReading} {s : State} (h : ∀ n, s.store.op ≠ .lock n) :
    lockCompleteEffect m s = s := by
  unfold lockCompleteEffect
  split
  · rename_i ho; exact absurd ho (h _)
  · rfl

theorem unlockCompleteEffect_eq {m : MarkReading} {s : State} {n : Nat} {x : Slot} (ho : s.store.op = .unlock n)
    (hx : s.store.slot? n = some x) : unlockCompleteEffect m s = beginCommit (s.setStore { s.store with
      slots := s.store.slots.set (n - 1) (x.marked m), op := .none, lastResult := some ⟨.unlock, n, m == .unlocked⟩ }) := by
  simp only [unlockCompleteEffect, ho, Store.markSlot, hx]; rfl

theorem unlockCompleteEffect_other {m : MarkReading} {s : State} (h : ∀ n, s.store.op ≠ .unlock n) :
    unlockCompleteEffect m s = s := by
  unfold unlockCompleteEffect
  split
  · rename_i ho; exact absurd ho (h _)
  · rfl

/-- Settles O57: each completion on its own operation, and on any other. -/
theorem completionsLeaveTheSlotAsReadBack : Obligations.CompletionsLeaveTheSlotAsReadBack := by
  unfold Obligations.CompletionsLeaveTheSlotAsReadBack
  intro dt rb clear m s ha
  have hwrite : exec (.writeComplete dt rb) s = .next (writeCompleteEffect rb (s.advance dt)) := exec_accepted ha
  have herase : exec (.eraseComplete dt clear) s = .next (eraseCompleteEffect clear (s.advance dt)) := exec_accepted ha
  have hlock : exec (.lockComplete dt m) s = .next (lockCompleteEffect m (s.advance dt)) := exec_accepted ha
  have hunlock : exec (.unlockComplete dt m) s = .next (unlockCompleteEffect m (s.advance dt)) := exec_accepted ha
  rw [hwrite, herase, hlock, hunlock]
  refine ⟨fun n lock refused img x ok ho hi hx hok => ?write, fun n ho => ?erase, fun n x hx => ⟨fun ho => ?lock, fun ho => ?unlock⟩,
    fun h => congrArg _ (writeCompleteEffect_other h), fun h => congrArg _ (eraseCompleteEffect_other h),
    fun h => congrArg _ (lockCompleteEffect_other h), fun h => congrArg _ (unlockCompleteEffect_other h)⟩
  case write =>
    have hmatched : readBackMatched rb = ok := by rw [hok]; cases rb <;> rfl
    have heffect := writeCompleteEffect_eq (rb := rb) (s := s.advance dt) ho hi hx
    refine ⟨Slot.written img x.writing lock refused rb, _, rfl, rfl, rfl, ?header, fun h => ?items, rfl, fun hp => ?idle,
      fun p hp => ?opens⟩
    case header => rw [← hmatched]; rfl
    case items =>
      obtain rfl : rb = .matched := by simpa [h] using hok
      simp [Slot.written, readBackDiff, snapshotsBytes, eventsBytes]
    case idle =>
      rw [heffect, hmatched]
      exact congrArg _ (congrArg (openPending · _) hp)
    case opens =>
      rw [heffect, hmatched, fire_idle rfl]
      exact congrArg _ (congrArg (openPending · _) hp)
  case erase =>
    exact ⟨Slot.erased clear, by rintro rfl; exact ⟨rfl, rfl⟩, by rintro rfl; rfl, by cases clear <;> rfl, by cases clear <;> rfl,
      congrArg _ (eraseCompleteEffect_eq (s := s.advance dt) ho)⟩
  case lock => rw [lockCompleteEffect_eq (s := s.advance dt) ho hx, Bool.beq_eq_decide_eq]; rfl
  case unlock => rw [unlockCompleteEffect_eq (s := s.advance dt) ho hx, Bool.beq_eq_decide_eq]; rfl

end Sys2Proof.Machine
end

section
/-!
PROOFS. What the Recorder and the Store Controller keep, once for all commands: a relation that the operations keep of which the
commands' effects are made (`CaptureInvariant`) is kept by every command but the resets, the end of the scan, the snapshot and the
completions.
-/

namespace Sys2Proof.Machine

open Sys2Proof

/-! ### The operations -/

/-- `t` is as `s` in all that the capture and the store rest on: both blocks, the mode, and whether a reset is asserted. -/
structure SameCapture (s t : State) : Prop where
  recorder : t.recorder = s.recorder
  store : t.store = s.store
  mode : t.control.mode = s.control.mode
  held : t.heldInReset = s.heldInReset

theorem SameCapture.of_blocks {s t : State} (recorder : t.recorder = s.recorder) (store : t.store = s.store)
    (control : t.control = s.control) (pins : t.pins = s.pins) : SameCapture s t :=
  ⟨recorder, store, congrArg _ control, heldInReset_congr pins⟩

theorem SameCapture.trans {s t u : State} (h : SameCapture s t) (k : SameCapture t u) : SameCapture s u :=
  ⟨k.recorder.trans h.recorder, k.store.trans h.store, k.mode.trans h.mode, k.held.trans h.held⟩

/-- `t` is `s` in another mode than INIT, the snapshot timer as that mode has it (R132). -/
structure ModeMoved (s t : State) : Prop where
  started : s.control.mode ≠ .init ∧ t.control.mode ≠ .init
  recorder : t.recorder = { s.recorder with snapshotTimer := t.recorder.snapshotTimer }
  timer : t.recorder.snapshotTimer.isSome = t.control.mode.working
  store : t.store = s.store
  held : t.heldInReset = s.heldInReset

/-- A relation that every operation keeps which the commands' effects have in common: changes of other blocks and pins, a raising, a
logged event, a NOTICE returned as not sent, a service request accepted by the store, and a change of mode out of INIT. -/
structure CaptureInvariant (P : State → Prop) : Prop where
  same : ∀ {s t}, P s → SameCapture s t → P t
  raised : ∀ {s} c g o, P s → P (raiseWith c g o s)
  logged : ∀ {s} k, P s → P (logEvent k s)
  returned : ∀ {s} n, P s → P (noticeReturned n s)
  begun : ∀ {s kind n maintenance}, P s → s.store.requestResult kind n maintenance = .ok →
    P (s.setStore (s.store.begin kind n))
  moved : ∀ {s t}, P s → ModeMoved s t → P t

namespace CaptureInvariant

variable {P : State → Prop} (hP : CaptureInvariant P) {s : State} (h : P s)
include hP h

theorem raise (c : Source) : P (raise c s) := hP.raised c _ _ h

theorem setDemand (v : DemandUnit) : P (s.setDemand v) := hP.same h ⟨rfl, rfl, rfl, rfl⟩
theorem setBlend (v : BlendUnit) : P (s.setBlend v) := hP.same h ⟨rfl, rfl, rfl, rfl⟩
theorem setSpeed (v : SpeedUnit) : P (s.setSpeed v) := hP.same h ⟨rfl, rfl, rfl, rfl⟩
theorem setSlide (v : SlideUnit) : P (s.setSlide v) := hP.same h ⟨rfl, rfl, rfl, rfl⟩
theorem setOutput (v : OutputStage) : P (s.setOutput v) := hP.same h ⟨rfl, rfl, rfl, rfl⟩
theorem setLine (v : LineController) : P (s.setLine v) := hP.same h ⟨rfl, rfl, rfl, rfl⟩
theorem setRoster (v : Roster) : P (s.setRoster v) := hP.same h ⟨rfl, rfl, rfl, rfl⟩
theorem setPort (v : ServicePort) : P (s.setPort v) := hP.same h ⟨rfl, rfl, rfl, rfl⟩

/-! ### The commands that raise sources -/

theorem conflictEpisode (src : List DemandSource) : P (conflictEpisode src s) := by
  unfold Machine.conflictEpisode
  repeat' split
  · exact h
  · exact hP.raise (hP.setDemand h _) _
  · exact hP.setDemand h _

theorem lossEpisode : P (lossEpisode s) := by
  rw [lossEpisode_eq]
  split
  · exact hP.raise (hP.setDemand h _) _
  · exact hP.setDemand h _

theorem emergencyStep (src : List DemandSource) : P (emergencyStep src s) := by
  rw [emergencyStep_eq]
  repeat' split
  · exact hP.raise (hP.logged _ (hP.setDemand h _)) _
  · exact hP.logged _ (hP.setDemand h _)
  · exact hP.setDemand h _

theorem logDemand (src : List DemandSource) : P (logDemand src s) := by
  unfold Machine.logDemand
  split
  · exact hP.logged _ (hP.setDemand h _)
  · exact h

theorem demandFromSources (src : List DemandSource) : P (demandFromSources src s) := by
  have hformed : P (formDemand src s) := hP.setDemand h _
  exact hP.logDemand (hP.emergencyStep (hP.lossEpisode (hP.conflictEpisode hformed src)) src) src

theorem demandSample (raw : BitVec 10) (cab he tl : Bool) : P (demandSampleEffect raw cab he tl s) := by
  unfold demandSampleEffect
  split
  · have hread : P (demandRead raw cab he tl s) := hP.same h ⟨rfl, rfl, rfl, rfl⟩
    exact hP.demandFromSources (hP.same hread (.of_blocks (by simp) (by simp) (by simp) (by simp))) _
  · exact h

theorem evaluateTruck (n : Nat) : P (evaluateTruck n s) := by
  have hmoved : P (s.movedTruck n) := by
    unfold State.movedTruck
    simp only []
    split
    · exact hP.logged _ (hP.setSlide h _)
    · exact hP.setSlide h _
  rw [evaluateTruck_eq]
  split
  · exact hP.setSlide (hP.raise (hP.logged (.slide n .lockout) hmoved) .slideLockout) _
  · exact hmoved

theorem speedSweep : P (speedSweepEffect s) := by
  unfold speedSweepEffect slideEvaluation
  simp only []
  repeat' split
  · exact hP.setOutput (hP.evaluateTruck (hP.evaluateTruck (hP.setSpeed h _) 1) 2) _
  · exact hP.setSpeed h _
  · exact h

theorem blendComputation : P (blendEffect s) := by
  have hhanded : P s.handedOver := hP.same h (.of_blocks (by simp [State.handedOver]) (by simp [State.handedOver])
    (by simp [State.handedOver]) (by simp [State.handedOver]))
  unfold blendEffect
  split
  · rw [← State.handedOver, shortfallWatch_eq]
    split
    · exact hP.raise (hP.setBlend hhanded _) _
    · exact hP.setBlend hhanded _
  · exact h

theorem watchTruck (n : Nat) : P (watchTruck n s) := by
  unfold Machine.watchTruck
  simp only []
  split
  · exact hP.raise (hP.setOutput h _) _
  · exact hP.setOutput h _

theorem pressureSample (p1 p2 : BitVec 10) : P (pressureSampleEffect p1 p2 s) := by
  unfold pressureSampleEffect
  split
  · have hread : P (readPressures p1 p2 s) := hP.same h ⟨rfl, rfl, rfl, rfl⟩
    exact hP.watchTruck (hP.watchTruck hread 1) 2
  · exact h

theorem changeEntry (n : Nat) (old new : Entry) : P (changeEntry n old new s) := by
  unfold Machine.changeEntry
  simp only []
  repeat' split
  · exact hP.setRoster h _
  · exact hP.raise (hP.logged _ (hP.setRoster h _)) _
  · exact hP.logged _ (hP.setRoster h _)

theorem silence (n : Nat) : P (silenceExpiryEffect n s) := by
  unfold silenceExpiryEffect
  repeat' split
  · exact h
  · exact h
  · exact h
  · rename_i e _ _ new _
    exact hP.setRoster (hP.changeEntry h n e new) _

theorem unheard : P (unheardExpiryEffect s) := by
  unfold unheardExpiryEffect
  simp only []
  repeat' split
  · exact hP.setRoster h _
  · exact hP.raise (hP.setRoster h _) _
  · exact h

theorem jamEnd : P (jamEndEffect s) := by
  unfold jamEndEffect giveUp
  split
  case h_2 => exact h
  case h_1 content seq since hair =>
  split
  case isFalse => exact h
  case isTrue =>
  simp only []
  repeat' split
  · exact hP.returned _ (hP.logged _ (hP.same h ⟨rfl, rfl, rfl, rfl⟩))
  · exact hP.logged _ (hP.same h ⟨rfl, rfl, rfl, rfl⟩)
  · exact hP.same h ⟨rfl, rfl, rfl, rfl⟩

theorem dispatch (f : ReceivedFrame) : P (dispatchFrame f s) := by
  unfold dispatchFrame
  repeat' split
  · unfold duplicateArrival
    simp only []
    split
    · exact hP.setRoster h _
    · exact hP.raise (hP.setRoster h _) _
  · unfold reportArrival
    split
    · exact h
    · rename_i e _
      exact hP.same (hP.changeEntry h f.station e (e.report f.seq (.ofBytes f.payload) s.now)) ⟨rfl, rfl, rfl, rfl⟩
  · exact hP.same h (.of_blocks (by simp) (by simp) (by simp) (by simp))
  · unfold noticeArrival
    repeat' split
    · exact h
    · exact h
    · exact hP.raised _ _ _ (hP.logged _ (hP.setRoster h _))

theorem frameComplete (chars : List Byte) : P (frameCompleteEffect chars s) := by
  unfold frameCompleteEffect frameCompleted
  simp only []
  repeat' split
  · exact h
  · exact hP.setLine h _
  · exact hP.setLine h _
  · exact hP.dispatch (hP.setLine (hP.setLine h _) _) _
  · exact hP.setLine h _

/-! ### The service commands -/

/-- A service command keeps what its answer keeps (R168, R169). -/
theorem take {code : Byte} {want : Nat} {params : List Byte} {answer : State → State} (keeps : ∀ {u}, P u → P (answer u)) :
    P (takeCommand code params (withLength want params answer) s) := by
  unfold takeCommand withLength
  repeat' split
  · exact keeps (hP.same h ⟨rfl, rfl, rfl, rfl⟩)
  · exact hP.same h ⟨rfl, rfl, rfl, rfl⟩
  · exact h

theorem answerMark (b : Byte) : P (answerMark b s) := by
  unfold Machine.answerMark
  repeat' split
  · exact hP.same h ⟨rfl, rfl, rfl, rfl⟩
  · rename_i cls _ _
    exact hP.same (hP.raised .manual cls none h) ⟨rfl, rfl, rfl, rfl⟩
  · exact hP.same h ⟨rfl, rfl, rfl, rfl⟩

theorem answerRequest (kind : OpKind) (n : Nat) (maintenance : Bool) : P (answerRequest kind n maintenance s) := by
  unfold Machine.answerRequest
  repeat' split
  · exact hP.same h ⟨rfl, rfl, rfl, rfl⟩
  · exact hP.same h ⟨rfl, rfl, rfl, rfl⟩
  · rename_i hok
    exact hP.same (hP.begun h hok) ⟨rfl, rfl, rfl, rfl⟩
  · exact hP.same h ⟨rfl, rfl, rfl, rfl⟩

/-! ### Changes of mode -/

theorem lineToSafe : P (lineToSafe s) := by
  have hfold : ∀ (cs : List NoticeContent) {u : State}, P u → P (cs.foldl (fun t c => noticeReturned c.number t) u) := by
    intro cs
    induction cs with
    | nil => exact fun hu => hu
    | cons c cs ih => exact fun hu => ih (hP.returned c.number hu)
  exact hfold _ (hP.same h ⟨rfl, rfl, rfl, rfl⟩)

/-- A working device's mode changes to another in which it works (R182). -/
theorem changeMode {m : Mode} (works : s.control.mode.working = true) (timer : s.recorder.snapshotTimer.isSome = true)
    (hm : m.working = true) : P (changeMode m s) := by
  have hmoved : P (s.setControl { s.control with mode := m }) :=
    hP.moved h ⟨⟨Mode.ne_init_of_working works, Mode.ne_init_of_working hm⟩, rfl, by simp [timer, hm], rfl, rfl⟩
  exact hP.logged (.mode s.control.mode m) hmoved

theorem enterSafe (works : s.control.mode.working = true) (timer : s.recorder.snapshotTimer.isSome = true) :
    P (enterSafe s) :=
  hP.lineToSafe (hP.same (hP.changeMode h works timer (m := .safe) rfl)
    (.of_blocks (by simp) (by simp) (by simp) (by simp)))

theorem powerFail (works : s.control.mode.working = true) (timer : s.recorder.snapshotTimer.isSome = true) :
    P (powerFail s) := hP.raise (hP.enterSafe h works timer) _

theorem warningAtEntry (works : s.control.mode.working = true) (timer : s.recorder.snapshotTimer.isSome = true) :
    P (warningAtEntry s) := by
  unfold Machine.warningAtEntry
  split
  · exact hP.powerFail (hP.same h ⟨rfl, rfl, rfl, rfl⟩) works timer
  · exact h

omit h in
/-- An entry to RUN from INIT or CONFIG keeps the relation when the device, were it in CONFIG, meets it (R185). -/
theorem enterRun_fresh (config : P (s.setControl { s.control with mode := .config })) : P (enterRun true s) := by
  have hlogged : P (logEvent (.mode s.control.mode .run) (s.setControl { s.control with mode := .config })) :=
    hP.logged _ config
  have hworks : P s.worksInRun := by
    refine hP.moved hlogged ⟨⟨by simp, by simp [worksInRun_control]⟩, ?_, by simp [worksInRun_recorder, worksInRun_control,
      Mode.working], by simp [State.worksInRun], heldInReset_congr (by simp [State.worksInRun])⟩
    rw [worksInRun_recorder]; rfl
  have hrun : s.worksInRun.control.mode.working = true := by rw [worksInRun_control]; rfl
  have htimer : s.worksInRun.recorder.snapshotTimer.isSome = true := by rw [worksInRun_recorder]; rfl
  exact hP.warningAtEntry hworks hrun htimer

theorem enterRun_return (hm : s.control.mode = .safe) (timer : s.recorder.snapshotTimer.isSome = true) :
    P (enterRun false s) := by
  have hrun : P (Machine.changeMode .run s) := hP.changeMode h (by rw [hm]; rfl) timer rfl
  have hout : P (runOutputs (Machine.changeMode .run s)) := hP.same hrun (.of_blocks (by simp) (by simp) (by simp) (by simp))
  exact hP.warningAtEntry hout (by simp [Mode.working]) (by simpa [Recorder.log] using timer)

theorem warningAsserted (timer : s.recorder.snapshotTimer.isSome = s.control.mode.working) : P (warningAssertedEffect s) := by
  have hs : P (s.setControl { s.control with warning := true, releaseTimer := none }) := hP.same h ⟨rfl, rfl, rfl, rfl⟩
  unfold warningAssertedEffect
  simp only []
  split
  · rename_i hm
    have hworks : s.control.mode.working = true := by rw [show s.control.mode = .run from hm]; rfl
    exact hP.powerFail hs hworks (timer.trans hworks)
  · exact hs

theorem recheck (timer : s.recorder.snapshotTimer.isSome = s.control.mode.working) : P (recheckEffect s) := by
  unfold recheckEffect
  simp only []
  repeat' split
  · exact hP.same h ⟨rfl, rfl, rfl, rfl⟩
  · rename_i hm
    have hworks : s.control.mode.working = true := by rw [show s.control.mode = .run from hm]; rfl
    exact hP.enterSafe (hP.same h ⟨rfl, rfl, rfl, rfl⟩) hworks (timer.trans hworks)
  · exact hP.same h ⟨rfl, rfl, rfl, rfl⟩
  · exact h

theorem releaseTimer (timer : s.recorder.snapshotTimer.isSome = s.control.mode.working) : P (releaseTimerEffect s) := by
  have hs : P (s.setControl { s.control with releaseTimer := none }) := hP.same h ⟨rfl, rfl, rfl, rfl⟩
  unfold releaseTimerEffect
  simp only []
  split
  · rename_i hm
    repeat' split
    · exact hs
    · exact hP.enterRun_return hs hm.1 (timer.trans (by rw [hm.1]; rfl))
    · exact hP.same hs ⟨rfl, rfl, rfl, rfl⟩
  · exact h

theorem answerStart : P (answerStart s) := by
  unfold Machine.answerStart
  split
  · rename_i l hm _
    have hs : P ((activate l s).setControl { (activate l s).control with mode := .config }) :=
      hP.same h ⟨rfl, rfl, hm.symm, rfl⟩
    exact hP.same (hP.enterRun_fresh hs) ⟨rfl, rfl, rfl, rfl⟩
  · exact hP.same h ⟨rfl, rfl, rfl, rfl⟩

/-! ### All of them -/

theorem loadConfig (params : List Byte) : P (loadConfigEffect params s) :=
  hP.same h ⟨by simp, by simp, loadConfigEffect_mode params s, heldInReset_congr (by simp)⟩

theorem unlockSlot (params : List Byte) (maintenance : Bool) : P (unlockSlotEffect params maintenance s) := by
  have hs : P (s.setPins { s.pins with maintenance := maintenance }) := hP.same h ⟨rfl, rfl, rfl, rfl⟩
  exact hP.take hs fun hu => hP.answerRequest hu _ _ _

theorem unknownCommand (code : Byte) (params : List Byte) : P (unknownCommandEffect code params s) := by
  unfold unknownCommandEffect
  split
  case h_3 => exact hP.loadConfig h params
  case h_4 => exact hP.take h fun hu => hP.answerStart hu
  case h_9 => exact hP.take h fun hu => hP.answerRequest hu _ _ _
  case h_10 => exact hP.unlockSlot h params _
  case h_11 => exact hP.take h fun hu => hP.answerRequest hu _ _ _
  case h_12 => exact hP.take h fun hu => hP.answerMark hu _
  case h_13 =>
    unfold takeCommand
    split
    · exact hP.same h ⟨rfl, rfl, rfl, rfl⟩
    · exact h
  all_goals exact hP.same h (.of_blocks (by simp) (by simp) (by simp) (by simp))

end CaptureInvariant

/-- The commands that have an effect of their own on the Recorder or the Store Controller. -/
def movesCapture : Instr → Bool
  | .powerOnResetRelease _ _ => true
  | .hardResetRelease _ _ => true
  | .resetAsserted _ _ => true
  | .scanEnd _ _ => true
  | .snapshot _ => true
  | .writeComplete _ _ => true
  | .eraseComplete _ _ => true
  | .lockComplete _ _ => true
  | .unlockComplete _ _ => true
  | _ => false

/-- Every other command is made of the operations that keep the relation. -/
theorem CaptureInvariant.effectOf {P : State → Prop} (hP : CaptureInvariant P) {s : State} (h : P s)
    (timer : s.recorder.snapshotTimer.isSome = s.control.mode.working) {c : Instr} (hc : movesCapture c = false) :
    P (effectOf c s) := by
  cases c with
  | powerFailWarningAsserted dt => exact hP.warningAsserted h timer
  | powerFailWarningDeasserted dt => exact hP.same h ⟨rfl, rfl, rfl, rfl⟩
  | releaseTimerExpiry dt => exact hP.releaseTimer h timer
  | configurationRecheck dt => exact hP.recheck h timer
  | demandSample dt raw cab he tl => exact hP.demandSample h raw cab he tl
  | speedSweep dt => exact hP.speedSweep h
  | blendComputation dt => exact hP.blendComputation h
  | pressureSample dt p1 p2 => exact hP.pressureSample h p1 p2
  | jamEnd dt => exact hP.jamEnd h
  | frameComplete dt chars => exact hP.frameComplete h chars
  | silenceExpiry dt n => exact hP.silence h n
  | unheardExpiry dt => exact hP.unheard h
  | selectAsserted dt => exact hP.same h ⟨by simp [Machine.effectOf], by simp [Machine.effectOf], by simp [Machine.effectOf],
      by simp only [Machine.effectOf, selectAssertedEffect]; split <;> rfl⟩
  | selectReleased dt => exact hP.same h ⟨rfl, rfl, rfl, rfl⟩
  | unknownCommand dt code params => exact hP.unknownCommand h code params
  | loadConfig dt params => exact hP.loadConfig h params
  | start dt params => exact hP.take h fun hu => hP.answerStart hu
  | lockSlot dt params => exact hP.take h fun hu => hP.answerRequest hu _ _ _
  | unlockSlot dt params maintenance => exact hP.unlockSlot h params maintenance
  | eraseSlot dt params => exact hP.take h fun hu => hP.answerRequest hu _ _ _
  | mark dt params => exact hP.take h fun hu => hP.answerMark hu _
  | demandFrameTimerExpiry | tachometerEdge | converterFeedback | stalenessExpiry | requestMessage | reportTimerExpiry
  | firstGoesOnAir | retryAttempt | attemptSuccess | collision | framerIdle | duplicateExpiry | getStatus | getRoster
  | getDirectory | readIncident | readEvents | readHistory | frameDiscarded =>
    exact hP.same h (.of_blocks (by simp [Machine.effectOf]) (by simp [Machine.effectOf]) (by simp [Machine.effectOf])
      (by simp [Machine.effectOf]))
  | powerOnResetRelease | hardResetRelease | resetAsserted | scanEnd | snapshot | writeComplete | eraseComplete | lockComplete
  | unlockComplete => cases hc

end Sys2Proof.Machine
end

section
/-!
PROOFS. What the store offers a commit: a slot to write, whenever no operation is left in flight (R153, R159), and the next incident
number that a scan recovers (R164).
-/

namespace Sys2Proof.Machine

open Sys2Proof

/-! ### A slot to write -/

/-- A LOCKED slot is one that a scan may find LOCKED (R165). -/
theorem SlotSafe.mayLock {x : Slot} (h : SlotSafe x) (hs : x.state = .locked) : x.mayLock = true := by
  have hcontent := h.content
  rw [hs] at hcontent
  obtain ⟨header, tag, mark⟩ := hcontent
  simp [Slot.mayLock, header, tag, mark]

/-- Sixteen slots, at most 12 of which a scan may find LOCKED and none at work, leave one to write. -/
theorem chooseSlot_of_mayLock {st : Store} (hl : st.slots.length = 16) (locks : ∀ x ∈ st.slots, x.state = .locked → x.mayLock = true)
    (count : st.slots.countP Slot.mayLock ≤ 12) (idle : ∀ x ∈ st.slots, x.state ≠ .writing ∧ x.state ≠ .erasing) :
    ∃ n, st.chooseSlot = some n := by
  refine chooseSlot_of_lockedCount hl (Nat.le_trans ?_ count) idle
  exact List.countP_mono_left fun x hx hs => locks x hx (by simpa using hs)

theorem slot?_of_mem {st : Store} {x : Slot} (h : x ∈ st.slots) : ∃ n, st.slot? n = some x := by
  obtain ⟨i, hi⟩ := List.mem_iff_getElem?.1 h
  exact ⟨i + 1, by simpa [Store.slot?] using hi⟩

theorem StoreSafe.chooses {s : State} (h : StoreSafe s) (hs : s.started) (ho : s.store.op = .none) :
    ∃ n, s.store.chooseSlot = some n := by
  refine chooseSlot_of_mayLock h.slots (fun x hx => (h.each x hx).mayLock) (Nat.le_trans (Nat.le_add_right _ _) h.locked)
    fun x hx => not_or.1 fun hw => ?_
  obtain ⟨n, hn⟩ := slot?_of_mem hx
  obtain ⟨-, hop⟩ := h.working hs n x hn hw
  rw [ho] at hop; cases hop

/-- When the operation in flight leaves its slot, a slot can be written (R157, R159): that slot is at work no longer, and it is one
to lock only if it was one before or a WRITE was to lock it. -/
theorem StoreSafe.chooses_after {s : State} (h : StoreSafe s) (hs : s.started) {x y : Slot}
    (hx : s.store.slot? s.store.op.slot = some x) (done : y.state ≠ .writing ∧ y.state ≠ .erasing)
    (locks : y.state = .locked → y.mayLock = true) (count : y.mayLock.toNat ≤ x.mayLock.toNat + s.store.op.toLock) {st : Store}
    (slots : st.slots = s.store.slots.set (s.store.op.slot - 1) y) : ∃ n, st.chooseSlot = some n := by
  obtain ⟨h1, hget⟩ := Store.slot?_eq_some.1 hx
  obtain ⟨hlen, hget⟩ := List.getElem?_eq_some_iff.1 hget
  have hlocked := h.locked
  have hset : (s.store.slots.set (s.store.op.slot - 1) y).countP Slot.mayLock =
      s.store.slots.countP Slot.mayLock - x.mayLock.toNat + y.mayLock.toNat := by
    rw [List.countP_set hlen, hget, Bool.toNat, Bool.toNat, Bool.cond_eq_ite, Bool.cond_eq_ite]
  have hcounted : x.mayLock.toNat ≤ s.store.slots.countP Slot.mayLock := by
    cases hm : x.mayLock with
    | false => exact Nat.zero_le _
    | true => exact List.countP_pos_iff.2 ⟨x, hget ▸ List.getElem_mem hlen, hm⟩
  refine chooseSlot_of_mayLock (by rw [slots, List.length_set, h.slots]) (fun z hz => ?locks) ?count (fun z hz => ?idle)
  case locks =>
    rw [slots] at hz
    rcases List.mem_or_eq_of_mem_set hz with hz | rfl
    · exact (h.each z hz).mayLock
    · exact locks
  case count => rw [slots, hset]; omega
  case idle =>
    rw [slots] at hz
    obtain ⟨i, hi⟩ := List.mem_iff_getElem?.1 hz
    rw [List.getElem?_set] at hi
    split at hi
    · exact Option.some.inj hi ▸ done
    · rename_i hne
      have hslot : s.store.slot? (i + 1) = some z := by simpa [Store.slot?] using hi
      exact not_or.1 fun hw => hne (by have := (h.working hs _ z hslot hw).1; omega)

/-! ### The scan -/

/-- The scan changes a slot's state and lock mark, and the number being written (R165). -/
theorem scanned_eq (cut : MarkReading) (x : Slot) : x.scanned cut = { x with
    mark := some (x.mark.getD cut), writing := 0
    state := if x.tag then .damaged else if x.header.isSome then markState (x.mark.getD cut)
      else if x.clear then .free else .damaged } := by
  unfold Slot.scanned
  simp only []
  repeat' split
  all_goals rfl

theorem scanned_state (cut : MarkReading) (x : Slot) : (x.scanned cut).state ≠ .writing ∧ (x.scanned cut).state ≠ .erasing := by
  rw [scanned_eq]
  simp only [markState]
  repeat' split
  all_goals simp

/-- What the scan finds LOCKED is a slot to lock (R165). -/
theorem mayLock_of_scanned {cut : MarkReading} {x : Slot} (h : (x.scanned cut).state = .locked) : x.mayLock = true := by
  have hmark : x.mark = some .unlocked → markState (x.mark.getD cut) = .stored := fun hm => by rw [hm]; rfl
  rw [scanned_eq] at h
  simp only [] at h
  split at h
  · cases h
  rename_i htag
  split at h
  · rename_i hheader
    have : x.mark ≠ some .unlocked := fun hm => by rw [hmark hm] at h; cases h
    simp_all [Slot.mayLock]
  · split at h <;> cases h

/-- After the scan a slot can be written (R159, R165). -/
theorem StoreSafe.scanDone_chooses {s : State} (h : StoreSafe s) (cut : MarkReading) :
    ∃ n, (s.store.scanDone cut).chooseSlot = some n := by
  have hslots : (s.store.scanDone cut).slots = s.store.slots.map (Slot.scanned cut) := rfl
  refine chooseSlot_of_lockedCount (by rw [hslots, List.length_map, h.slots]) ?locked (fun z hz => ?idle)
  case locked =>
    have hle : (s.store.scanDone cut).lockedCount ≤ s.store.slots.countP Slot.mayLock := by
      rw [Store.lockedCount, hslots, List.countP_map]
      exact List.countP_mono_left fun x _ hx => mayLock_of_scanned (by simpa using hx)
    have := h.locked
    omega
  case idle =>
    rw [hslots] at hz
    obtain ⟨x, -, rfl⟩ := List.mem_map.1 hz
    exact scanned_state cut x

theorem scanned_header (cut : MarkReading) (x : Slot) : (x.scanned cut).header = x.header := by
  rw [scanned_eq]

theorem nextIncident_range {n : Nat} (h : n ≤ 65535) : 1 ≤ nextIncident n ∧ nextIncident n ≤ 65535 := by
  unfold nextIncident; split <;> omega

/-- The number recovered follows one that was found (R164). -/
theorem foldl_higherNumber_mem (found : List Nat) {l : List Nat} {best : Option Nat} {n : Nat}
    (h : l.foldl (higherNumber found) best = some n) : best = some n ∨ n ∈ l := by
  induction l generalizing best with
  | nil => exact .inl h
  | cons a l ih =>
    rcases ih h with h | h
    · unfold higherNumber at h
      split at h
      · cases h; simp
      · split at h
        · cases h; simp
        · exact .inl h
    · exact .inr (List.mem_cons_of_mem _ h)

theorem recoveredNext_range {st : Store} (numbers : ∀ x ∈ st.slots, ∀ h, x.header = some h → h.number ≤ 65535) :
    1 ≤ st.recoveredNext ∧ st.recoveredNext ≤ 65535 := by
  unfold Store.recoveredNext
  split
  · omega
  · rename_i n hn
    have hfound : n ∈ st.numbersFound := by simpa using foldl_higherNumber_mem _ hn
    simp only [Store.numbersFound, List.mem_dedup, List.mem_filterMap, List.mem_filter, Option.map_eq_some_iff] at hfound
    obtain ⟨x, ⟨hx, -⟩, hd, hhd, rfl⟩ := hfound
    exact nextIncident_range (numbers x hx hd hhd)

theorem StoreSafe.scanDone_next {s : State} (h : StoreSafe s) (cut : MarkReading) :
    1 ≤ (s.store.scanDone cut).nextNumber ∧ (s.store.scanDone cut).nextNumber ≤ 65535 := by
  refine recoveredNext_range (st := { s.store with
    slots := s.store.slots.map (Slot.scanned cut), op := .none, lastResult := none }) fun z hz hd hhd => ?_
  obtain ⟨x, hx, rfl⟩ := List.mem_map.1 hz
  rw [scanned_header] at hhd
  exact ((h.each x hx).number hd hhd).2

end Sys2Proof.Machine
end

section
/-!
PROOFS. What the capture keeps through the operations that the commands' effects are made of: the Recorder's relations and the
commit's, whatever the mode (`Recorder.Whole`, `CommitWhole`), and both of a device in its mode (`CaptureWhole`).
-/

namespace Sys2Proof.Machine

open Sys2Proof

/-! ### The image -/

/-- What an image is as soon as it is formed; the rest of its relations its NOTICE's offer settles (R138, R139). -/
structure ImageFormed (img : Image) : Prop where
  number : 1 ≤ img.number ∧ img.number ≤ 65535
  pre : img.pre.length ≤ 64
  post : img.post.length ≤ 32
  events : img.events.length ≤ 48
  secondary : img.secondary ≤ 255
  unnoticed : img.cause = .peerNotice → img.noticeEnqueued = false

/-- Once its NOTICE has been offered, a SEVERE image of another cause than PEER_NOTICE has handed one over (R140). -/
theorem ImageFormed.handed {img : Image} (h : ImageFormed img) (room : Bool) : ImageSafe (img.handed room) where
  number := h.number
  pre := h.pre
  post := h.post
  events := h.events
  secondary := h.secondary
  noticed := by
    intro hs hc
    have hs : img.cls = .severe := hs
    have hc : img.cause ≠ .peerNotice := hc
    cases hn : img.noticeEnqueued <;> simp [Image.handed, Image.offers, Image.owesNotice, hs, hc, hn]
  unnoticed := by
    intro hc
    have hc : img.cause = .peerNotice := hc
    simp [Image.handed, Image.offers, Image.owesNotice, hc, h.unnoticed hc]

theorem ImageSafe.formed {img : Image} (h : ImageSafe img) : ImageFormed img :=
  ⟨h.number, h.pre, h.post, h.events, h.secondary, h.unnoticed⟩

/-- The flags and the mark of a kept image are no part of its relations. -/
theorem ImageSafe.setFlags {img : Image} (h : ImageSafe img) (flags : IncidentFlags) (kept : Bool) :
    ImageSafe { img with flags := flags, kept := kept } :=
  ⟨h.number, h.pre, h.post, h.events, h.secondary, h.noticed, h.unnoticed⟩

theorem offer_events_length (e : Event) {img : Image} (h : img.events.length ≤ 48) : (img.offer e).events.length ≤ 48 := by
  unfold Image.offer; split
  · simp; omega
  · exact h

theorem ImageSafe.offer {img : Image} (h : ImageSafe img) (e : Event) : ImageSafe (img.offer e) := by
  have hevents := offer_events_length e h.events
  rw [Image.offer_eq] at hevents ⊢
  exact ⟨h.number, h.pre, h.post, hevents, h.secondary, h.noticed, h.unnoticed⟩

theorem ImageSafe.returned {img : Image} (h : ImageSafe img) (cs : List NoticeContent) : ImageSafe (img.returned cs) :=
  h.setFlags _ _

theorem ImageSafe.merged {img : Image} (h : ImageSafe img) (f : Pending) (now : Time) : ImageFormed (img.merged f now) := by
  have hevents := offer_events_length ⟨now, .secondaryTrigger f.cause f.cls⟩ h.events
  rw [Image.merged]
  rw [Image.offer_eq] at hevents ⊢
  exact ⟨h.number, h.pre, h.post, hevents, Nat.min_le_left _ _, h.unnoticed⟩

/-! ### The Recorder -/

/-- The Recorder's relations but the snapshot timer's, which is the mode's (R132, R134, R138, R141, R146). -/
structure Recorder.Whole (r : Recorder) : Prop where
  history : r.history.length ≤ 64
  events : r.events.length ≤ 32
  occurrences : r.lastOccurrence.length = 12
  image : r.image.isSome = decide (r.capture ≠ .idle)
  each : ∀ img, r.image = some img → ImageSafe img
  filling : r.capture = .filling → ∀ img, r.image = some img → img.post.length ≤ 31
  pending : r.pendingTrigger.isSome = true → r.capture = .committing
  merged : ∀ p, r.pendingTrigger = some p → p.merged ≤ 255 ∧ (p.power = true → p.cls = .severe)
  opened : r.lastOpened ≤ 65535

theorem RecorderSafe.whole {s : State} (h : RecorderSafe s) : s.recorder.Whole :=
  ⟨h.history, h.events, h.occurrences, h.image, h.each, h.filling, h.pending, h.merged, h.opened⟩

theorem Recorder.Whole.safe {s : State} (h : s.recorder.Whole)
    (timer : s.recorder.snapshotTimer.isSome = s.control.mode.working) : RecorderSafe s :=
  ⟨h.history, h.events, h.occurrences, h.image, h.each, h.filling, h.pending, h.merged, timer, h.opened⟩

/-- Outside IDLE there is an image. -/
theorem Recorder.Whole.exists_image {r : Recorder} (h : r.Whole) (hc : r.capture ≠ .idle) : ∃ img, r.image = some img :=
  Option.isSome_iff_exists.1 (h.image.trans (decide_eq_true hc))

theorem Recorder.Whole.setSnapshotTimer {r : Recorder} (h : r.Whole) (timer : Timer) :
    { r with snapshotTimer := timer }.Whole :=
  ⟨h.history, h.events, h.occurrences, h.image, h.each, h.filling, h.pending, h.merged, h.opened⟩

theorem Recorder.Whole.occurred {r : Recorder} (h : r.Whole) (i : Nat) (t : Option Time) :
    { r with lastOccurrence := r.lastOccurrence.set i t }.Whole :=
  ⟨h.history, h.events, by simpa using h.occurrences, h.image, h.each, h.filling, h.pending, h.merged, h.opened⟩

theorem Recorder.Whole.setEvents {r : Recorder} (h : r.Whole) {ring : List Event} (hl : ring.length ≤ 32) :
    { r with events := ring }.Whole :=
  ⟨h.history, hl, h.occurrences, h.image, h.each, h.filling, h.pending, h.merged, h.opened⟩

/-- The image may change within its relations and with its post-trigger snapshots as they are. -/
theorem Recorder.Whole.mapImage {r : Recorder} (h : r.Whole) {f : Image → Image} (safe : ∀ img, ImageSafe img → ImageSafe (f img))
    (post : ∀ img, (f img).post = img.post) : { r with image := r.image.map f }.Whole where
  history := h.history
  events := h.events
  occurrences := h.occurrences
  image := by simpa using h.image
  each := by
    intro _ himg
    obtain ⟨img, hi, rfl⟩ := Option.map_eq_some_iff.1 himg
    exact safe img (h.each img hi)
  filling := by
    intro hc _ himg
    obtain ⟨img, hi, rfl⟩ := Option.map_eq_some_iff.1 himg
    exact post img ▸ h.filling hc img hi
  pending := h.pending
  merged := h.merged
  opened := h.opened

theorem Recorder.Whole.log {r : Recorder} (h : r.Whole) (e : Event) : (r.log e).Whole := by
  have hring := h.setEvents (pushRing_length e r.events)
  unfold Recorder.log
  split
  · exact hring.mapImage (fun _ hi => hi.offer e) fun img => (Image.offer_fields e img).2.2.2.1
  · exact hring

theorem Recorder.Whole.noticeReturned {r : Recorder} (h : r.Whole) (n : Nat) : (r.noticeReturned n).Whole := by
  rw [recorder_noticeReturned_eq ⟨n, .power, .note⟩]
  exact h.mapImage (fun _ hi => hi.returned _) fun _ => rfl

/-- An image stands in the window that it is in, FILLING with fewer than 32 post-trigger snapshots (R141). -/
theorem Recorder.Whole.setImage {r : Recorder} (h : r.Whole) {img : Image} (hi : ImageSafe img) {c : CaptureState}
    (hc : c ≠ .idle) (filling : c = .filling → img.post.length ≤ 31)
    (pending : r.pendingTrigger.isSome = true → c = .committing) :
    { r with capture := c, image := some img }.Whole where
  history := h.history
  events := h.events
  occurrences := h.occurrences
  image := (decide_eq_true hc).symm
  each := by rintro _ ⟨⟩; exact hi
  filling := by rintro hf _ ⟨⟩; exact filling hf
  pending := pending
  merged := h.merged
  opened := h.opened

/-! ### The commit -/

/-- The relations of the capture and the store but that a COMMITTING incident is being written or waits (R138, R145, R159, R164). -/
structure CommitReady (r : Recorder) (st : Store) : Prop where
  write : ∀ n l v, st.op = .write n l v → r.capture = .committing
  writing : ∀ n l v img x, st.op = .write n l v → r.image = some img → st.slot? n = some x → x.writing = img.number
  expected : (∀ n l v, st.op ≠ .write n l v) → ∀ img, r.image = some img → img.kept = false ∧ img.number = st.nextNumber
  next : 1 ≤ st.nextNumber ∧ st.nextNumber ≤ 65535
  room : st.op = .none → ∃ n, st.chooseSlot = some n

/-- The relations of the capture and the store of a device out of INIT. -/
structure CommitWhole (r : Recorder) (st : Store) : Prop extends CommitReady r st where
  commit : r.capture = .committing → st.op ≠ .none

/-- The relations are about the image's number and its mark, and about COMMITTING. -/
theorem CommitReady.of_image {r r' : Recorder} {st : Store} (h : CommitReady r st)
    (capture : r.capture = .committing → r'.capture = .committing)
    (image : ∀ img', r'.image = some img' → ∃ img, r.image = some img ∧ img'.number = img.number ∧ img'.kept = img.kept) :
    CommitReady r' st where
  write := fun n l v ho => capture (h.write n l v ho)
  writing := by
    intro n l v img' x ho hi hx
    obtain ⟨img, hi, hnumber, -⟩ := image img' hi
    exact hnumber ▸ h.writing n l v img x ho hi hx
  expected := by
    intro ho img' hi
    obtain ⟨img, hi, hnumber, hkept⟩ := image img' hi
    exact hnumber ▸ hkept ▸ h.expected ho img hi
  next := h.next
  room := h.room

theorem CommitWhole.of_image {r r' : Recorder} {st : Store} (h : CommitWhole r st) (capture : r'.capture = r.capture)
    (image : ∀ img', r'.image = some img' → ∃ img, r.image = some img ∧ img'.number = img.number ∧ img'.kept = img.kept) :
    CommitWhole r' st where
  toCommitReady := h.toCommitReady.of_image capture.trans image
  commit := fun hc => h.commit (capture ▸ hc)

/-- A change of the image that leaves its number and its mark. -/
theorem CommitWhole.mapImage {r r' : Recorder} {st : Store} (h : CommitWhole r st) (capture : r'.capture = r.capture)
    {f : Image → Image} (image : r'.image = r.image.map f) (fields : ∀ img, (f img).number = img.number ∧ (f img).kept = img.kept) :
    CommitWhole r' st := by
  refine h.of_image capture fun img' hi => ?_
  rw [image] at hi
  obtain ⟨img, hold, rfl⟩ := Option.map_eq_some_iff.1 hi
  exact ⟨img, hold, fields img⟩

theorem CommitWhole.log {r : Recorder} {st : Store} (h : CommitWhole r st) (e : Event) : CommitWhole (r.log e) st := by
  unfold Recorder.log
  split
  · exact h.mapImage rfl rfl fun img => by rw [Image.offer_eq]; exact ⟨rfl, rfl⟩
  · exact h.mapImage rfl Option.map_id'.symm fun img => ⟨rfl, rfl⟩

theorem CommitWhole.noticeReturned {r : Recorder} {st : Store} (h : CommitWhole r st) (n : Nat) :
    CommitWhole (r.noticeReturned n) st := by
  rw [recorder_noticeReturned_eq ⟨n, .power, .note⟩]
  exact h.mapImage rfl rfl fun img => ⟨rfl, rfl⟩

/-- A commit that is due begins its WRITE under the image's own number, or waits (R138, R145, R158). -/
theorem CommitReady.beginCommit {s : State} (h : CommitReady s.recorder s.store) (hr : s.recorder.Whole) :
    CommitWhole (beginCommit s).recorder (beginCommit s).store := by
  by_cases hidle : s.recorder.capture ≠ .committing ∨ s.store.op ≠ .none
  · rw [beginCommit_eq_self (hidle.imp_right .inr)]
    exact ⟨h, fun hc => hidle.resolve_left (not_not.2 hc)⟩
  · obtain ⟨hc, ho⟩ := not_or.1 hidle
    rw [not_not] at hc ho
    obtain ⟨img, hi⟩ := hr.exists_image (by simp [hc])
    obtain ⟨n, hn⟩ := h.room ho
    obtain ⟨hkept, hnumber⟩ := h.expected (by simp [ho]) img hi
    have hassigned : s.store.assigned img = img.number := by simp [Store.assigned, hkept, hnumber]
    obtain ⟨l, v, hop⟩ := beginWrite_op s.store n img
    rw [beginCommit_eq hc hi ho hn]
    refine ⟨⟨fun _ _ _ _ => hc, fun m l' v' img' x ho' hi' hx => ?_, fun h' => absurd hop (h' _ _ _),
      nextIncident_range (hassigned ▸ (hr.each img hi).number.2), fun h' => ?_⟩, fun _ h' => ?_⟩
    · obtain rfl : n = m := by cases hop.symm.trans ho'; rfl
      cases (beginWrite_slot? hn img).symm.trans hx
      cases hi.symm.trans hi'
      exact hassigned
    · cases hop.symm.trans h'
    · cases hop.symm.trans h'

/-! ### Firings -/

/-- An opening in IDLE, where no WRITE is in flight (R139, R144, R148). -/
theorem openIncident_whole {f : Pending} {s : State} (hf : f.merged ≤ 255) (hr : s.recorder.Whole)
    (h : CommitReady s.recorder s.store) (hc : s.recorder.capture = .idle) :
    (openIncident f s).recorder.Whole ∧ CommitWhole (openIncident f s).recorder (openIncident f s).store := by
  have hnowrite : ∀ n l v, s.store.op ≠ .write n l v := fun n l v ho => nomatch hc.symm.trans (h.write n l v ho)
  have hformed : ImageFormed (s.openedImage f) := by
    refine ⟨h.next, hr.history, Nat.zero_le _, ?_, hf, fun _ => rfl⟩
    exact Nat.le_trans (List.length_filter_le _ _) (Nat.le_trans hr.events (by decide))
  have hwindow : f.window ≠ .idle := by unfold Pending.window; split <;> simp
  have hopened : (s.openedRecorder f).Whole := by
    have hnumbered : { s.recorder with lastOpened := s.store.nextNumber }.Whole :=
      ⟨hr.history, hr.events, hr.occurrences, hr.image, hr.each, hr.filling, hr.pending, hr.merged, h.next.2⟩
    exact hnumbered.setImage (hformed.handed s.noticeRoom) hwindow (fun _ => Nat.zero_le _)
      fun hp => nomatch hc.symm.trans (hr.pending hp)
  have hready : CommitReady (s.openedRecorder f) s.store := by
    refine ⟨fun n l v ho => absurd ho (hnowrite n l v), fun n l v _ _ ho => absurd ho (hnowrite n l v), ?_, h.next, h.room⟩
    rintro - _ ⟨⟩
    exact ⟨rfl, rfl⟩
  rw [openIncident_eq]
  exact ⟨by simpa using hopened, CommitReady.beginCommit hready hopened⟩

theorem holdFiring_whole {f : Pending} {s : State} (hf : f.merged ≤ 255 ∧ (f.power = true → f.cls = .severe))
    (hr : s.recorder.Whole) (h : CommitWhole s.recorder s.store) (hc : s.recorder.capture = .committing) :
    (holdFiring f s).recorder.Whole ∧ CommitWhole (holdFiring f s).recorder (holdFiring f s).store := by
  have held : ∀ {r : Recorder} {p : Pending}, r.Whole → r.capture = .committing →
      p.merged ≤ 255 ∧ (p.power = true → p.cls = .severe) → { r with pendingTrigger := some p }.Whole := by
    intro r p hr hc hp
    exact ⟨hr.history, hr.events, hr.occurrences, hr.image, hr.each, hr.filling, fun _ => hc, by rintro _ ⟨⟩; exact hp,
      hr.opened⟩
  unfold holdFiring
  split
  · exact ⟨held hr hc hf, h.of_image rfl fun img hi => ⟨img, hi, rfl, rfl⟩⟩
  · rename_i p hp
    obtain ⟨-, hpower⟩ := hr.merged p hp
    refine ⟨held (hr.log _) hc ⟨Nat.min_le_left _ _, fun hm => ?_⟩, (h.log _).of_image rfl fun img hi => ⟨img, hi, rfl, rfl⟩⟩
    have hor : p.cls = .severe ∨ f.cls = .severe := (Bool.or_eq_true_iff.1 hm).imp hpower hf.2
    simp [Pending.merge, Class.max, hor]

/-- A firing keeps the relations, whatever the capture state (R137). -/
theorem fire_whole {f : Pending} {s : State} (hf : f.merged ≤ 255 ∧ (f.power = true → f.cls = .severe))
    (hr : s.recorder.Whole) (h : CommitWhole s.recorder s.store) :
    (fire f s).recorder.Whole ∧ CommitWhole (fire f s).recorder (fire f s).store := by
  cases hc : s.recorder.capture with
  | idle => rw [fire_idle hc]; exact openIncident_whole hf.1 hr h.toCommitReady hc
  | committing => rw [fire_committing hc]; exact holdFiring_whole hf hr h hc
  | filling =>
    obtain ⟨img, hi⟩ := hr.exists_image (by simp [hc])
    have himg := ((hr.each img hi).merged f s.now).handed s.noticeRoom
    have hfields : (img.merged f s.now).post = img.post ∧ (img.merged f s.now).number = img.number ∧
        (img.merged f s.now).kept = img.kept := by
      rw [Image.merged, Image.offer_eq]; exact ⟨rfl, rfl, rfl⟩
    obtain ⟨hpost, hnumber, hkept⟩ := hfields
    have hwindow : f.window ≠ .idle := by unfold Pending.window; split <;> simp
    have hmerged : (s.mergedRecorder f img).Whole :=
      (hr.setEvents (pushRing_length _ _)).setImage (himg.setFlags _ _) hwindow (fun _ => hpost ▸ hr.filling hc img hi)
        fun hp => nomatch hc.symm.trans (hr.pending hp)
    have hready : CommitReady (s.mergedRecorder f img) s.store := by
      refine h.toCommitReady.of_image (fun hc' => nomatch hc.symm.trans hc') ?_
      rintro _ ⟨⟩
      exact ⟨img, hi, hnumber, hkept⟩
    rw [fire_filling hc hi]
    exact ⟨by simpa using hmerged, CommitReady.beginCommit hready hmerged⟩

/-! ### A device in its mode -/

/-- The capture of a device that is not held in reset: the Recorder's relations and the commit's, and in INIT the scan alone, with
what a hard reset left of an image (R132, R145, R151, R165). -/
structure CaptureWhole (s : State) : Prop where
  recorder : s.recorder.Whole
  timer : s.recorder.snapshotTimer.isSome = s.control.mode.working
  commit : s.control.mode ≠ .init → CommitWhole s.recorder s.store
  init : s.control.mode = .init → s.store.op = .scan ∧ ∀ img, s.recorder.image = some img → img.kept = true

theorem Safe.captureWhole {s : State} (h : Safe s) (released : s.heldInReset = false) : CaptureWhole s where
  recorder := h.recorder.whole
  timer := h.recorder.timer
  commit := fun hm =>
    have hs : s.started := ⟨released, hm⟩
    { write := h.commit.write
      writing := h.commit.writing
      expected := h.commit.expected hs
      next := h.store.next hm
      room := h.store.chooses hs
      commit := h.commit.commit hs }
  init := fun hm => ⟨h.store.scanning released hm, h.commit.kept hm⟩

theorem CaptureWhole.safe {s : State} (h : CaptureWhole s) : RecorderSafe s ∧ CommitSafe s := by
  refine ⟨h.recorder.safe h.timer, ⟨fun hs => (h.commit hs.2).commit, fun n l v ho => ?write, fun n l v img x ho => ?writing,
    fun hs => (h.commit hs.2).expected, fun hm => (h.init hm).2⟩⟩
  case write =>
    by_cases hm : s.control.mode = .init
    · cases ho.symm.trans (h.init hm).1
    · exact (h.commit hm).write n l v ho
  case writing =>
    by_cases hm : s.control.mode = .init
    · cases ho.symm.trans (h.init hm).1
    · exact (h.commit hm).writing n l v img x ho

theorem CaptureWhole.same {s t : State} (h : CaptureWhole s) (k : SameCapture s t) : CaptureWhole t := by
  obtain ⟨recorder, store, mode, -⟩ := k
  obtain ⟨hr, htimer, hcommit, hinit⟩ := h
  exact ⟨recorder ▸ hr, by rw [recorder, mode, htimer], by rwa [recorder, store, mode], by rwa [recorder, store, mode]⟩

theorem CaptureWhole.raised {s : State} (h : CaptureWhole s) (c : Source) (g : Machine.Class) (o : Option Originator) :
    CaptureWhole (raiseWith c g o s) := by
  have hs : CaptureWhole (s.occurred c) := ⟨h.recorder.occurred _ _, h.timer,
    fun hm => (h.commit hm).of_image rfl fun img hi => ⟨img, hi, rfl, rfl⟩, h.init⟩
  by_cases hf : (s.occurred c).fires c = true
  · have hworks : s.control.mode.working = true := by
      rw [← Bool.not_eq_false]; exact fun hw => by rw [fires_outside c (s := s.occurred c) hw] at hf; cases hf
    have hm := Mode.ne_init_of_working hworks
    have hfire := fire_whole (f := ⟨c, s.classOf c g, s.now, o, 0, c == .power⟩)
      ⟨Nat.zero_le _, fun hp => by rw [show c = .power by simpa using hp]; rfl⟩ hs.recorder (hs.commit hm)
    rw [← raiseWith_fires hf] at hfire
    exact ⟨hfire.1, by simpa using h.timer, fun _ => hfire.2, fun hm' => absurd hm' (by simpa using hm)⟩
  · rw [raiseWith_quiet hf]; exact hs

theorem CaptureWhole.logged {s : State} (h : CaptureWhole s) (k : EventKind) : CaptureWhole (logEvent k s) where
  recorder := h.recorder.log _
  timer := h.timer
  commit := fun hm => (h.commit hm).log _
  init := by
    intro hm
    refine ⟨(h.init hm).1, fun img' hi => ?_⟩
    have hlog : (logEvent k s).recorder.image = s.recorder.image ∨
        (logEvent k s).recorder.image = s.recorder.image.map (Image.offer ⟨s.now, k⟩) := by
      simp only [logEvent, Recorder.log, State.setRecorder_recorder]; split <;> simp
    rcases hlog with hlog | hlog <;> rw [hlog] at hi
    · exact (h.init hm).2 img' hi
    · obtain ⟨img, hold, rfl⟩ := Option.map_eq_some_iff.1 hi
      rw [Image.offer_eq]; exact (h.init hm).2 img hold

theorem CaptureWhole.returned {s : State} (h : CaptureWhole s) (n : Nat) : CaptureWhole (noticeReturned n s) where
  recorder := h.recorder.noticeReturned n
  timer := h.timer
  commit := fun hm => (h.commit hm).noticeReturned n
  init := by
    intro hm
    refine ⟨(h.init hm).1, fun img' hi => ?_⟩
    rw [noticeReturned, recorder_noticeReturned_eq ⟨n, .power, .note⟩] at hi
    obtain ⟨img, hold, rfl⟩ := Option.map_eq_some_iff.1 hi
    exact (h.init hm).2 img hold

/-- The store accepts a request when it is idle, and the operation that begins is no WRITE (R155, R156). -/
theorem begin_op {st : Store} {kind : OpKind} {n : Nat} {maintenance : Bool} (h : st.requestResult kind n maintenance = .ok) :
    st.op = .none ∧ (st.begin kind n).op ≠ .none ∧ (∀ m l v, (st.begin kind n).op ≠ .write m l v) ∧
    (st.begin kind n).nextNumber = st.nextNumber := by
  unfold Store.requestResult at h
  cases hx : st.slot? n with
  | none => simp [hx] at h
  | some x =>
    cases hb : st.busy with
    | true => simp [hx, hb] at h
    | false =>
      have ho : st.op = .none := by simpa [Store.busy] using hb
      cases kind with
      | write => simp [hx, hb] at h
      | _ => simp [Store.begin, hx, ho, Store.setSlot]

theorem CaptureWhole.begun {s : State} (h : CaptureWhole s) {kind : OpKind} {n : Nat} {maintenance : Bool}
    (hok : s.store.requestResult kind n maintenance = .ok) : CaptureWhole (s.setStore (s.store.begin kind n)) := by
  obtain ⟨ho, hbusy, hnowrite, hnext⟩ := begin_op hok
  refine ⟨h.recorder, h.timer, fun hm => ?commit, fun hm => nomatch ho.symm.trans (h.init hm).1⟩
  have hcommit := h.commit hm
  exact ⟨⟨fun m l v hop => absurd hop (hnowrite m l v), fun m l v _ _ hop => absurd hop (hnowrite m l v),
    fun _ => hnext.symm ▸ hcommit.expected (by simp [ho]), hnext.symm ▸ hcommit.next, fun hop => absurd hop hbusy⟩,
    fun _ => hbusy⟩

theorem CaptureWhole.moved {s t : State} (h : CaptureWhole s) (k : ModeMoved s t) : CaptureWhole t := by
  obtain ⟨⟨hm, hm'⟩, recorder, timer, store, -⟩ := k
  refine ⟨recorder ▸ h.recorder.setSnapshotTimer _, timer, fun _ => ?_, fun hi => absurd hi hm'⟩
  rw [recorder, store]
  exact (h.commit hm).of_image rfl fun img hi => ⟨img, hi, rfl, rfl⟩

theorem captureInvariant_captureWhole : CaptureInvariant CaptureWhole :=
  ⟨.same, fun c g o h => h.raised c g o, fun k h => h.logged k, fun n h => h.returned n, fun h hok => h.begun hok, .moved⟩

end Sys2Proof.Machine
end

section
/-!
PROOFS. An image kept through a hard reset is written again at the end of the scan (O21): what INIT makes of it, and that the entry
to RUN or SAFE which follows leaves its WRITE in flight.
-/

namespace Sys2Proof.Machine

open Sys2Proof

/-! ### What INIT makes of a kept image -/

/-- A kept image as INIT writes it: truncated when the reset cut its window off (R151). -/
def Image.settled (c : CaptureState) (img : Image) : Image :=
  { img with flags := { img.flags with truncated := img.flags.truncated || c == .filling } }

theorem settleKept_image {r : Recorder} {img : Image} (hc : r.capture ≠ .idle) (hi : r.image = some img) :
    r.settleKept = { r with capture := .committing, image := some (img.settled r.capture) } := by
  unfold Recorder.settleKept
  cases h : r.capture with
  | idle => exact absurd h hc
  | filling => simp [hi, Image.settled]
  | committing =>
    have hwhole : (CaptureState.committing == .filling) = false := rfl
    have hsame : img.settled .committing = img := by simp [Image.settled, hwhole]
    rw [hsame, ← hi]
    change r = { r with capture := .committing }
    rw [← h]

theorem settleKept_idle {r : Recorder} (hc : r.capture = .idle) : r.settleKept = r := by
  rw [Recorder.settleKept, hc]

theorem settled_recorder (cut : MarkReading) (s : State) : (s.settled cut).recorder = s.recorder.settleKept := by
  simp [State.settled]

/-- With no kept image there is nothing to write (R151). -/
theorem settled_store_idle {s : State} (cut : MarkReading) (hc : s.recorder.capture = .idle) :
    (s.settled cut).store = s.store.scanDone cut := by
  rw [State.settled, beginCommit_eq_self (.inl (by simp [settleKept_idle hc, hc]))]
  simp

/-- A kept image is written under its own number into the slot that R159 chooses after the scan (R151, R158, R164). -/
theorem settled_store_image {s : State} {cut : MarkReading} {img : Image} {n : Nat} (hc : s.recorder.capture ≠ .idle)
    (hi : s.recorder.image = some img) (hn : (s.store.scanDone cut).chooseSlot = some n) :
    (s.settled cut).store = (s.store.scanDone cut).beginWrite n (img.settled s.recorder.capture) := by
  have hkept := settleKept_image hc hi
  rw [State.settled, beginCommit_eq (img := img.settled s.recorder.capture) (n := n) (by simp [hkept]) (by simp [hkept])
    (by simp; rfl) (by simpa using hn)]
  simp

/-! ### The entries that follow -/

/-- From `s` to `t` the WRITE of the image stands, with what of the image its slot will hold of it (R145). -/
structure WriteStands (img : Image) (s t : State) : Prop where
  capture : t.recorder.capture = .committing
  store : t.store = s.store
  image : ∃ img', t.recorder.image = some img' ∧ img'.number = img.number ∧ img'.post = img.post ∧
    img'.flags.truncated = img.flags.truncated

theorem log_committing {r : Recorder} (hc : r.capture = .committing) (e : Event) :
    r.log e = { r with events := pushRing 32 e r.events } := by
  simp [Recorder.log, hc]

/-- POWER waits behind the WRITE, and the NOTICEs taken from the line come back to the image (R113, R146). -/
theorem writeStands_powerFail {s : State} {img : Image} (hc : s.recorder.capture = .committing)
    (hi : s.recorder.image = some img) : WriteStands img s (powerFail s) := by
  have hsafe : (enterSafe s).recorder.image = some (img.returned s.line.noticesTaken) := by
    rw [enterSafe_recorder, log_committing hc, hi]; rfl
  have hcapture : (enterSafe s).recorder.capture = .committing := (enterSafe_capture s).trans hc
  have hraise := raise_power (s := enterSafe s) (by simp)
  generalize ht : (enterSafe s).setRecorder { (enterSafe s).recorder with
    lastOccurrence := (enterSafe s).recorder.lastOccurrence.set 11 (some (enterSafe s).now) } = t at hraise
  have htcapture : t.recorder.capture = .committing := ht ▸ hcapture
  have htimage : t.recorder.image = some (img.returned s.line.noticesTaken) := ht ▸ hsafe
  have htstore : t.store = s.store := by rw [← ht]; simp
  obtain ⟨-, himage, hcapture', -⟩ := fire_power_committing (now := (enterSafe s).now) htcapture
  rw [powerFail, hraise]
  exact ⟨hcapture', by rw [fire_committing htcapture]; simpa using htstore, _, himage.trans htimage, rfl, rfl, rfl⟩

theorem writeStands_changeMode {s : State} {img : Image} (m : Mode) (hc : s.recorder.capture = .committing)
    (hi : s.recorder.image = some img) : WriteStands img s (changeMode m s) := by
  refine ⟨by simpa [Recorder.log] using hc, by simp, img, ?_, rfl, rfl, rfl⟩
  rw [changeMode_recorder, log_committing hc, hi]

theorem writeStands_enterRun {s : State} {img : Image} (hc : s.recorder.capture = .committing)
    (hi : s.recorder.image = some img) : WriteStands img s (enterRun true s) := by
  have hrecorder := worksInRun_recorder s
  rw [log_committing hc] at hrecorder
  have hstore : s.worksInRun.store = s.store := by simp [State.worksInRun]
  cases hw : s.control.warning with
  | false =>
    rw [enterRun_unwarned hw]
    exact ⟨by rw [hrecorder]; exact hc, hstore, img, by rw [hrecorder, hi], rfl, rfl, rfl⟩
  | true =>
    rw [enterRun_warned hw]
    obtain ⟨capture, store, image⟩ := writeStands_powerFail (s := s.worksInRun.setControl { s.worksInRun.control with
      releaseTimer := none }) (img := img) (by simpa [hrecorder] using hc) (by simp [hrecorder, hi])
    exact ⟨capture, store.trans hstore, image⟩

/-- Settles O21: the WRITE begins in INIT, and every entry that INIT can end in leaves it in flight. -/
theorem keptImageIsWrittenAgain : Obligations.KeptImageIsWrittenAgain := by
  unfold Obligations.KeptImageIsWrittenAgain
  intro dt cut s img hs hreleased hm hi
  have hop := hs.store.scanning hreleased hm
  have hc : s.recorder.capture ≠ .idle := by
    have himage := hs.recorder.image
    rw [hi] at himage
    exact of_decide_eq_true himage.symm
  have hkept : (img.settled s.recorder.capture).kept = true := hs.commit.kept hm img hi
  obtain ⟨n, hn⟩ := hs.store.scanDone_chooses cut
  generalize hv : (s.advance dt).settled cut = v
  have hrecorder : v.recorder =
      { s.recorder with capture := .committing, image := some (img.settled s.recorder.capture) } := by
    rw [← hv, settled_recorder]; exact settleKept_image hc hi
  have hstore : v.store = (s.store.scanDone cut).beginWrite n (img.settled s.recorder.capture) := by
    rw [← hv]; exact settled_store_image (s := s.advance dt) hc hi hn
  have hend : scanEndEffect cut (s.advance dt) =
      if v.control.active.isSome then enterRun true v else changeMode .config v := by
    rw [scanEndEffect_eq, if_pos ⟨hm, hop⟩, hv]
  have hstands : WriteStands (img.settled s.recorder.capture) v (scanEndEffect cut (s.advance dt)) := by
    rw [hend]
    split
    · exact writeStands_enterRun (by rw [hrecorder]) (by rw [hrecorder])
    · exact writeStands_changeMode _ (by rw [hrecorder]) (by rw [hrecorder])
  obtain ⟨hcapture, hkeeps, hfinal⟩ := hstands
  have hassigned : (s.store.scanDone cut).assigned (img.settled s.recorder.capture) = img.number := if_pos hkept
  refine ⟨_, n, exec_scanEnd ⟨hreleased, lacksRecord_false hs.mode⟩, hn, hcapture, hfinal, ?_, ?_, ?_⟩ <;> rw [hkeeps, hstore]
  · exact beginWrite_op _ _ _
  · exact ⟨_, beginWrite_slot? hn _, rfl, hassigned⟩
  · exact congrArg nextIncident hassigned

end Sys2Proof.Machine
end

section
/-!
PROOFS. What the capture keeps through the commands that move it themselves (O11): the snapshot, the completions of the store's
operations, the end of the scan, and the resets.
-/

namespace Sys2Proof.Machine

open Sys2Proof

/-! ### The snapshot -/

theorem Recorder.Whole.snapped {s : State} (h : s.recorder.Whole) : s.snapped.Whole :=
  ⟨pushRing_length _ _, h.events, h.occurrences, h.image, h.each, h.filling, h.pending, h.merged, h.opened⟩

/-- An image of fewer than 32 post-trigger snapshots takes another (R132, R141). -/
theorem ImageSafe.addPost {img : Image} (h : ImageSafe img) (hpost : img.post.length ≤ 31) (x : Snapshot) :
    ImageSafe (img.addPost x) :=
  ⟨h.number, h.pre, by simp [Image.addPost]; omega, h.events, h.secondary, h.noticed, h.unnoticed⟩

/-- The snapshot timer runs on, the rings keep their sizes, and the 32nd snapshot's WRITE begins or waits (R132, R141, R145). -/
theorem CaptureWhole.snapshot {s : State} (h : CaptureWhole s) : CaptureWhole (snapshotEffect s) := by
  cases due : timerDue s.recorder.snapshotTimer 100 s.now with
  | false => rw [snapshotEffect_early due]; exact h
  | true =>
    have hm : s.control.mode ≠ .init := Mode.ne_init_of_working (h.timer ▸ isSome_of_timerDue due)
    have hsnapped := h.recorder.snapped
    have htimer : s.snapped.snapshotTimer.isSome = s.control.mode.working := by
      simp [State.snapped, timerNext, h.timer]
    by_cases hc : s.recorder.capture = .filling
    · obtain ⟨img, hi⟩ := h.recorder.exists_image (by simp [hc])
      have hpost := h.recorder.filling hc img hi
      have himage := (h.recorder.each img hi).addPost hpost s.takeSnapshot
      have hpending : s.snapped.pendingTrigger.isSome = true → False :=
        fun hp => nomatch hc.symm.trans (h.recorder.pending hp)
      rw [snapshotEffect_filling due hc hi]
      split
      · have hfull : { s.snapped with capture := .committing, image := some (img.addPost s.takeSnapshot) }.Whole :=
          hsnapped.setImage himage (by simp) (fun hf => nomatch hf) fun _ => rfl
        have hready : CommitReady { s.snapped with capture := .committing, image := some (img.addPost s.takeSnapshot) } s.store := by
          refine (h.commit hm).toCommitReady.of_image (fun _ => rfl) ?_
          rintro _ ⟨⟩
          exact ⟨img, hi, rfl, rfl⟩
        exact ⟨by simpa using hfull, by simpa using htimer, fun _ => CommitReady.beginCommit hready hfull,
          fun hm' => absurd hm' (by simpa using hm)⟩
      · rename_i hroom
        have hlength : (img.addPost s.takeSnapshot).post.length ≤ 31 := by simp [Image.addPost]; omega
        have hwhole := hsnapped.setImage himage (c := .filling) (by simp) (fun _ => hlength) fun hp => (hpending hp).elim
        rw [← hc] at hwhole
        refine ⟨hwhole, htimer, fun _ => (h.commit hm).of_image rfl ?_, fun hm' => absurd hm' hm⟩
        rintro _ ⟨⟩
        exact ⟨img, hi, rfl, rfl⟩
    · rw [snapshotEffect_outside due hc]
      exact ⟨hsnapped, htimer, fun _ => (h.commit hm).of_image rfl fun img hi => ⟨img, hi, rfl, rfl⟩, fun hm' => absurd hm' hm⟩

/-! ### The completions -/

section Completions

/-- With no operation in flight the commit's relations are about the next WRITE alone. -/
theorem CommitReady.of_free {r : Recorder} {st : Store} (ho : st.op = .none)
    (expected : ∀ img, r.image = some img → img.kept = false ∧ img.number = st.nextNumber)
    (next : 1 ≤ st.nextNumber ∧ st.nextNumber ≤ 65535) (room : ∃ n, st.chooseSlot = some n) : CommitReady r st where
  write := fun _ _ _ hw => nomatch ho.symm.trans hw
  writing := fun _ _ _ _ _ hw => nomatch ho.symm.trans hw
  expected := fun _ => expected
  next := next
  room := fun _ => room

variable {s : State} (h : CaptureWhole s) (hst : StoreSafe s) (released : s.heldInReset = false)
include h

/-- Only the scan is in flight in INIT (R165). -/
theorem CaptureWhole.started_of_op (released : s.heldInReset = false) (ho : s.store.op ≠ .scan) : s.started :=
  ⟨released, fun hm => ho (h.init hm).1⟩

/-- A completion other than a WRITE's frees the store, and a commit that waited begins (R145, R157). -/
theorem CaptureWhole.finished (hm : s.control.mode ≠ .init) (hnowrite : ∀ n l v, s.store.op ≠ .write n l v) {st : Store}
    (ho : st.op = .none) (hnext : st.nextNumber = s.store.nextNumber) (room : ∃ n, st.chooseSlot = some n) :
    CaptureWhole (beginCommit (s.setStore st)) := by
  have hcommit := h.commit hm
  have hready : CommitReady s.recorder st :=
    .of_free ho (hnext.symm ▸ hcommit.expected hnowrite) (hnext.symm ▸ hcommit.next) room
  exact ⟨by simpa using h.recorder, by simpa using h.timer, fun _ => CommitReady.beginCommit hready h.recorder,
    fun hm' => absurd hm' (by simpa using hm)⟩

include hst released

theorem CaptureWhole.eraseComplete (clear : Bool) : CaptureWhole (eraseCompleteEffect clear s) := by
  by_cases he : ∃ n, s.store.op = .erase n
  · obtain ⟨n, ho⟩ := he
    have hs := h.started_of_op released (by simp [ho])
    obtain ⟨x, hx, -⟩ := hst.busy .erasing (by rw [ho]; rfl)
    have hstate : (Slot.erased clear).state = .free ∨ (Slot.erased clear).state = .damaged := by
      cases clear; exacts [.inr rfl, .inl rfl]
    have hcount : (Slot.erased clear).mayLock = false := by cases clear <;> rfl
    have hslots : s.store.slots.set (n - 1) (Slot.erased clear) = s.store.slots.set (s.store.op.slot - 1) (Slot.erased clear) := by
      rw [ho]; rfl
    rw [eraseCompleteEffect_eq ho]
    exact h.finished hs.2 (by simp [ho]) rfl rfl (hst.chooses_after hs hx (by rcases hstate with hy | hy <;> simp [hy])
      (by rcases hstate with hy | hy <;> simp [hy]) (by simp [hcount]) hslots)
  · rw [eraseCompleteEffect_other fun n ho => he ⟨n, ho⟩]; exact h

omit h released in
/-- A slot whose mark is being written is one that a scan may find LOCKED, and stays one when the mark reads back as set (R163,
R165). -/
theorem StoreSafe.marked_chooses (hs : s.started) {x : Slot} (m : MarkReading) (hx : s.store.slot? s.store.op.slot = some x)
    (hop : s.store.op.slotState = some .stored ∨ s.store.op.slotState = some .locked) {st : Store}
    (slots : st.slots = s.store.slots.set (s.store.op.slot - 1) (x.marked m)) : ∃ n, st.chooseSlot = some n := by
  have hmark := hst.marking hop x hx
  have hmem : x ∈ s.store.slots := by
    obtain ⟨-, hget⟩ := Store.slot?_eq_some.1 hx
    exact List.mem_of_getElem? hget
  have hstate : x.state = .stored ∨ x.state = .locked := by
    rcases hop with hop | hop <;> obtain ⟨y, hy, hstate⟩ := hst.busy _ hop <;> cases hx.symm.trans hy
    exacts [.inl hstate, .inr hstate]
  have hheader : x.header.isSome = true ∧ x.tag = false := by
    have hcontent := (hst.each x hmem).content
    rcases hstate with hstate | hstate <;> rw [hstate] at hcontent
    exacts [⟨hcontent.1, hcontent.2.1⟩, ⟨hcontent.1, hcontent.2.1⟩]
  obtain ⟨hheader, htag⟩ := hheader
  have hx' : x.mayLock = true := by simp [Slot.mayLock, hheader, htag, hmark]
  have hidle : (x.marked m).state ≠ .writing ∧ (x.marked m).state ≠ .erasing := by
    simp only [Slot.marked, markState]; split <;> simp
  have hlocks : (x.marked m).state = .locked → (x.marked m).mayLock = true := by
    simp only [Slot.marked, markState, Slot.mayLock]
    split <;> simp_all
  exact hst.chooses_after hs hx hidle hlocks (by rw [hx']; exact Nat.le_add_right_of_le (Bool.toNat_le _)) slots

theorem CaptureWhole.lockComplete (m : MarkReading) : CaptureWhole (lockCompleteEffect m s) := by
  by_cases he : ∃ n, s.store.op = .lock n
  · obtain ⟨n, ho⟩ := he
    have hs := h.started_of_op released (by simp [ho])
    have hop : s.store.op.slotState = some .stored := by rw [ho]; rfl
    have hslot : s.store.op.slot = n := by rw [ho]; rfl
    obtain ⟨x, hx, -⟩ := hst.busy .stored hop
    rw [lockCompleteEffect_eq ho (hslot ▸ hx)]
    exact h.finished hs.2 (by simp [ho]) rfl rfl (hst.marked_chooses hs m hx (.inl hop) (by rw [hslot]))
  · rw [lockCompleteEffect_other fun n ho => he ⟨n, ho⟩]; exact h

theorem CaptureWhole.unlockComplete (m : MarkReading) : CaptureWhole (unlockCompleteEffect m s) := by
  by_cases he : ∃ n, s.store.op = .unlock n
  · obtain ⟨n, ho⟩ := he
    have hs := h.started_of_op released (by simp [ho])
    have hop : s.store.op.slotState = some .locked := by rw [ho]; rfl
    have hslot : s.store.op.slot = n := by rw [ho]; rfl
    obtain ⟨x, hx, -⟩ := hst.busy .locked hop
    rw [unlockCompleteEffect_eq ho (hslot ▸ hx)]
    exact h.finished hs.2 (by simp [ho]) rfl rfl (hst.marked_chooses hs m hx (.inr hop) (by rw [hslot]))
  · rw [unlockCompleteEffect_other fun n ho => he ⟨n, ho⟩]; exact h

omit h hst released in
/-- After its WRITE nothing of the incident is left but its number (R148). -/
theorem Recorder.Whole.writeDone {r : Recorder} (h : r.Whole) : r.writeDone.Whole where
  history := h.history
  events := h.events
  occurrences := h.occurrences
  image := rfl
  each := fun _ hi => nomatch hi
  filling := fun hc => nomatch hc
  pending := fun hp => nomatch hp
  merged := fun _ hp => nomatch hp
  opened := h.opened

/-- A completed WRITE leaves the capture IDLE with a slot to write, and the pending trigger's incident opens (R148, R159). -/
theorem CaptureWhole.writeComplete (rb : ReadBack) : CaptureWhole (writeCompleteEffect rb s) := by
  by_cases he : ∃ n l v, s.store.op = .write n l v
  · obtain ⟨n, lock, refused, ho⟩ := he
    have hs := h.started_of_op released (by simp [ho])
    have hcommit := h.commit hs.2
    have hslot : s.store.op.slot = n := by rw [ho]; rfl
    obtain ⟨x, hx, -⟩ := hst.busy .writing (by rw [ho]; rfl)
    obtain ⟨img, hi⟩ := h.recorder.exists_image (by simp [hcommit.write n lock refused ho])
    rw [writeCompleteEffect_eq ho hi (hslot ▸ hx)]
    generalize hwritten : Slot.written img x.writing lock refused rb = y
    have hstate : y.state = if lock then .locked else .stored := by rw [← hwritten]; rfl
    have hmay : y.mayLock = lock := by rw [← hwritten]; cases lock <;> rfl
    have hcount : y.mayLock.toNat ≤ x.mayLock.toNat + s.store.op.toLock := by
      rw [hmay, ho]; cases lock
      exacts [Nat.zero_le _, Nat.le_add_left _ _]
    generalize hdone : ({ s.store with
      slots := s.store.slots.set (n - 1) y, op := .none, lastResult := some ⟨.write, n, readBackMatched rb⟩ } : Store) = st
    have hop : st.op = .none := by rw [← hdone]
    have hroom : ∃ n, st.chooseSlot = some n := by
      refine hst.chooses_after hs hx (by rw [hstate]; cases lock <;> simp) (fun hl => ?_) hcount (by rw [← hdone, hslot])
      rw [hmay]; cases lock
      · cases hstate.symm.trans hl
      · rfl
    have hready : CommitReady s.recorder.writeDone st :=
      .of_free hop (fun _ hi => nomatch hi) (by rw [← hdone]; exact hcommit.next) hroom
    have hwhole := h.recorder.writeDone
    cases hp : s.recorder.pendingTrigger with
    | none =>
      exact ⟨hwhole, h.timer, fun _ => ⟨hready, fun hc => nomatch hc⟩, fun hm => absurd hm hs.2⟩
    | some p =>
      have hopens := openIncident_whole (f := p) (s := (s.setStore st).setRecorder s.recorder.writeDone)
        (h.recorder.merged p hp).1 hwhole hready rfl
      have hsnapshots : (openIncident p ((s.setStore st).setRecorder s.recorder.writeDone)).recorder.snapshotTimer =
          s.recorder.snapshotTimer := by
        rw [openIncident_eq]; simp [State.openedRecorder, Recorder.writeDone]
      exact ⟨hopens.1, by simpa [openPending, hsnapshots] using h.timer, fun _ => hopens.2,
        fun hm => absurd hm (by simpa [openPending] using hs.2)⟩
  · rw [writeCompleteEffect_other fun n l v ho => he ⟨n, l, v, ho⟩]; exact h

end Completions

/-! ### The end of the scan -/

/-- A kept image is COMMITTING (R151). -/
theorem Recorder.Whole.settleKept {r : Recorder} (h : r.Whole) : r.settleKept.Whole := by
  by_cases hc : r.capture = .idle
  · rw [settleKept_idle hc]; exact h
  · obtain ⟨img, hi⟩ := h.exists_image hc
    rw [settleKept_image hc hi]
    exact h.setImage ((h.each img hi).setFlags _ _) (by simp) (fun hf => nomatch hf) fun _ => rfl

/-- After the scan a device in CONFIG meets the relations, the kept image being written under its own number (R151, R164, R165). -/
theorem CaptureWhole.settled {s : State} (h : CaptureWhole s) (hst : StoreSafe s) (hm : s.control.mode = .init)
    (cut : MarkReading) :
    CaptureWhole ((s.settled cut).setControl { (s.settled cut).control with mode := .config }) := by
  have htimer : s.recorder.settleKept.snapshotTimer.isSome = false := by
    have hkeeps : s.recorder.settleKept.snapshotTimer = s.recorder.snapshotTimer := by
      unfold Recorder.settleKept; split <;> rfl
    rw [hkeeps, h.timer, hm]; rfl
  have hwhole : (s.settled cut).recorder.Whole := by rw [settled_recorder]; exact h.recorder.settleKept
  refine ⟨hwhole, by simpa [settled_recorder, Mode.working] using htimer, fun _ => ?_, fun hm' => nomatch hm'⟩
  obtain ⟨n, hn⟩ := hst.scanDone_chooses cut
  have hop : (s.store.scanDone cut).op = .none := rfl
  suffices hcommit : CommitWhole (s.settled cut).recorder (s.settled cut).store from hcommit
  rw [settled_recorder]
  by_cases hc : s.recorder.capture = .idle
  · have hi : s.recorder.image = none := by simpa [hc] using h.recorder.image
    rw [settled_store_idle cut hc, settleKept_idle hc]
    exact ⟨.of_free hop (fun img hi' => nomatch hi.symm.trans hi') (hst.scanDone_next cut) ⟨n, hn⟩,
      fun hc' => nomatch hc.symm.trans hc'⟩
  · obtain ⟨img, hi⟩ := h.recorder.exists_image hc
    have hassigned : (s.store.scanDone cut).assigned (img.settled s.recorder.capture) = img.number :=
      if_pos ((h.init hm).2 img hi)
    obtain ⟨l, v, hwrite⟩ := beginWrite_op (s.store.scanDone cut) n (img.settled s.recorder.capture)
    rw [settled_store_image hc hi hn, settleKept_image hc hi]
    refine ⟨⟨fun _ _ _ _ => rfl, fun k l' v' img' x ho' hi' hx => ?_, fun h' => absurd hwrite (h' _ _ _),
      nextIncident_range (hassigned ▸ (h.recorder.each img hi).number.2), fun h' => nomatch hwrite.symm.trans h'⟩,
      fun _ h' => nomatch hwrite.symm.trans h'⟩
    obtain rfl : n = k := by cases hwrite.symm.trans ho'; rfl
    cases (beginWrite_slot? hn (img.settled s.recorder.capture)).symm.trans hx
    cases hi'
    exact hassigned

theorem CaptureWhole.scanEnd {s : State} (h : CaptureWhole s) (hst : StoreSafe s) (cut : MarkReading) :
    CaptureWhole (scanEndEffect cut s) := by
  rw [scanEndEffect_eq]
  split
  · rename_i hscan
    have hconfig := h.settled hst hscan.1 cut
    split
    · exact captureInvariant_captureWhole.enterRun_fresh hconfig
    · exact hconfig.logged (.mode (s.settled cut).control.mode .config)
  · exact h

/-! ### A step -/

/-- Every command but a reset's keeps the relations of a device that is not held in reset. -/
theorem CaptureWhole.effectOf {s : State} (h : CaptureWhole s) (hst : StoreSafe s) (released : s.heldInReset = false) {c : Instr}
    (hc : resetCommand c = false) : CaptureWhole (effectOf c s) := by
  cases hmoves : movesCapture c with
  | false => exact captureInvariant_captureWhole.effectOf h h.timer hmoves
  | true =>
    cases c with
    | scanEnd dt cut => exact h.scanEnd hst cut
    | snapshot dt => exact h.snapshot
    | writeComplete dt rb => exact h.writeComplete hst released rb
    | eraseComplete dt clear => exact h.eraseComplete hst released clear
    | lockComplete dt m => exact h.lockComplete hst released m
    | unlockComplete dt m => exact h.unlockComplete hst released m
    | powerOnResetRelease | hardResetRelease | resetAsserted => cases hc
    | _ => cases hmoves

/-- The relations of the Recorder and of the commit, whether the device is held in reset or not. -/
def CaptureSafe (s : State) : Prop := RecorderSafe s ∧ CommitSafe s

theorem CaptureSafe.same {s t : State} (h : CaptureSafe s) (k : SameCapture s t) : CaptureSafe t := by
  obtain ⟨recorder, store, mode, held⟩ := k
  obtain ⟨hr, hc⟩ := h
  have hstarted : t.started ↔ s.started := by simp only [State.started, held, mode]
  refine ⟨Recorder.Whole.safe (recorder ▸ hr.whole) (by rw [recorder, mode, hr.timer]), ?_⟩
  constructor <;> simp only [recorder, store, mode, hstarted]
  exacts [hc.commit, hc.write, hc.writing, hc.expected, hc.kept]

/-- While a reset is asserted no operation is in flight, and the image stands as it is (R151, R166). -/
theorem CaptureSafe.resetAsserted {s : State} (h : CaptureSafe s) (input : ResetInput) :
    CaptureSafe (resetAssertedEffect input s) := by
  obtain ⟨hr, hc⟩ := h
  have hop : (resetAssertedEffect input s).store.op = .none := rfl
  have hheld : ¬ (resetAssertedEffect input s).started := fun hs =>
    Bool.false_ne_true (hs.1.symm.trans (resetAsserted_heldInReset input s))
  have hrecorder : RecorderSafe (resetAssertedEffect input s) := Recorder.Whole.safe hr.whole hr.timer
  exact ⟨hrecorder, fun hs => absurd hs hheld, fun _ _ _ hw => (nomatch hop.symm.trans hw),
    fun _ _ _ _ _ hw => (nomatch hop.symm.trans hw), fun hs => absurd hs hheld, hc.kept⟩

theorem Recorder.Whole.reset : Recorder.reset.Whole := safe_reset.recorder.whole

/-- A hard reset keeps the capture state and the image (R151). -/
theorem Recorder.Whole.kept {r : Recorder} (h : r.Whole) : r.kept.Whole := by
  have himage := h.mapImage (f := fun img => { img with kept := true }) (fun _ hi => hi.setFlags _ _) fun _ => rfl
  exact ⟨Nat.zero_le _, Nat.zero_le _, rfl, himage.image, himage.each, himage.filling, fun hp => (nomatch hp),
    fun _ hp => (nomatch hp), Nat.zero_le _⟩

/-- In INIT the scan is in flight, and an image there is one kept (R151, R165). -/
theorem captureSafe_of_init {s : State} (hr : s.recorder.Whole) (htimer : s.recorder.snapshotTimer = none)
    (hm : s.control.mode = .init) (ho : s.store.op = .scan) (hkept : ∀ img, s.recorder.image = some img → img.kept = true) :
    CaptureSafe s :=
  CaptureWhole.safe ⟨hr, by rw [htimer, hm]; rfl, fun hm' => absurd hm hm', fun _ => ⟨ho, hkept⟩⟩

/-- A release begins the scan with the image that the reset keeps, if any (R151, R152, R190). -/
theorem captureSafe_resetReleased {s : State} (hr : s.recorder.Whole) (held : s.heldInReset = true → CaptureSafe s)
    (powerOn : Bool) (levels : ReleaseLevels) : CaptureSafe (resetReleased powerOn levels s) := by
  unfold Machine.resetReleased
  split
  · rename_i hheld; exact held hheld
  · split
    · exact captureSafe_of_init Recorder.Whole.reset rfl rfl rfl fun _ hi => nomatch hi
    · refine captureSafe_of_init hr.kept rfl rfl rfl fun _ hi => ?_
      obtain ⟨img, -, rfl⟩ := Option.map_eq_some_iff.1 hi
      rfl

theorem StoreSafe.same {s t : State} (h : StoreSafe s) (k : SameCapture s t) : StoreSafe t := by
  obtain ⟨-, store, mode, held⟩ := k
  have hstarted : t.started ↔ s.started := by simp only [State.started, held, mode]
  constructor <;> simp only [store, mode, held, hstarted]
  exacts [h.slots, h.each, h.locked, h.scan, h.scanning, h.busy, h.marking, h.marks, h.working, h.next]

theorem sameCapture_advance (dt : Passage) (s : State) : SameCapture s (s.advance dt) :=
  .of_blocks (by simp) (by simp) (by simp) (by simp)

/-- A reset's command keeps the relations, whatever it meets. -/
theorem CaptureSafe.effectOf {s : State} (h : CaptureSafe s) {c : Instr} (hc : resetCommand c = true) :
    CaptureSafe (effectOf c s) := by
  cases c with
  | powerOnResetRelease dt levels =>
    refine captureSafe_resetReleased (s := s.setPins { s.pins with powerOnReset := false }) h.1.whole (fun held => ?_) true levels
    have hhard : s.pins.hardReset = true := by simpa [State.heldInReset] using held
    exact h.same ⟨rfl, rfl, rfl, by simp [State.heldInReset, hhard]⟩
  | hardResetRelease dt levels =>
    refine captureSafe_resetReleased (s := s.setPins { s.pins with hardReset := false }) h.1.whole (fun held => ?_) false levels
    have hpower : s.pins.powerOnReset = true := by simpa [State.heldInReset] using held
    exact h.same ⟨rfl, rfl, rfl, by simp [State.heldInReset, hpower]⟩
  | resetAsserted dt input => exact h.resetAsserted input
  | _ => cases hc

/-- Settles O11: a step is a passage and at most one command's effect, and each keeps the relations. -/
theorem captureStaysWhole : Obligations.CaptureStaysWhole := by
  unfold Obligations.CaptureStaysWhole
  intro s t hs hstep
  have h : CaptureSafe s := ⟨hs.recorder, hs.commit⟩
  unfold step at hstep
  split at hstep
  · cases hstep; exact h.same (sameCapture_advance _ s)
  · rename_i c rest _
    have hpending : SameCapture s (s.setPending rest) := ⟨rfl, rfl, rfl, rfl⟩
    have hsame := hpending.trans (sameCapture_advance c.dt (s.setPending rest))
    rcases exec_cases hstep with ⟨rfl, hc⟩ | ⟨rfl, -⟩
    · cases hreset : resetCommand c with
      | true => exact (h.same hsame).effectOf hreset
      | false =>
        have released : s.heldInReset = false := (hc.resolve_left (by simp [hreset])).1
        exact (((hs.captureWhole released).same hsame).effectOf (hs.store.same hsame) (hsame.held.trans released) hreset).safe
    · exact h.same hsame

end Sys2Proof.Machine
end

section
/-!
PROOFS. What the Store Controller keeps (O12): the store's own relations, through the beginning and the end of an operation, the
scan and a cut-off (`Store.Holds`, `Store.AtWork`), and then through every command (`StoreWhole`).
-/

namespace Sys2Proof.Machine

open Sys2Proof

/-! ### The store by itself -/

/-- What no reset breaks: sixteen slots whose content fits their state, and no more than 12 that are LOCKED, or become so at the
next scan or at the completion of the WRITE in flight (R153, R158, R165). -/
structure Store.Holds (st : Store) : Prop where
  slots : st.slots.length = 16
  each : ∀ x ∈ st.slots, SlotSafe x
  locked : st.slots.countP Slot.mayLock + st.op.toLock ≤ 12

/-- The store of a device at work: the scan is over, and a slot is in a passing state or without a lock mark only while the
operation in flight is on it (R153, R155). -/
structure Store.AtWork (st : Store) : Prop extends Store.Holds st where
  scan : st.op ≠ .scan
  busy : ∀ want, st.op.slotState = some want → ∃ x, st.slot? st.op.slot = some x ∧ x.state = want
  marking : (st.op.slotState = some .stored ∨ st.op.slotState = some .locked) →
    ∀ x, st.slot? st.op.slot = some x → x.mark = none
  marks : ∀ n x, st.slot? n = some x → x.mark = none → n = st.op.slot ∧
    (st.op.slotState = some .stored ∨ st.op.slotState = some .locked)
  working : ∀ n x, st.slot? n = some x → (x.state = .writing ∨ x.state = .erasing) →
    n = st.op.slot ∧ st.op.slotState = some x.state

theorem mem_of_slot? {st : Store} {n : Nat} {x : Slot} (h : st.slot? n = some x) : x ∈ st.slots :=
  List.mem_of_getElem? (Store.slot?_eq_some.1 h).2

theorem slot?_setSlot {st : Store} {n : Nat} {x : Slot} (hx : st.slot? n = some x) (y : Slot) (m : Nat) :
    (st.setSlot n y).slot? m = if m = n then some y else st.slot? m := by
  obtain ⟨h1, hget⟩ := Store.slot?_eq_some.1 hx
  obtain ⟨hlen, -⟩ := List.getElem?_eq_some_iff.1 hget
  split
  · subst m; exact Store.setSlot_slot?_same h1 (by omega)
  · exact Store.setSlot_slot?_other h1 ‹_›

/-- A store's slots are read from its list of them alone. -/
theorem slot?_congr {st st' : Store} (h : st'.slots = st.slots) (n : Nat) : st'.slot? n = st.slot? n := by
  simp only [Store.slot?, h]

theorem countP_mayLock_setSlot {st : Store} {n : Nat} {x : Slot} (hx : st.slot? n = some x) (y : Slot) :
    (st.setSlot n y).slots.countP Slot.mayLock + x.mayLock.toNat = st.slots.countP Slot.mayLock + y.mayLock.toNat := by
  obtain ⟨hlen, hget⟩ := List.getElem?_eq_some_iff.1 (Store.slot?_eq_some.1 hx).2
  have hset : (st.setSlot n y).slots.countP Slot.mayLock =
      st.slots.countP Slot.mayLock - x.mayLock.toNat + y.mayLock.toNat := by
    rw [Store.setSlot, List.countP_set hlen, hget, Bool.toNat, Bool.toNat, Bool.cond_eq_ite, Bool.cond_eq_ite]
  have hcounted : x.mayLock.toNat ≤ st.slots.countP Slot.mayLock := by
    cases hm : x.mayLock with
    | false => exact Nat.zero_le _
    | true => exact List.countP_pos_iff.2 ⟨x, mem_of_slot? hx, hm⟩
  omega

/-- With its lock mark written, a slot may be found LOCKED exactly when it is (R165). -/
theorem SlotSafe.mayLock_iff {x : Slot} (h : SlotSafe x) (hmark : x.mark ≠ none) : x.mayLock = true ↔ x.state = .locked := by
  refine ⟨fun hm => ?_, h.mayLock⟩
  have hcontent := h.content
  simp only [Slot.mayLock, Bool.and_eq_true, Bool.not_eq_true', bne_iff_ne] at hm
  obtain ⟨⟨hheader, -⟩, hlocks⟩ := hm
  have hnone : x.header ≠ none := Option.isSome_iff_ne_none.1 hheader
  cases hs : x.state <;> rw [hs] at hcontent
  case stored => exact absurd hcontent.2.2 (not_or.2 ⟨hmark, hlocks⟩)
  case damaged => exact absurd hcontent hnone
  case free | writing | erasing => exact absurd hcontent.1 hnone

/-- With no operation in flight the LOCKED slots are those that a scan may find so. -/
theorem Store.AtWork.countP_mayLock {st : Store} (h : st.AtWork) (ho : st.op = .none) :
    st.slots.countP Slot.mayLock = st.lockedCount := by
  refine List.countP_congr fun x hx => ?_
  obtain ⟨n, hn⟩ := slot?_of_mem hx
  have hmark : x.mark ≠ none := fun hm => by
    obtain ⟨-, hop⟩ := h.marks n x hn hm
    simp [ho, Operation.slotState] at hop
  rw [(h.each x hx).mayLock_iff hmark, beq_iff_eq]

theorem Store.Holds.lockedCount {st : Store} (h : st.Holds) : st.lockedCount ≤ 12 := by
  have hle : st.lockedCount ≤ st.slots.countP Slot.mayLock :=
    List.countP_mono_left fun x hx hs => (h.each x hx).mayLock (by simpa using hs)
  have := h.locked
  omega

/-! ### The slot of an operation -/

section SetSlot

variable {st st' : Store} {n : Nat} {x y : Slot}

theorem Store.Holds.set (h : st.Holds) (hx : st.slot? n = some x) (hy : SlotSafe y)
    (slots : st'.slots = (st.setSlot n y).slots)
    (count : st.slots.countP Slot.mayLock + y.mayLock.toNat + st'.op.toLock ≤ 12 + x.mayLock.toNat) : st'.Holds where
  slots := by simpa [slots, Store.setSlot] using h.slots
  each := by
    intro z hz
    rw [slots] at hz
    rcases List.mem_or_eq_of_mem_set hz with hz | rfl
    exacts [h.each z hz, hy]
  locked := by
    have := countP_mayLock_setSlot hx y
    rw [slots]; omega

/-- An operation begins on a slot of an idle store and puts it in the operation's state (R155, R158, R161 to R163). -/
theorem Store.AtWork.begins (h : st.AtWork) (ho : st.op = .none) (hx : st.slot? n = some x) (hy : SlotSafe y)
    (slots : st'.slots = (st.setSlot n y).slots) (slot : st'.op.slot = n) (state : st'.op.slotState = some y.state)
    (mark : y.mark = none ↔ y.state = .stored ∨ y.state = .locked)
    (count : st.lockedCount + y.mayLock.toNat + st'.op.toLock ≤ 12 + x.mayLock.toNat) : st'.AtWork := by
  have hslot := fun m => (slot?_congr slots m).trans (slot?_setSlot hx y m)
  have hself : st'.slot? st'.op.slot = some y := by rw [slot, hslot, if_pos rfl]
  have hidle : ∀ want, st.op.slotState ≠ some want := by rw [ho]; exact fun _ h => nomatch h
  refine ⟨h.set hx hy slots (by rwa [h.countP_mayLock ho]), fun hscan => ?scan, fun want hw => ?busy, fun hw z hz => ?marking,
    fun m z hz hm => ?marks, fun m z hz hw => ?working⟩
  case scan => rw [hscan] at state; cases state
  case busy => exact ⟨y, hself, Option.some.inj (state.symm.trans hw)⟩
  case marking =>
    cases hself.symm.trans hz
    rw [state, Option.some.injEq, Option.some.injEq] at hw
    exact mark.2 hw
  case marks =>
    rw [hslot] at hz
    split at hz
    · cases hz
      rw [state, Option.some.injEq, Option.some.injEq]
      exact ⟨by rwa [slot], mark.1 hm⟩
    · obtain ⟨-, hop⟩ := h.marks m z hz hm
      exact (hop.elim (hidle _) (hidle _)).elim
  case working =>
    rw [hslot] at hz
    split at hz
    · cases hz
      exact ⟨by rwa [slot], state⟩
    · exact absurd (h.working m z hz hw).2 (hidle _)

/-- The operation in flight leaves its slot with its lock mark written and at rest, LOCKED only if the operation's own slot
was counted so (R155, R157). -/
theorem Store.AtWork.ends (h : st.AtWork) (hx : st.slot? st.op.slot = some x) (hy : SlotSafe y)
    (slots : st'.slots = (st.setSlot st.op.slot y).slots) (ho : st'.op = .none) (rest : y.state ≠ .writing ∧ y.state ≠ .erasing)
    (mark : y.mark ≠ none) (count : y.mayLock.toNat ≤ x.mayLock.toNat + st.op.toLock) : st'.AtWork := by
  have hslot := fun m => (slot?_congr slots m).trans (slot?_setSlot hx y m)
  have hlocked := h.locked
  refine ⟨h.set hx hy slots (by rw [ho]; simp only [Operation.toLock]; omega), by simp [ho], by simp [ho, Operation.slotState],
    by simp [ho, Operation.slotState], fun m z hz hm => ?marks, fun m z hz hw => ?working⟩
  case marks =>
    rw [hslot] at hz
    split at hz
    · cases hz; exact absurd hm mark
    · exact absurd (h.marks m z hz hm).1 ‹_›
  case working =>
    rw [hslot] at hz
    split at hz
    · cases hz; exact absurd hw (not_or.2 rest)
    · exact absurd (h.working m z hz hw).1 ‹_›

end SetSlot

/-! ### The operations -/

/-- A slot being written holds nothing that a scan could lock (R158). -/
theorem slotSafe_beginWrite (number : Nat) : SlotSafe (Slot.beginWrite number) := ⟨⟨rfl, rfl⟩, fun _ hh => nomatch hh⟩

theorem Store.AtWork.beginWrite {st : Store} (h : st.AtWork) (ho : st.op = .none) {n : Nat} (hn : st.chooseSlot = some n)
    (img : Image) : (st.beginWrite n img).AtWork := by
  obtain ⟨x, hx, -⟩ := slot?_of_chooseSlot hn
  have hlocked := h.lockedCount
  refine h.begins ho hx (slotSafe_beginWrite (st.assigned img)) rfl rfl rfl (by simp [Slot.beginWrite, Slot.blank]) ?_
  have htoLock : (st.beginWrite n img).op.toLock = if img.cls == .severe && decide (st.lockedCount < 12) then 1 else 0 := by
    simp only [Store.beginWrite]
    split <;> simp [*, Operation.toLock]
  have hmay : (Slot.beginWrite (st.assigned img)).mayLock = false := rfl
  rw [htoLock, hmay]
  split
  · rename_i hlock
    simp only [Bool.and_eq_true, decide_eq_true_eq] at hlock
    simp only [Bool.toNat_false]; omega
  · simp only [Bool.toNat_false]; omega

/-- What an accepted request has found (R156). -/
theorem requestResult_ok {st : Store} {kind : OpKind} {n : Nat} {maintenance : Bool}
    (h : st.requestResult kind n maintenance = .ok) : st.op = .none ∧ ∃ x, st.slot? n = some x ∧
      ((kind = .erase ∧ (x.state = .stored ∨ x.state = .damaged)) ∨
        (kind = .lock ∧ x.state = .stored ∧ st.lockedCount < 12) ∨ (kind = .unlock ∧ x.state = .locked)) := by
  refine ⟨(begin_op h).1, ?_⟩
  have hidle : st.busy = false := by simp [Store.busy, (begin_op h).1]
  unfold Store.requestResult at h
  cases hx : st.slot? n with
  | none => simp [hx] at h
  | some x =>
    refine ⟨x, rfl, ?_⟩
    simp only [hx, hidle, Bool.false_eq_true, if_false] at h
    cases kind with
    | write => cases h
    | erase =>
      refine .inl ⟨rfl, ?_⟩
      by_contra hneither
      simp only [not_or.1 hneither, ne_eq, not_false_eq_true, and_self, if_true] at h
      split at h <;> cases h
    | lock =>
      by_cases hs : x.state = .stored
      · refine .inr (.inl ⟨rfl, hs, ?_⟩)
        by_contra hfull
        simp [hs, Nat.not_lt.1 hfull] at h
      · simp only [hs, ne_eq, not_false_eq_true, if_true] at h
        split at h <;> cases h
    | unlock =>
      refine .inr (.inr ⟨rfl, ?_⟩)
      by_contra hs
      simp [hs] at h

theorem Store.AtWork.begin {st : Store} (h : st.AtWork) {kind : OpKind} {n : Nat} {maintenance : Bool}
    (hok : st.requestResult kind n maintenance = .ok) : (st.begin kind n).AtWork := by
  obtain ⟨ho, x, hx, hcases⟩ := requestResult_ok hok
  have hsafe := h.each x (mem_of_slot? hx)
  have hcontent := hsafe.content
  have hlocked := h.lockedCount
  have hmark : x.mark ≠ none := fun hm => by
    obtain ⟨-, hop⟩ := h.marks n x hx hm
    simp [ho, Operation.slotState] at hop
  rcases hcases with ⟨rfl, -⟩ | ⟨rfl, hs, hroom⟩ | ⟨rfl, hs⟩
  · have hy : SlotSafe x.beginErase := ⟨⟨rfl, rfl⟩, fun _ hh => nomatch hh⟩
    have hmay : x.beginErase.mayLock = false := rfl
    simp only [Store.begin, hx]
    exact h.begins ho hx hy rfl rfl rfl (by simp [Slot.beginErase, hmark]) (by simp [hmay, Operation.toLock]; omega)
  · rw [hs] at hcontent
    have hy : SlotSafe x.beginMark :=
      ⟨by simpa only [Slot.beginMark, hs] using ⟨hcontent.1, hcontent.2.1, by simp⟩, hsafe.number⟩
    have hmay := Bool.toNat_le x.beginMark.mayLock
    simp only [Store.begin, hx]
    exact h.begins ho hx hy rfl rfl (by simp [Slot.beginMark, hs, Operation.slotState]) (by simp [Slot.beginMark, hs])
      (by simp only [Operation.toLock]; omega)
  · rw [hs] at hcontent
    have hy : SlotSafe x.beginMark :=
      ⟨by simpa only [Slot.beginMark, hs] using ⟨hcontent.1, hcontent.2.1, by simp⟩, hsafe.number⟩
    have hmay := Bool.toNat_le x.beginMark.mayLock
    have hmay' := hsafe.mayLock hs
    simp only [Store.begin, hx]
    exact h.begins ho hx hy rfl rfl (by simp [Slot.beginMark, hs, Operation.slotState]) (by simp [Slot.beginMark, hs])
      (by simp only [Operation.toLock, hmay', Bool.toNat_true]; omega)

theorem SlotSafe.header_of_tag {x : Slot} (h : SlotSafe x) (htag : x.tag = true) : x.header = none := by
  have hcontent := h.content
  cases hs : x.state <;> rw [hs] at hcontent
  case writing | erasing => exact hcontent.1
  case damaged => exact hcontent
  case free | stored | locked => exact nomatch htag.symm.trans hcontent.2.1

/-- A mark that reads cleanly as unlocked makes a slot STORED, and any other LOCKED (R162, R163, R165). -/
theorem markState_cases (m : MarkReading) : markState m = .stored ∧ m = .unlocked ∨ markState m = .locked ∧ m ≠ .unlocked := by
  cases m <;> simp [markState]

/-- A slot with a valid header and no operation tag fits the state that its lock mark gives it (R165). -/
theorem slotSafe_of_mark {x : Slot} {m : MarkReading} (hstate : x.state = markState m) (hmark : x.mark = some m)
    (header : x.header.isSome = true) (tag : x.tag = false) (number : ∀ h, x.header = some h → 1 ≤ h.number ∧ h.number ≤ 65535) :
    SlotSafe x := by
  refine ⟨?_, number⟩
  rcases markState_cases m with ⟨hs, hm⟩ | ⟨hs, hm⟩ <;> rw [hstate, hs]
  · exact ⟨header, tag, .inr (hmark.trans (congrArg some hm))⟩
  · exact ⟨header, tag, fun h => hm (Option.some.inj (hmark.symm.trans h))⟩

/-- Every slot fits the state that the scan gives it (R165). -/
theorem SlotSafe.scanned {x : Slot} (h : SlotSafe x) (cut : MarkReading) : SlotSafe (x.scanned cut) := by
  rw [scanned_eq]
  cases htag : x.tag with
  | true => exact ⟨by simpa [htag] using h.header_of_tag htag, h.number⟩
  | false =>
    cases hheader : x.header with
    | some hd => exact slotSafe_of_mark (m := x.mark.getD cut) (by simp) rfl (by simp) rfl (hheader ▸ h.number)
    | none => cases hclear : x.clear <;> exact ⟨by simp, fun _ hh => nomatch hh⟩

/-- The scan makes no slot one to lock that was none (R165). -/
theorem mayLock_scanned {cut : MarkReading} {x : Slot} (h : (x.scanned cut).mayLock = true) : x.mayLock = true := by
  cases hm : x.mark <;> simp_all [scanned_eq, Slot.mayLock]

/-- The scan leaves a store at work: every slot fits the state that it is classified in, and none becomes LOCKED that was not
counted so (R165). -/
theorem Store.Holds.scanDone {st : Store} (h : st.Holds) (cut : MarkReading) : (st.scanDone cut).AtWork := by
  have hslots : (st.scanDone cut).slots = st.slots.map (Slot.scanned cut) := rfl
  have hmem : ∀ {n z}, (st.scanDone cut).slot? n = some z → ∃ x ∈ st.slots, x.scanned cut = z := fun hz =>
    List.mem_map.1 (hslots ▸ mem_of_slot? hz)
  have hcount : (st.scanDone cut).slots.countP Slot.mayLock ≤ st.slots.countP Slot.mayLock := by
    rw [hslots, List.countP_map]
    exact List.countP_mono_left fun x _ => mayLock_scanned
  have hop : (st.scanDone cut).op = .none := rfl
  have hlocked := h.locked
  refine ⟨⟨by rw [hslots, List.length_map, h.slots], fun z hz => ?each, ?locked⟩, nofun, nofun,
    by simp [hop, Operation.slotState], fun n z hz hm => ?marks, fun n z hz hw => ?working⟩
  case each =>
    obtain ⟨x, hx, rfl⟩ := List.mem_map.1 (hslots ▸ hz)
    exact (h.each x hx).scanned cut
  case locked => rw [hop]; simp only [Operation.toLock]; omega
  case marks =>
    obtain ⟨x, -, rfl⟩ := hmem hz
    rw [scanned_eq] at hm; cases hm
  case working =>
    obtain ⟨x, -, rfl⟩ := hmem hz
    exact absurd hw (not_or.2 (scanned_state cut x))

/-! ### The completions -/

theorem Store.AtWork.erased {st : Store} (h : st.AtWork) {n : Nat} (ho : st.op = .erase n) (clear : Bool) :
    ({ st with slots := st.slots.set (n - 1) (Slot.erased clear), op := .none
               lastResult := some ⟨.erase, n, clear⟩ } : Store).AtWork := by
  obtain ⟨x, hx, -⟩ := h.busy .erasing (by rw [ho]; rfl)
  have hy : SlotSafe (Slot.erased clear) := by
    cases clear
    exacts [⟨rfl, fun _ hh => nomatch hh⟩, ⟨⟨rfl, rfl, rfl⟩, fun _ hh => nomatch hh⟩]
  have hmay : (Slot.erased clear).mayLock = false := by cases clear <;> rfl
  exact h.ends hx hy (by rw [ho]; rfl) rfl (by cases clear <;> simp [Slot.erased, Slot.blank])
    (by cases clear <;> simp [Slot.erased, Slot.blank]) (by simp [hmay])

/-- A lock mark has been written and reads back (R162, R163). -/
theorem Store.AtWork.marked {st st' : Store} (h : st.AtWork)
    (hop : st.op.slotState = some .stored ∨ st.op.slotState = some .locked) {x : Slot}
    (hx : st.slot? st.op.slot = some x) (m : MarkReading)
    (slots : st'.slots = (st.setSlot st.op.slot (x.marked m)).slots) (ho : st'.op = .none) : st'.AtWork := by
  have hsafe := h.each x (mem_of_slot? hx)
  have hmark := h.marking hop x hx
  have hcontent : x.header.isSome = true ∧ x.tag = false := by
    have hcontent := hsafe.content
    rcases hop with hop | hop <;> obtain ⟨y, hy, hs⟩ := h.busy _ hop <;> cases hx.symm.trans hy <;> rw [hs] at hcontent
    exacts [⟨hcontent.1, hcontent.2.1⟩, ⟨hcontent.1, hcontent.2.1⟩]
  obtain ⟨header, tag⟩ := hcontent
  have hmay : x.mayLock = true := by simp [Slot.mayLock, header, tag, hmark]
  have hy : SlotSafe (x.marked m) := slotSafe_of_mark (m := m) rfl rfl header tag hsafe.number
  refine h.ends hx hy slots ho ?_ (by simp [Slot.marked]) ?_
  · rcases markState_cases m with ⟨hs, -⟩ | ⟨hs, -⟩ <;> simp [Slot.marked, hs]
  · rw [hmay]; exact Nat.le_add_right_of_le (Bool.toNat_le _)

/-- A WRITE has put an image with a number of the cycle in its slot (R158, R160). -/
theorem Store.AtWork.written {st st' : Store} (h : st.AtWork) {n : Nat} {lock refused : Bool} (hop : st.op = .write n lock refused)
    {x : Slot} (hx : st.slot? n = some x) (img : Image) {number : Nat} (hnumber : 1 ≤ number ∧ number ≤ 65535) (rb : ReadBack)
    (slots : st'.slots = (st.setSlot n (Slot.written img number lock refused rb)).slots) (ho : st'.op = .none) : st'.AtWork := by
  have hslot : st.op.slot = n := by rw [hop]; rfl
  have hmay : (Slot.written img number lock refused rb).mayLock = lock := by cases lock <;> rfl
  have hy : SlotSafe (Slot.written img number lock refused rb) := by
    refine slotSafe_of_mark (m := if lock then .locked else .unlocked) ?_ rfl rfl rfl ?_
    · cases lock <;> rfl
    · rintro _ ⟨⟩; exact hnumber
  refine h.ends (hslot ▸ hx) hy (hslot ▸ slots) ho ?_ (by simp [Slot.written]) ?_
  · cases lock <;> simp [Slot.written]
  · rw [hmay, hop]; cases lock
    exacts [Nat.zero_le _, Nat.le_add_left _ _]

end Sys2Proof.Machine
end

section
/-!
PROOFS. Every step keeps the store (O12): `StoreWhole` through the operations that the commands' effects are made of, and through
the commands that move the store themselves.
-/

namespace Sys2Proof.Machine

open Sys2Proof

/-! ### A device in its mode -/

theorem Store.Holds.congr {st st' : Store} (h : st.Holds) (slots : st'.slots = st.slots) (ho : st'.op.toLock = 0) :
    st'.Holds :=
  ⟨slots ▸ h.slots, slots ▸ h.each, by rw [ho, slots]; exact Nat.le_trans (Nat.le_add_right _ _) h.locked⟩

theorem StoreSafe.holds {s : State} (h : StoreSafe s) : s.store.Holds := ⟨h.slots, h.each, h.locked⟩

/-- The store of a device that is not held in reset: in INIT the scan is under way, and in the other modes it is over (R155, R165). -/
structure StoreWhole (s : State) : Prop where
  init : s.control.mode = .init → s.store.Holds ∧ s.store.op = .scan
  work : s.control.mode ≠ .init → s.store.AtWork

theorem StoreSafe.whole {s : State} (h : StoreSafe s) (released : s.heldInReset = false) : StoreWhole s where
  init := fun hm => ⟨h.holds, h.scanning released hm⟩
  work := fun hm => ⟨h.holds, fun ho => hm (h.scan ho), h.busy, h.marking, h.marks ⟨released, hm⟩, h.working ⟨released, hm⟩⟩

/-- While the scan is in flight no slot is an operation's (R165). -/
theorem StoreWhole.safe {s : State} (h : StoreWhole s)
    (next : s.control.mode ≠ .init → 1 ≤ s.store.nextNumber ∧ s.store.nextNumber ≤ 65535) : StoreSafe s := by
  by_cases hm : s.control.mode = .init
  · obtain ⟨hholds, ho⟩ := h.init hm
    have hidle : ∀ want, s.store.op.slotState ≠ some want := by rw [ho]; exact fun _ h => nomatch h
    exact ⟨hholds.slots, hholds.each, hholds.locked, fun _ => hm, fun _ _ => ho, fun _ hw => absurd hw (hidle _),
      fun hw => (hw.elim (hidle _) (hidle _)).elim, fun hs => absurd hm hs.2, fun hs => absurd hm hs.2, next⟩
  · have hw := h.work hm
    exact ⟨hw.slots, hw.each, hw.locked, fun ho => absurd ho hw.scan, fun _ hm' => absurd hm' hm, hw.busy, hw.marking,
      fun _ => hw.marks, fun _ => hw.working, next⟩

/-- In a device that works an operation may have begun or ended. -/
theorem StoreWhole.of_work {t : State} (hm : t.control.mode ≠ .init) (h : t.store.AtWork) : StoreWhole t :=
  ⟨fun hm' => absurd hm' hm, fun _ => h⟩

theorem StoreWhole.congr {s t : State} (h : StoreWhole s) (mode : t.control.mode = s.control.mode) (store : t.store = s.store) :
    StoreWhole t :=
  ⟨by rw [mode, store]; exact h.init, by rw [mode, store]; exact h.work⟩

/-- Only the scan is in flight in INIT (R165). -/
theorem StoreWhole.at_work_of_op {s : State} (h : StoreWhole s) (ho : s.store.op ≠ .scan) :
    s.control.mode ≠ .init ∧ s.store.AtWork :=
  have hm : s.control.mode ≠ .init := fun hm => ho (h.init hm).2
  ⟨hm, h.work hm⟩

/-- A commit may begin in an idle store (R145, R158). -/
theorem StoreWhole.committed {s t : State} (h : StoreWhole s) (mode : t.control.mode = s.control.mode)
    (store : t.store = s.store ∨
      s.store.op = .none ∧ ∃ n img, s.store.chooseSlot = some n ∧ t.store = s.store.beginWrite n img) : StoreWhole t := by
  rcases store with store | ⟨ho, n, img, hn, store⟩
  · exact h.congr mode store
  · obtain ⟨hm, hw⟩ := h.at_work_of_op (by simp [ho])
    exact .of_work (mode ▸ hm) (store ▸ hw.beginWrite ho hn img)

theorem StoreWhole.beginCommit {s : State} (h : StoreWhole s) : StoreWhole (beginCommit s) :=
  h.committed (by simp) (beginCommit_store s)

theorem StoreWhole.begun {s : State} (h : StoreWhole s) {kind : OpKind} {n : Nat} {maintenance : Bool}
    (hok : s.store.requestResult kind n maintenance = .ok) : StoreWhole (s.setStore (s.store.begin kind n)) := by
  obtain ⟨hm, hw⟩ := h.at_work_of_op (by simp [(begin_op hok).1])
  exact .of_work hm (hw.begin hok)

theorem captureInvariant_storeWhole : CaptureInvariant StoreWhole where
  same := fun h k => h.congr k.mode k.store
  raised := by
    intro s c g o h
    obtain ⟨_, _, _, _, _, _, _, _, _, store⟩ := raiseWith_spec c g o s
    exact h.committed (by simp) store
  logged := fun k h => h.congr (by simp) (by simp)
  returned := fun n h => h.congr (by simp) (by simp)
  begun := fun h hok => h.begun hok
  moved := fun h k => .of_work k.started.2 (k.store ▸ h.work k.started.1)

/-! ### The commands that move the store -/

theorem StoreWhole.snapshot {s : State} (h : StoreWhole s) : StoreWhole (snapshotEffect s) := by
  unfold snapshotEffect
  simp only []
  repeat' split
  · exact StoreWhole.beginCommit (h.congr rfl rfl)
  · exact h.congr rfl rfl
  · exact h

theorem StoreWhole.eraseComplete {s : State} (h : StoreWhole s) (clear : Bool) : StoreWhole (eraseCompleteEffect clear s) := by
  by_cases he : ∃ n, s.store.op = .erase n
  · obtain ⟨n, ho⟩ := he
    obtain ⟨hm, hw⟩ := h.at_work_of_op (by simp [ho])
    rw [eraseCompleteEffect_eq ho]
    exact StoreWhole.beginCommit (.of_work hm (hw.erased ho clear))
  · rw [eraseCompleteEffect_other fun n ho => he ⟨n, ho⟩]; exact h

/-- An operation on a lock mark ends with the mark as it reads back, and a waiting commit may begin (R145, R162, R163). -/
theorem StoreWhole.markWritten {s : State} (h : StoreWhole s) {n : Nat} (hslot : s.store.op.slot = n)
    (hop : s.store.op.slotState = some .stored ∨ s.store.op.slotState = some .locked) :
    ∃ x, s.store.slot? n = some x ∧ ∀ m result, StoreWhole (Machine.beginCommit (s.setStore { s.store with
      slots := s.store.slots.set (n - 1) (x.marked m), op := .none, lastResult := result })) := by
  subst hslot
  obtain ⟨hm, hw⟩ := h.at_work_of_op fun ho => by simp [ho, Operation.slotState] at hop
  obtain ⟨x, hx⟩ : ∃ x, s.store.slot? s.store.op.slot = some x := by
    rcases hop with hop | hop <;> exact (hw.busy _ hop).imp fun _ => And.left
  exact ⟨x, hx, fun m _ => StoreWhole.beginCommit (.of_work hm (hw.marked hop hx m rfl rfl))⟩

theorem StoreWhole.lockComplete {s : State} (h : StoreWhole s) (m : MarkReading) : StoreWhole (lockCompleteEffect m s) := by
  by_cases he : ∃ n, s.store.op = .lock n
  · obtain ⟨n, ho⟩ := he
    obtain ⟨x, hx, hwritten⟩ := h.markWritten (n := n) (by rw [ho]; rfl) (.inl (by rw [ho]; rfl))
    rw [lockCompleteEffect_eq ho hx]
    exact hwritten m _
  · rw [lockCompleteEffect_other fun n ho => he ⟨n, ho⟩]; exact h

theorem StoreWhole.unlockComplete {s : State} (h : StoreWhole s) (m : MarkReading) : StoreWhole (unlockCompleteEffect m s) := by
  by_cases he : ∃ n, s.store.op = .unlock n
  · obtain ⟨n, ho⟩ := he
    obtain ⟨x, hx, hwritten⟩ := h.markWritten (n := n) (by rw [ho]; rfl) (.inr (by rw [ho]; rfl))
    rw [unlockCompleteEffect_eq ho hx]
    exact hwritten m _
  · rw [unlockCompleteEffect_other fun n ho => he ⟨n, ho⟩]; exact h

/-- The completed WRITE's slot holds the image under the image's own number, and the pending trigger's incident may begin its WRITE
(R138, R148, R160). -/
theorem StoreWhole.writeComplete {s : State} (h : StoreWhole s) (hc : CaptureWhole s) (rb : ReadBack) :
    StoreWhole (writeCompleteEffect rb s) := by
  by_cases he : ∃ n l v, s.store.op = .write n l v
  · obtain ⟨n, lock, refused, ho⟩ := he
    obtain ⟨hm, hw⟩ := h.at_work_of_op (by simp [ho])
    have hslot : s.store.op.slot = n := by rw [ho]; rfl
    have hcommit := hc.commit hm
    obtain ⟨x, hx, -⟩ := hw.busy .writing (by rw [ho]; rfl)
    rw [hslot] at hx
    obtain ⟨img, hi⟩ := hc.recorder.exists_image (by simp [hcommit.write n lock refused ho])
    have hnumber : 1 ≤ x.writing ∧ x.writing ≤ 65535 := by
      rw [hcommit.writing n lock refused img x ho hi hx]; exact (hc.recorder.each img hi).number
    rw [writeCompleteEffect_eq ho hi hx]
    generalize hdone : ({ s.store with
      slots := s.store.slots.set (n - 1) (Slot.written img x.writing lock refused rb), op := .none
      lastResult := some ⟨.write, n, readBackMatched rb⟩ } : Store) = st
    have hst : st.AtWork := hw.written ho hx img hnumber rb (by rw [← hdone]; rfl) (by rw [← hdone])
    have hfreed : StoreWhole ((s.setStore st).setRecorder s.recorder.writeDone) := .of_work hm hst
    cases hp : s.recorder.pendingTrigger with
    | none => exact hfreed
    | some p =>
      rw [openPending, openIncident_eq]
      exact StoreWhole.beginCommit (hfreed.congr rfl rfl)
  · rw [writeCompleteEffect_other fun n l v ho => he ⟨n, l, v, ho⟩]; exact h

/-- The end of the scan leaves the store at work, a kept image's WRITE begun, and the entry to RUN keeps it (R151, R165). -/
theorem StoreWhole.scanEnd {s : State} (h : StoreWhole s) (cut : MarkReading) : StoreWhole (scanEndEffect cut s) := by
  rw [scanEndEffect_eq]
  split
  · rename_i hscan
    have hscanned : StoreWhole ((s.setStore (s.store.scanDone cut)).setControl { s.control with mode := .config }) :=
      .of_work (by simp) ((h.init hscan.1).1.scanDone cut)
    have hconfig : StoreWhole ((s.settled cut).setControl { (s.settled cut).control with mode := .config }) := by
      refine hscanned.committed rfl ?_
      simpa [State.settled] using
        beginCommit_store ((settleRecord (s.setStore (s.store.scanDone cut))).setRecorder s.recorder.settleKept)
    split
    · exact captureInvariant_storeWhole.enterRun_fresh hconfig
    · exact captureInvariant_storeWhole.logged _ hconfig
  · exact h

/-! ### A step -/

/-- Every command but a reset's keeps the store of a device that is not held in reset. -/
theorem StoreWhole.effectOf {s : State} (h : StoreWhole s) (hcapture : CaptureWhole s) {c : Instr} (hc : resetCommand c = false) :
    StoreWhole (effectOf c s) := by
  cases hmoves : movesCapture c with
  | false => exact captureInvariant_storeWhole.effectOf h hcapture.timer hmoves
  | true =>
    cases c with
    | scanEnd dt cut => exact h.scanEnd cut
    | snapshot dt => exact h.snapshot
    | writeComplete dt rb => exact h.writeComplete hcapture rb
    | eraseComplete dt clear => exact h.eraseComplete clear
    | lockComplete dt m => exact h.lockComplete m
    | unlockComplete dt m => exact h.unlockComplete m
    | powerOnResetRelease | hardResetRelease | resetAsserted => cases hc
    | _ => cases hmoves

/-- The assertion of a reset cuts the operation off, and a slot that it was on stands as it is (R166). -/
theorem StoreSafe.resetAsserted {s : State} (h : StoreSafe s) (input : ResetInput) : StoreSafe (resetAssertedEffect input s) := by
  have hholds : (resetAssertedEffect input s).store.Holds := h.holds.congr rfl rfl
  have hheld := resetAsserted_heldInReset input s
  have hnot : ¬ (resetAssertedEffect input s).started := fun hs => Bool.false_ne_true (hs.1.symm.trans hheld)
  have hop : (resetAssertedEffect input s).store.op = .none := rfl
  have hidle : ∀ want, (resetAssertedEffect input s).store.op.slotState ≠ some want := fun _ h => nomatch h
  exact ⟨hholds.slots, hholds.each, hholds.locked, fun ho => (nomatch hop.symm.trans ho), fun hr => (nomatch hheld.symm.trans hr),
    fun _ hw => absurd hw (hidle _), fun hw => (hw.elim (hidle _) (hidle _)).elim, fun hs => absurd hs hnot,
    fun hs => absurd hs hnot, h.next⟩

/-- A release begins the scan over the slots as they stand (R165, R167). -/
theorem storeSafe_resetReleased {s : State} (hholds : s.store.Holds) (held : s.heldInReset = true → StoreSafe s)
    (powerOn : Bool) (levels : ReleaseLevels) : StoreSafe (resetReleased powerOn levels s) := by
  have hreleased : s.store.released.Holds := hholds.congr rfl rfl
  unfold Machine.resetReleased
  repeat' split
  · exact held ‹_›
  all_goals exact StoreWhole.safe ⟨fun _ => ⟨hreleased, rfl⟩, fun hm => absurd rfl hm⟩ fun hm => absurd rfl hm

/-- A reset's command keeps the store, whatever it meets. -/
theorem StoreSafe.effectOf {s : State} (h : StoreSafe s) {c : Instr} (hc : resetCommand c = true) : StoreSafe (effectOf c s) := by
  cases c with
  | powerOnResetRelease dt levels =>
    refine storeSafe_resetReleased (s := s.setPins { s.pins with powerOnReset := false }) h.holds (fun held => ?_) true levels
    have hhard : s.pins.hardReset = true := by simpa [State.heldInReset] using held
    exact h.same ⟨rfl, rfl, rfl, by simp [State.heldInReset, hhard]⟩
  | hardResetRelease dt levels =>
    refine storeSafe_resetReleased (s := s.setPins { s.pins with hardReset := false }) h.holds (fun held => ?_) false levels
    have hpower : s.pins.powerOnReset = true := by simpa [State.heldInReset] using held
    exact h.same ⟨rfl, rfl, rfl, by simp [State.heldInReset, hpower]⟩
  | resetAsserted dt input => exact h.resetAsserted input
  | _ => cases hc

theorem storeSafe_step {s t : State} (hs : Safe s) (hstep : step s = .next t) : StoreSafe t := by
  unfold step at hstep
  split at hstep
  · cases hstep; exact hs.store.same (sameCapture_advance _ s)
  · rename_i c rest _
    have hpending : SameCapture s (s.setPending rest) := ⟨rfl, rfl, rfl, rfl⟩
    have hsame := hpending.trans (sameCapture_advance c.dt (s.setPending rest))
    have h := hs.store.same hsame
    rcases exec_cases hstep with ⟨rfl, hc⟩ | ⟨rfl, -⟩
    · cases hreset : resetCommand c with
      | true => exact h.effectOf hreset
      | false =>
        have released := hsame.held.trans (hc.resolve_left (by simp [hreset])).1
        have hcapture := (hs.captureWhole (hsame.held.symm.trans released)).same hsame
        have hnext := hcapture.effectOf h released hreset
        exact ((h.whole released).effectOf hcapture hreset).safe fun hm => (hnext.commit hm).next
    · exact h

/-- Settles O12: a step is a passage and at most one command's effect, each of which keeps the store's relations, and these hold
the LOCKED slots among the 12 that they count. -/
theorem atMostTwelveSlotsAreLocked : Obligations.AtMostTwelveSlotsAreLocked := by
  unfold Obligations.AtMostTwelveSlotsAreLocked
  intro s t hs hstep
  have h := storeSafe_step hs hstep
  exact ⟨h, h.holds.lockedCount⟩

end Sys2Proof.Machine
end

section
/-!
PROOFS. The end of the INIT scan without a record (O18), and the number that a scan recovers (O19).
-/

namespace Sys2Proof.Machine

open Sys2Proof

/-! ### The scan -/

theorem scanDone_slot? {st : Store} {n : Nat} {x : Slot} (cut : MarkReading) (hx : st.slot? n = some x) :
    (st.scanDone cut).slot? n = some (x.scanned cut) := by
  obtain ⟨h1, hget⟩ := Store.slot?_eq_some.1 hx
  exact Store.slot?_eq_some.2 ⟨h1, by simp [Store.scanDone, hget]⟩

/-- Without a valid kept record and without a kept image, INIT leaves the scan's store and no record (R151, R165, R183). -/
theorem settled_without_record {s : State} (cut : MarkReading) (hcap : s.recorder.capture = .idle)
    (hrecord : ∀ r, s.control.active = some r → r.valid s.control.axleCount = false) :
    s.settled cut = (s.setStore (s.store.scanDone cut)).setControl { s.control with active := none } := by
  have hsettle : settleRecord (s.setStore (s.store.scanDone cut)) =
      (s.setStore (s.store.scanDone cut)).setControl { s.control with active := none } := by
    cases hr : s.control.active with
    | none =>
      have hsame : { s.control with active := none } = s.control := by rw [← hr]
      simp [settleRecord, hr, hsame]
      rfl
    | some r => simp [settleRecord, hr, hrecord r hr]
  rw [State.settled, hsettle, beginCommit_eq_self (.inl (by simp [settleKept_idle hcap, hcap]))]
  simp only [State.setControl_recorder, State.setStore_recorder, settleKept_idle hcap]
  rfl

/-- Settles O18: the slots by the scan's table, and the rest by the entry to CONFIG. -/
theorem scanClassifiesEverySlot : Obligations.ScanClassifiesEverySlot := by
  unfold Obligations.ScanClassifiesEverySlot
  intro dt cut s ha hm hop hcap hrecord
  have hend : scanEndEffect cut (s.advance dt) = changeMode .config
      (((s.advance dt).setStore (s.store.scanDone cut)).setControl { s.control with active := none }) := by
    rw [scanEndEffect_eq, if_pos ⟨hm, hop⟩, settled_without_record (s := s.advance dt) cut hcap hrecord]
    rfl
  have hlog : ∀ e, s.recorder.log e = { s.recorder with events := pushRing 32 e s.recorder.events } := fun e => by
    simp [Recorder.log, hcap]
  rw [exec_scanEnd ha, hend]
  refine ⟨_, rfl, ?_⟩
  generalize ht : changeMode .config
    (((s.advance dt).setStore (s.store.scanDone cut)).setControl { s.control with active := none }) = t
  have hstore : t.store = s.store.scanDone cut := by rw [← ht]; rfl
  rw [hstore]
  refine ⟨rfl, rfl, rfl, List.length_map _, fun n x hx => ?slot, ?rest⟩
  case slot =>
    refine ⟨_, scanDone_slot? cut hx, ?_⟩
    rw [scanned_eq]
    exact ⟨rfl, rfl, rfl, rfl, rfl, rfl⟩
  case rest =>
    have hnow : t.now = (s.advance dt).now := by rw [← ht]; rfl
    rw [hnow, ← hm, ← hlog, ← ht]
    rfl

/-! ### The recovered number -/

theorem mem_numbersFound {st : Store} {n : Nat} : n ∈ st.numbersFound ↔
    ∃ x ∈ st.slots, (x.state = .stored ∨ x.state = .locked) ∧ x.header.map Header.number = some n := by
  simp [Store.numbersFound, List.mem_dedup, List.mem_filterMap, List.mem_filter, and_assoc]

/-- Of found numbers, `a` is the highest: no other has fewer ahead of it, and of those with as many it is the largest (R164). -/
def Highest (found l : List Nat) (a : Nat) : Prop :=
  a ∈ l ∧ ∀ b ∈ l, aheadCount found a < aheadCount found b ∨ (aheadCount found a = aheadCount found b ∧ b ≤ a)

theorem foldl_higherNumber_highest (found : List Nat) {l : List Nat} (hne : l ≠ []) :
    ∃ a, l.foldl (higherNumber found) none = some a ∧ Highest found l a := by
  induction l using List.reverseRecOn with
  | nil => exact absurd rfl hne
  | append_singleton l c ih =>
    rw [List.foldl_append, List.foldl_cons, List.foldl_nil]
    rcases eq_or_ne l [] with rfl | hl
    · exact ⟨c, rfl, by simp [Highest]⟩
    obtain ⟨a, hfold, hmem, hbest⟩ := ih hl
    rw [hfold, higherNumber]
    split
    · refine ⟨c, rfl, by simp, fun b hb => ?_⟩
      rcases List.mem_append.1 hb with hb | hb
      · have := hbest b hb; omega
      · cases List.mem_singleton.1 hb; simp
    · refine ⟨a, rfl, List.mem_append_left _ hmem, fun b hb => ?_⟩
      rcases List.mem_append.1 hb with hb | hb
      · exact hbest b hb
      · cases List.mem_singleton.1 hb; omega

theorem recoveredNext_highest {st : Store} (hne : st.numbersFound ≠ []) :
    ∃ a, Highest st.numbersFound st.numbersFound a ∧ st.recoveredNext = nextIncident a := by
  obtain ⟨a, hfold, hbest⟩ := foldl_higherNumber_highest st.numbersFound hne
  exact ⟨a, hbest, by rw [Store.recoveredNext, hfold]⟩

theorem aheadOf_iff {a b : Nat} : aheadOf a b = true ↔ 1 ≤ (a + 65535 - b) % 65535 ∧ (a + 65535 - b) % 65535 ≤ 32767 := by
  simp [aheadOf]

theorem aheadCount_eq_zero {found : List Nat} {a : Nat} :
    aheadCount found a = 0 ↔ ∀ b ∈ found, ¬ (1 ≤ (b + 65535 - a) % 65535 ∧ (b + 65535 - a) % 65535 ≤ 32767) := by
  simp only [aheadCount, List.countP_eq_zero, aheadOf_iff]

/-- Of two numbers of the cycle, one is ahead of the other: 65535 is odd (R164). -/
theorem eq_of_neither_ahead {a b : Nat} (ha : 1 ≤ a ∧ a ≤ 65535) (hb : 1 ≤ b ∧ b ≤ 65535)
    (hab : ¬ (1 ≤ (a + 65535 - b) % 65535 ∧ (a + 65535 - b) % 65535 ≤ 32767))
    (hba : ¬ (1 ≤ (b + 65535 - a) % 65535 ∧ (b + 65535 - a) % 65535 ≤ 32767)) : a = b := by
  omega

/-- Settles O19: the fold keeps the highest number, and a number that none is ahead of is that one. -/
theorem recoveryTakesTheHighestNumber : Obligations.RecoveryTakesTheHighestNumber := by
  unfold Obligations.RecoveryTakesTheHighestNumber
  intro st hrange
  refine ⟨fun n => mem_numbersFound, fun hempty => ?empty, fun a ha hahead => ?unique, fun hne => ?ring⟩
  case empty => rw [Store.recoveredNext, hempty]; rfl
  case unique =>
    obtain ⟨c, ⟨hc, hbest⟩, hnext⟩ := recoveredNext_highest (List.ne_nil_of_mem ha)
    have hzero := aheadCount_eq_zero.2 hahead
    have hczero : aheadCount st.numbersFound c = 0 := by have := hbest a ha; omega
    have hca : c = a :=
      eq_of_neither_ahead (hrange c hc) (hrange a ha) (hahead c hc) (aheadCount_eq_zero.1 hczero a ha)
    rw [hnext, hca, nextIncident]
  case ring =>
    obtain ⟨a, ⟨ha, hbest⟩, hnext⟩ := recoveredNext_highest hne
    exact ⟨a, ha, hnext, hbest⟩

end Sys2Proof.Machine
end

section
/-!
PROOFS. The slot requests and MARK (O60): R176's tests and R156's in their order, and that MARK's raising leaves the Service Port to
the answer.
-/

namespace Sys2Proof.Machine

open Sys2Proof

/-! ### The slot requests -/

/-- The two cases in which the store commands are answered BUSY (R176). -/
theorem storeHeld_iff {s : State} : s.storeHeld = true ↔ s.store.op = .scan ∨ (s.control.mode = .safe ∧
    s.recorder.capture = .committing ∧ ∃ img, s.recorder.image = some img ∧ img.flags.power = true) := by
  cases hi : s.recorder.image <;> simp [State.storeHeld, Store.scanning, hi, and_assoc]

section Requests

variable {dt : Passage} {code n : Byte} {u : State} {kind : OpKind} {key : Bool} {x : Slot}

theorem answerRequest_absent (hx : u.store.slot? n.toNat = none) :
    answerRequest kind n.toNat key ((u.advance dt).taken code [n]) = u.answered dt code [n] [4] := by
  have hx : ((u.advance dt).taken code [n]).store.slot? n.toNat = none := hx
  rw [answerRequest, hx]
  exact refuse_taken dt code [n] (by simp) u

theorem answerRequest_held (hx : u.store.slot? n.toNat = some x) (held : u.storeHeld = true) :
    answerRequest kind n.toNat key ((u.advance dt).taken code [n]) = u.answered dt code [n] [1] := by
  have hx : ((u.advance dt).taken code [n]).store.slot? n.toNat = some x := hx
  have held : ((u.advance dt).taken code [n]).storeHeld = true := held
  simp only [answerRequest, hx, held, if_true]
  exact refuse_taken dt code [n] (by simp) u

/-- A request that the Store Controller refuses changes nothing but the port (R156, R180). -/
theorem answerRequest_refused (hx : u.store.slot? n.toNat = some x) (free : u.storeHeld = false) {r : ResultCode} (hr : r ≠ .ok)
    (hresult : u.store.requestResult kind n.toNat key = r) :
    answerRequest kind n.toNat key ((u.advance dt).taken code [n]) = u.answered dt code [n] [r.code] := by
  have hx : ((u.advance dt).taken code [n]).store.slot? n.toNat = some x := hx
  have free : ((u.advance dt).taken code [n]).storeHeld = false := free
  have hresult : ((u.advance dt).taken code [n]).store.requestResult kind n.toNat key = r := hresult
  simp only [answerRequest, hx, free, hresult, Bool.false_eq_true, if_false]
  rw [← refuse_taken dt code [n] hr u]

/-- A request that it accepts begins its operation at once (R180). -/
theorem answerRequest_accepted (hx : u.store.slot? n.toNat = some x) (free : u.storeHeld = false)
    (hresult : u.store.requestResult kind n.toNat key = .ok) :
    answerRequest kind n.toNat key ((u.advance dt).taken code [n]) =
      (u.setStore (u.store.begin kind n.toNat)).answered dt code [n] [0] := by
  have hx : ((u.advance dt).taken code [n]).store.slot? n.toNat = some x := hx
  have free : ((u.advance dt).taken code [n]).storeHeld = false := free
  have hresult : ((u.advance dt).taken code [n]).store.requestResult kind n.toNat key = .ok := hresult
  simp only [answerRequest, hx, free, hresult, Bool.false_eq_true, if_false]
  exact respond_ok_taken dt code [n] [] (u.setStore (u.store.begin kind n.toNat))

end Requests

section Results

variable {st : Store} {n : Nat} {x : Slot} (key : Bool) (hx : st.slot? n = some x)
include hx

theorem requestResult_busy (kind : OpKind) (ho : st.op ≠ .none) : st.requestResult kind n key = .busy := by
  simp [Store.requestResult, hx, Store.busy, ho]

theorem requestResult_lock (ho : st.op = .none) : st.requestResult .lock n key =
    if x.state = .locked then .slotProtected else if x.state ≠ .stored then .state
    else if 12 ≤ st.lockedCount then .limit else .ok := by
  simp [Store.requestResult, hx, Store.busy, ho]

theorem requestResult_erase (ho : st.op = .none) : st.requestResult .erase n key =
    if x.state = .locked then .slotProtected else if x.state ≠ .stored ∧ x.state ≠ .damaged then .state else .ok := by
  simp [Store.requestResult, hx, Store.busy, ho]

theorem requestResult_unlock (ho : st.op = .none) : st.requestResult .unlock n key =
    if x.state ≠ .locked then .state else if key = false then .maintenance else .ok := by
  simp [Store.requestResult, hx, Store.busy, ho]

theorem begin_erase : st.begin .erase n = { st with
    slots := st.slots.set (n - 1) { x with state := .erasing, header := none, tag := true, clear := false }, op := .erase n } := by
  rw [Store.begin, hx]; rfl

theorem begin_lock : st.begin .lock n = { st with slots := st.slots.set (n - 1) { x with mark := none }, op := .lock n } := by
  rw [Store.begin, hx]; rfl

theorem begin_unlock : st.begin .unlock n = { st with slots := st.slots.set (n - 1) { x with mark := none }, op := .unlock n } := by
  rw [Store.begin, hx]; rfl

end Results

/-- The kind of a slot request, by its code (R180, R194). -/
structure RequestKind (code : Byte) (kind : OpKind) : Prop where
  lock : code = 9 → kind = .lock
  unlock : code = 10 → kind = .unlock
  erase : code = 11 → kind = .erase
  other : code ≠ 10 → kind = .lock ∨ kind = .erase

/-- A slot request that the device hears is answered after the maintenance input, for an UNLOCK, has been read (R156, R180). -/
theorem exec_request {dt : Passage} {s u : State} {n code : Byte} {c : Instr} {key : Bool} (ha : Accepts s)
    (hc : (c = .lockSlot dt [n] ∧ code = 9 ∧ u = s) ∨
      (c = .unlockSlot dt [n] key ∧ code = 10 ∧ u = s.setPins { s.pins with maintenance := key }) ∨
      (c = .eraseSlot dt [n] ∧ code = 11 ∧ u = s)) (hh : s.hears dt code [n]) :
    u.store = s.store ∧ u.storeHeld = s.storeHeld ∧ ∃ kind read, RequestKind code kind ∧ (code = 10 → read = key) ∧
      exec c s = .next (answerRequest kind n.toNat read ((u.advance dt).taken code [n])) := by
  rcases hc with ⟨rfl, rfl, rfl⟩ | ⟨rfl, rfl, rfl⟩ | ⟨rfl, rfl, rfl⟩
  · refine ⟨rfl, rfl, .lock, (u.advance dt).pins.maintenance, by constructor <;> simp, by simp, ?_⟩
    rw [exec_accepted ha]
    exact congrArg _ (takeCommand_heard hh)
  · have hh : (s.setPins { s.pins with maintenance := key }).hears dt 10 [n] := ⟨hh.receiving, hh.begun⟩
    refine ⟨rfl, rfl, .unlock, key, by constructor <;> simp, fun _ => rfl, ?_⟩
    rw [exec_accepted ha]
    exact congrArg _ (takeCommand_heard hh)
  · refine ⟨rfl, rfl, .erase, (u.advance dt).pins.maintenance, by constructor <;> simp, by simp, ?_⟩
    rw [exec_accepted ha]
    exact congrArg _ (takeCommand_heard hh)

/-! ### MARK -/

/-- The Service Port is no part of a commit. -/
theorem beginCommit_setPort (p : ServicePort) (s : State) : beginCommit (s.setPort p) = (beginCommit s).setPort p := by
  simp only [beginCommit, State.setPort_recorder, State.setPort_store]
  repeat' split
  all_goals rfl

theorem openIncident_setPort (f : Pending) (p : ServicePort) (s : State) :
    openIncident f (s.setPort p) = (openIncident f s).setPort p := by
  rw [openIncident_eq, openIncident_eq, ← beginCommit_setPort]; rfl

theorem holdFiring_setPort (f : Pending) (p : ServicePort) (s : State) :
    holdFiring f (s.setPort p) = (holdFiring f s).setPort p := by
  simp only [holdFiring, State.setPort_recorder]
  split <;> rfl

theorem offerNotice_setPort (p : ServicePort) (s : State) : offerNotice (s.setPort p) = (offerNotice s).setPort p := by
  cases hi : s.recorder.image with
  | none => simp only [offerNotice, State.setPort_recorder, hi]
  | some img => rw [offerNotice_eq hi, offerNotice_eq (s := s.setPort p) hi]; rfl

theorem mergeIntoImage_setPort (f : Pending) (p : ServicePort) (s : State) :
    mergeIntoImage f (s.setPort p) = (mergeIntoImage f s).setPort p := by
  rw [mergeIntoImage, mergeIntoImage, ← offerNotice_setPort]; rfl

theorem endFillingOnPower_setPort (p : ServicePort) (s : State) :
    endFillingOnPower (s.setPort p) = (endFillingOnPower s).setPort p := by
  rw [endFillingOnPower, endFillingOnPower, ← beginCommit_setPort]; rfl

theorem fire_setPort (f : Pending) (p : ServicePort) (s : State) : fire f (s.setPort p) = (fire f s).setPort p := by
  simp only [fire, State.setPort_recorder]
  split
  · exact openIncident_setPort f p s
  · rw [mergeIntoImage_setPort, endFillingOnPower_setPort]; split <;> rfl
  · exact holdFiring_setPort f p s

/-- A raising neither reads nor changes the Service Port. -/
theorem raiseWith_setPort (c : Source) (g : Machine.Class) (o : Option Originator) (p : ServicePort) (s : State) :
    raiseWith c g o (s.setPort p) = (raiseWith c g o s).setPort p := by
  by_cases hf : (s.occurred c).fires c = true
  · rw [raiseWith_fires hf, raiseWith_fires (s := s.setPort p) hf, ← fire_setPort]; rfl
  · rw [raiseWith_quiet hf, raiseWith_quiet (s := s.setPort p) hf]; rfl

section Mark

variable {dt : Passage} {b : Byte} {s : State}

theorem exec_mark (ha : Accepts s) (hh : s.hears dt 0x0C [b]) :
    exec (.mark dt [b]) s = .next (answerMark b ((s.advance dt).taken 0x0C [b])) := by
  rw [exec_accepted ha]
  exact congrArg _ (takeCommand_heard hh)

theorem classOfByte_eq (h : b.toNat ≤ 1) : classOfByte b = some (if b = 1 then .severe else .note) := by
  have hb : b = 0 ∨ b = 1 := by
    rw [← BitVec.toNat_inj, ← BitVec.toNat_inj]; simp; omega
  rcases hb with rfl | rfl <;> rfl

theorem classOfByte_eq_none (h : 1 < b.toNat) : classOfByte b = none := by
  unfold classOfByte
  split <;> first | omega | rfl

/-- Outside RUN and SAFE a MARK is refused (R181). -/
theorem answerMark_outside (h : b.toNat ≤ 1) (hw : s.control.mode.working = false) :
    answerMark b ((s.advance dt).taken 0x0C [b]) = s.answered dt 0x0C [b] [5] := by
  have hmode : ¬(((s.advance dt).taken 0x0C [b]).control.mode = .run ∨ ((s.advance dt).taken 0x0C [b]).control.mode = .safe) := by
    rintro (hm | hm) <;> (rw [show s.control.mode = _ from hm] at hw; cases hw)
  simp only [answerMark, classOfByte_eq h, if_neg hmode]
  exact refuse_taken dt 0x0C [b] (by simp) s

/-- In RUN and SAFE a MARK raises MANUAL and is answered by what the raising leaves (R181). -/
theorem answerMark_working (h : b.toNat ≤ 1) (hw : s.control.mode.working = true) {v : State}
    (hv : v = raiseWith .manual (if b = 1 then .severe else .note) none (s.advance dt)) :
    answerMark b ((s.advance dt).taken 0x0C [b]) = v.setPort (s.answered dt 0x0C [b]
      [0, v.recorder.capture.code, if v.recorder.pendingTrigger.isSome then 1 else 0]).port := by
  have hmode : ((s.advance dt).taken 0x0C [b]).control.mode = .run ∨ ((s.advance dt).taken 0x0C [b]).control.mode = .safe := by
    change s.control.mode = .run ∨ s.control.mode = .safe
    cases hm : s.control.mode <;> rw [hm] at hw <;> simp_all [Mode.working]
  have hraise : raiseWith .manual (if b = 1 then .severe else .note) none ((s.advance dt).taken 0x0C [b]) =
      v.setPort ((s.advance dt).taken 0x0C [b]).port := by
    rw [hv, ← raiseWith_setPort]; rfl
  simp only [answerMark, classOfByte_eq h, if_pos hmode, hraise]
  rfl

end Mark

/-- Settles O60: each request by the first test that it fails, and MARK by its class and the mode. -/
theorem slotRequestsAndMarksAreTestedInOrder : Obligations.SlotRequestsAndMarksAreTestedInOrder := by
  unfold Obligations.SlotRequestsAndMarksAreTestedInOrder
  intro dt s held ha hheld
  rw [← storeHeld_iff] at hheld
  refine ⟨fun n c code u key hc hh => ?requests, fun b hh hb => ?range,
    fun b hh hb => ⟨fun hw => ?outside, fun hw => ⟨_, rfl, ?raises⟩⟩⟩
  case range =>
    rw [exec_mark ha hh, answerMark, classOfByte_eq_none hb]
    exact congrArg _ (refuse_taken dt 0x0C [b] (by simp) s)
  case outside => rw [exec_mark ha hh, answerMark_outside hb hw]
  case raises => rw [exec_mark ha hh, answerMark_working hb hw rfl]
  case requests =>
    obtain ⟨hstore, hsame, kind, read, hkind, hread, hexec⟩ := exec_request ha hc hh
    rw [hexec]
    refine ⟨fun hx => congrArg _ (answerRequest_absent (hstore ▸ hx)), fun x hx => ?_⟩
    have hx' : u.store.slot? n.toNat = some x := hstore ▸ hx
    have hfree : ¬ held → u.storeHeld = false := fun free => by rwa [hsame, ← Bool.not_eq_true, ← hheld]
    have refused : ∀ {r : ResultCode}, ¬ held → r ≠ .ok → s.store.requestResult kind n.toNat read = r →
        (.next (answerRequest kind n.toNat read ((u.advance dt).taken code [n])) : Host.Outcome State Fault Refusal) =
          .next (u.answered dt code [n] [r.code]) :=
      fun free hr hresult => congrArg _ (answerRequest_refused hx' (hfree free) hr (hstore ▸ hresult))
    have accepted : ∀ {st : Store}, ¬ held → s.store.requestResult kind n.toNat read = .ok → s.store.begin kind n.toNat = st →
        (.next (answerRequest kind n.toNat read ((u.advance dt).taken code [n])) : Host.Outcome State Fault Refusal) =
          .next ((u.setStore st).answered dt code [n] [0]) := by
      rintro st free hresult rfl
      rw [answerRequest_accepted hx' (hfree free) (hstore ▸ hresult), hstore]
    refine ⟨fun hbusy => ?busy, fun free ho => ⟨fun hcode hs => ?protect, fun hcode h1 h2 h3 => ?eraseState,
      fun hcode h1 h2 => ?lockState, fun hcode hs hfull => ?limit, fun hcode hs => ?unlockState, fun hcode hs hk => ?maintenance,
      fun hcode hs => ?erases, fun hcode hs hroom => ?locks, fun hcode hs hk => ?unlocks⟩⟩
    case busy =>
      by_cases h : held
      · exact congrArg _ (answerRequest_held hx' (hsame.trans (hheld.1 h)))
      · exact refused h (by simp) (requestResult_busy read hx kind (hbusy.resolve_left h))
    case protect =>
      refine refused free (r := .slotProtected) (by simp) ?_
      rcases hkind.other hcode with rfl | rfl
      · rw [requestResult_lock read hx ho, if_pos hs]
      · rw [requestResult_erase read hx ho, if_pos hs]
    case eraseState =>
      obtain rfl := hkind.erase hcode
      exact refused free (r := .state) (by simp) (by rw [requestResult_erase read hx ho, if_neg h1, if_pos ⟨h2, h3⟩])
    case lockState =>
      obtain rfl := hkind.lock hcode
      exact refused free (r := .state) (by simp) (by rw [requestResult_lock read hx ho, if_neg h1, if_pos h2])
    case limit =>
      obtain rfl := hkind.lock hcode
      exact refused free (r := .limit) (by simp) (by simp [requestResult_lock read hx ho, hs, hfull])
    case unlockState =>
      obtain rfl := hkind.unlock hcode
      exact refused free (r := .state) (by simp) (by rw [requestResult_unlock read hx ho, if_pos hs])
    case maintenance =>
      obtain rfl := hkind.unlock hcode
      exact refused free (r := .maintenance) (by simp) (by rw [requestResult_unlock read hx ho, hread hcode, hk]; simp [hs])
    case erases =>
      obtain rfl := hkind.erase hcode
      refine accepted free ?_ (begin_erase hx)
      rcases hs with hs | hs <;> simp [requestResult_erase read hx ho, hs]
    case locks =>
      obtain rfl := hkind.lock hcode
      exact accepted free (by simp [requestResult_lock read hx ho, hs, Nat.not_le.2 hroom]) (begin_lock hx)
    case unlocks =>
      obtain rfl := hkind.unlock hcode
      exact accepted free (by rw [requestResult_unlock read hx ho, hread hcode, hk]; simp [hs]) (begin_unlock hx)

end Sys2Proof.Machine
end

section
/-!
PROOFS. Every step keeps the relations of the Mode Controller (O5): first what an entry to RUN or SAFE, the timers and the records do
to them, then all commands.
-/

namespace Sys2Proof.Machine

open Sys2Proof

/-! ### Entries to RUN and SAFE -/

/-- A record is loaded in CONFIG alone (R174, R184). -/
theorem ModeSafe.no_loaded {s : State} (h : ModeSafe s) (hm : s.control.mode ≠ .config) : s.control.loaded = none :=
  Option.not_isSome_iff_eq_none.1 (mt h.loadedIn hm)

/-- The release timer runs in SAFE alone (R187). -/
theorem ModeSafe.no_release {s : State} (h : ModeSafe s) (hm : s.control.mode ≠ .safe) : s.control.releaseTimer = none :=
  Option.not_isSome_iff_eq_none.1 (mt h.releasing hm)

/-- A recheck has failed in SAFE alone (R188). -/
theorem ModeSafe.not_failed {s : State} (h : ModeSafe s) (hm : s.control.mode ≠ .safe) : s.control.recheckFailed = false :=
  Bool.not_eq_true _ ▸ mt h.failed hm

/-- With its straps and records as they are, the device may stay in its mode or change between RUN and SAFE, as long as recheck
failed and the release timer are SAFE's (R185 to R188). -/
theorem ModeSafe.of_records {s t : State} (h : ModeSafe s)
    (kept : t.control.station = s.control.station ∧ t.control.axleCount = s.control.axleCount ∧
      t.control.active = s.control.active ∧ t.control.loaded = s.control.loaded)
    (mode : t.control.mode = s.control.mode ∨ s.control.mode.working = true ∧ t.control.mode.working = true)
    (failed : t.control.recheckFailed = true → t.control.mode = .safe)
    (releasing : t.control.releaseTimer.isSome = true → t.control.mode = .safe)
    (recheck : t.control.recheckTimer.isSome = s.control.recheckTimer.isSome) : ModeSafe t := by
  obtain ⟨hstation, haxles, hactive, hloaded⟩ := kept
  have hworking : t.control.mode.working = s.control.mode.working := by
    rcases mode with hm | ⟨hs, ht⟩
    · rw [hm]
    · rw [hs, ht]
  have hconfig : t.control.mode = .config ↔ s.control.mode = .config := by
    rcases mode with hm | ⟨hs, ht⟩
    · rw [hm]
    · constructor
      · intro hc; rw [hc] at ht; cases ht
      · intro hc; rw [hc] at hs; cases hs
  exact ⟨hstation ▸ h.station, haxles ▸ h.axles, by rw [hactive, haxles]; exact h.active,
    by rw [hloaded, haxles]; exact h.loaded, by rw [hworking, hactive]; exact h.works,
    by rw [hconfig, hactive]; exact h.config, by rw [hconfig, hloaded]; exact h.loadedIn, failed, releasing,
    by rw [recheck, hworking]; exact h.recheck⟩

/-- A device about to enter RUN from INIT or CONFIG: it has its straps and a valid active record, and nothing that is CONFIG's or
SAFE's (R183 to R185). -/
structure ReadyToRun (s : State) : Prop where
  station : 1 ≤ s.control.station ∧ s.control.station ≤ 8
  axles : s.control.axleCount = 4 ∨ s.control.axleCount = 6
  active : ∃ r, s.control.active = some r ∧ r.valid s.control.axleCount = true
  loaded : s.control.loaded = none
  failed : s.control.recheckFailed = false
  releasing : s.control.releaseTimer = none

/-- The device ends in RUN, or in SAFE under the warning, with its recheck timer started (R185). -/
theorem ReadyToRun.enterRun {s : State} (h : ReadyToRun s) : ModeSafe (enterRun true s) := by
  obtain ⟨r, hr, hv⟩ := h.active
  have hcontrol := enterRun_control_fresh s
  split at hcontrol
  · constructor <;> simp [hcontrol, h.station, h.axles, hr, hv, h.loaded, Mode.working]
  · constructor <;> simp [hcontrol, h.station, h.axles, hr, hv, h.loaded, h.failed, h.releasing, Mode.working]

/-- A return from SAFE to RUN, or under the warning back to SAFE at once (R185, R187). -/
theorem ModeSafe.enterRun_return {s : State} (h : ModeSafe s) (hm : s.control.mode = .safe)
    (failed : s.control.recheckFailed = false) (releasing : s.control.releaseTimer = none) :
    ModeSafe (enterRun false s) := by
  have hcontrol := enterRun_control_return s
  split at hcontrol
  · exact h.of_records (by simp [hcontrol]) (.inl (by simp [hcontrol, hm])) (by simp [hcontrol]) (by simp [hcontrol])
      (by simp [hcontrol])
  · exact h.of_records (by simp [hcontrol]) (.inr (by simp [hcontrol, hm, Mode.working])) (by simp [hcontrol, failed])
      (by simp [hcontrol, releasing]) (by simp [hcontrol])

/-! ### The warning, the release timer and the recheck -/

/-- An assertion stops the release timer, and takes RUN to SAFE (R186). -/
theorem ModeSafe.warningAsserted {s : State} (h : ModeSafe s) : ModeSafe (warningAssertedEffect s) := by
  unfold warningAssertedEffect
  simp only []
  split
  · rename_i hm
    have hm : s.control.mode = .run := hm
    exact h.of_records (by simp) (.inr (by simp [hm, Mode.working])) (by simp) (by simp) (by simp)
  · exact h.of_records (by simp) (.inl rfl) h.failed (by simp) rfl

/-- A deassertion starts the release timer in SAFE alone (R187). -/
theorem ModeSafe.warningDeasserted {s : State} (h : ModeSafe s) : ModeSafe (warningDeassertedEffect s) := by
  refine h.of_records (by simp [warningDeassertedEffect]) (.inl rfl) h.failed (fun hr => ?_) rfl
  change (if s.control.mode = .safe then some s.now else s.control.releaseTimer).isSome = true at hr
  split at hr
  · assumption
  · exact h.releasing hr

/-- The release timer ends SAFE when the record checks, and else leaves recheck failed (R187). -/
theorem ModeSafe.releaseTimer {s : State} (h : ModeSafe s) : ModeSafe (releaseTimerEffect s) := by
  unfold releaseTimerEffect
  simp only []
  split
  · rename_i due
    have hs : ModeSafe (s.setControl { s.control with releaseTimer := none }) :=
      h.of_records (by simp) (.inl rfl) h.failed (by simp) rfl
    split
    · exact hs
    · rename_i hf
      split
      · exact hs.enterRun_return due.1 (by simpa using hf) rfl
      · exact hs.of_records (by simp) (.inl rfl) (fun _ => due.1) (by simp) rfl
  · exact h

/-- The recheck timer runs in RUN and SAFE, and a mismatch leaves the device in SAFE (R188). -/
theorem ModeSafe.recheckEffect {s : State} (h : ModeSafe s) : ModeSafe (recheckEffect s) := by
  unfold Machine.recheckEffect
  simp only []
  split
  · rename_i due
    have hworks : s.control.mode.working = true := h.recheck ▸ isSome_of_timerDue due
    have hs : ModeSafe (s.setControl { s.control with recheckTimer := timerNext s.control.recheckTimer 1000 }) :=
      h.of_records (by simp) (.inl rfl) h.failed h.releasing (by simp [timerNext])
    split
    · exact hs
    · split
      · exact hs.of_records (by simp) (.inr ⟨hworks, by simp [Mode.working]⟩) (by simp) (by simp) (by simp)
      · rename_i hrun
        have hsafe : s.control.mode = .safe := by
          cases hm : s.control.mode <;> simp_all [Mode.working]
        exact hs.of_records (by simp) (.inl rfl) (fun _ => hsafe) (fun _ => hsafe) rfl
  · exact h

/-! ### The end of INIT -/

/-- A record that INIT finds in a device that meets the invariants is valid, so that the test keeps it (R183). -/
theorem ModeSafe.settled_control {s : State} (h : ModeSafe s) (cut : MarkReading) : (s.settled cut).control = s.control := by
  have hrecord : ∀ st, (settleRecord (s.setStore st)).control = s.control := by
    intro st
    unfold settleRecord
    split
    · rfl
    · rename_i r hr
      have hv : r.valid (s.setStore st).control.axleCount = true := h.active r hr
      rw [if_pos hv]; rfl
  simp [State.settled, hrecord]

/-- INIT ends in RUN or SAFE with a valid record, and in CONFIG without one (R183). -/
theorem ModeSafe.scanEnd {s : State} (h : ModeSafe s) (cut : MarkReading) : ModeSafe (scanEndEffect cut s) := by
  have hcontrol := h.settled_control cut
  rw [scanEndEffect_eq]
  split
  case isFalse => exact h
  case isTrue hinit =>
    have hm := hinit.1
    have hloaded := h.no_loaded (by simp [hm])
    have hreleasing := h.no_release (by simp [hm])
    have hfailed := h.not_failed (by simp [hm])
    split
    · rename_i hactive
      obtain ⟨r, hr⟩ := Option.isSome_iff_exists.1 hactive
      rw [hcontrol] at hr
      refine ReadyToRun.enterRun ⟨?_, ?_, ⟨r, ?_⟩, ?_, ?_, ?_⟩ <;> rw [hcontrol]
      exacts [h.station, h.axles, ⟨hr, h.active r hr⟩, hloaded, hfailed, hreleasing]
    · rename_i hactive
      rw [hcontrol, Option.not_isSome_iff_eq_none] at hactive
      have hrecheck := h.recheck
      rw [hm] at hrecheck
      constructor <;>
        simp [hcontrol, h.station, h.axles, hactive, hloaded, hfailed, hreleasing, hrecheck, Mode.working]

/-! ### LOAD_CONFIG and START -/

/-- LOAD_CONFIG's tests let a record through that meets R189, in CONFIG (R174). -/
theorem loadConfigResult_ok {r : ConfigRecord} {s : State} (h : loadConfigResult r s = .ok) :
    s.control.mode = .config ∧ r.valid s.control.axleCount = true := by
  unfold loadConfigResult at h
  split_ifs at h with hmode hcheck hrange
  exact ⟨not_not.1 hmode, by simp_all [ConfigRecord.valid]⟩

/-- From `s` to `t` the Mode Controller is left as it is, or a record that meets R189 is loaded in CONFIG (R174). -/
def MayLoad (s t : State) : Prop :=
  t.control = s.control ∨ ∃ r : ConfigRecord, s.control.mode = .config ∧ r.valid s.control.axleCount = true ∧
    t.control = { s.control with loaded := some ⟨r, r.params.constants s.control.axleCount⟩ }

theorem mayLoad_answerLoadConfig (r : ConfigRecord) (s : State) : MayLoad s (answerLoadConfig r s) := by
  unfold answerLoadConfig
  split
  · rename_i hok
    obtain ⟨hm, hv⟩ := loadConfigResult_ok hok
    exact .inr ⟨r, hm, hv, by simp [loadRecord]⟩
  · exact .inl (by simp)

theorem mayLoad_loadConfigEffect (params : List Byte) (s : State) : MayLoad s (loadConfigEffect params s) := by
  unfold loadConfigEffect takeCommand withLength
  split
  · split
    · exact mayLoad_answerLoadConfig (carriedRecord params) (s.setPort { s.port with
        framer := .answering, buffer := commandBytes 0x03 params, bitCount := 0, shift := 0 })
    · exact .inl (by simp)
  · exact .inl rfl

/-- A record loaded in CONFIG meets R189 (R174). -/
theorem ModeSafe.loadConfig {s : State} (h : ModeSafe s) (params : List Byte) : ModeSafe (loadConfigEffect params s) := by
  rcases mayLoad_loadConfigEffect params s with hcontrol | ⟨r, hm, hv, hcontrol⟩
  · exact h.congr hcontrol
  · constructor <;> rw [hcontrol]
    case loaded => rintro _ ⟨⟩; exact ⟨hv, rfl⟩
    case loadedIn => exact fun _ => hm
    exacts [h.station, h.axles, h.active, h.works, h.config, h.failed, h.releasing, h.recheck]

/-- A loaded record is valid, and CONFIG knows neither recheck failed nor the release timer (R174, R184). -/
theorem ModeSafe.activate {s : State} (h : ModeSafe s) (hm : s.control.mode = .config) {l : LoadedRecord}
    (hl : s.control.loaded = some l) : ReadyToRun (activate l s) :=
  ⟨h.station, h.axles, ⟨l.record, rfl, (h.loaded l hl).1⟩, rfl, h.not_failed (by simp [hm]), h.no_release (by simp [hm])⟩

theorem ModeSafe.answerStart {s : State} (h : ModeSafe s) : ModeSafe (answerStart s) := by
  unfold Machine.answerStart
  split
  · rename_i l hm hl
    exact (h.activate hm hl).enterRun.congr (by simp)
  · exact h.congr (by simp)

theorem ModeSafe.start {s : State} (h : ModeSafe s) (params : List Byte) : ModeSafe (startEffect params s) := by
  unfold startEffect takeCommand withLength
  split
  · split
    · exact ModeSafe.answerStart (h.congr rfl)
    · exact h.congr (by simp)
  · exact h

/-- An unknown code leaves the Mode Controller, and a code that is known has its command's effect (R171). -/
theorem ModeSafe.unknownCommand {s : State} (h : ModeSafe s) (code : Byte) (params : List Byte) :
    ModeSafe (unknownCommandEffect code params s) := by
  unfold unknownCommandEffect
  split
  case h_3 => exact h.loadConfig params
  case h_4 => exact h.start params
  case h_13 => exact h.congr (takeCommand_unknown code params s).2
  all_goals exact h.congr (by simp)

/-! ### Releases -/

theorem strapStation_range (pins : BitVec 3) : 1 ≤ strapStation pins ∧ strapStation pins ≤ 8 := by
  have := pins.isLt
  simp only [strapStation]; omega

theorem strapAxles_cases (six : Bool) : strapAxles six = 4 ∨ strapAxles six = 6 := by cases six <;> simp [strapAxles]

/-- A power-on reset keeps no record, and samples the straps (R182, R190). -/
theorem modeSafe_powerOnRelease (levels : ReleaseLevels) (s : State) : ModeSafe (powerOnRelease levels s) := by
  constructor
  case station => exact strapStation_range levels.station
  case axles => exact strapAxles_cases levels.sixAxles
  all_goals simp [powerOnRelease, ModeController.reset, Mode.working]

/-- A hard reset keeps the straps and the active record (R190). -/
theorem ModeSafe.hardRelease {s : State} (h : ModeSafe s) (levels : ReleaseLevels) : ModeSafe (hardRelease levels s) := by
  constructor <;> simp [Machine.hardRelease, releaseCommon, ModeController.reset, Mode.working, h.station, h.axles]
  exact h.active

theorem ModeSafe.resetReleased {s : State} (h : ModeSafe s) (powerOn : Bool) (levels : ReleaseLevels) :
    ModeSafe (resetReleased powerOn levels s) := by
  unfold Machine.resetReleased
  repeat' split
  · exact h
  · exact modeSafe_powerOnRelease levels s
  · exact h.hardRelease levels

/-! ### All commands -/

/-- The commands that may change the Mode Controller. -/
def movesControl : Instr → Bool
  | .powerOnResetRelease _ _ => true
  | .hardResetRelease _ _ => true
  | .resetAsserted _ _ => true
  | .scanEnd _ _ => true
  | .powerFailWarningAsserted _ => true
  | .powerFailWarningDeasserted _ => true
  | .releaseTimerExpiry _ => true
  | .configurationRecheck _ => true
  | .unknownCommand _ _ _ => true
  | .loadConfig _ _ => true
  | .start _ _ => true
  | _ => false

/-- Every other command leaves it. -/
theorem effectOf_keeps_control {c : Instr} (hc : movesControl c = false) (s : State) :
    (effectOf c s).control = s.control := by
  cases c <;> first | (cases hc; done) | simp [effectOf]

theorem ModeSafe.effectOf {s : State} (h : ModeSafe s) (c : Instr) : ModeSafe (effectOf c s) := by
  cases hc : movesControl c with
  | false => exact h.congr (effectOf_keeps_control hc s)
  | true =>
    cases c with
    | powerOnResetRelease dt levels =>
      have hs : ModeSafe (s.setPins { s.pins with powerOnReset := false }) := h.congr rfl
      exact hs.resetReleased true levels
    | hardResetRelease dt levels =>
      have hs : ModeSafe (s.setPins { s.pins with hardReset := false }) := h.congr rfl
      exact hs.resetReleased false levels
    | resetAsserted dt input => exact h.of_records ⟨rfl, rfl, rfl, rfl⟩ (.inl rfl) h.failed h.releasing rfl
    | scanEnd dt cut => exact h.scanEnd cut
    | powerFailWarningAsserted dt => exact h.warningAsserted
    | powerFailWarningDeasserted dt => exact h.warningDeasserted
    | releaseTimerExpiry dt => exact h.releaseTimer
    | configurationRecheck dt => exact h.recheckEffect
    | unknownCommand dt code params => exact h.unknownCommand code params
    | loadConfig dt params => exact h.loadConfig params
    | start dt params => exact h.start params
    | _ => cases hc

end Sys2Proof.Machine
end

section
/-!
PROOFS. Every step keeps the relations of the Service Port (O5): a service command leaves the port or answers with a response of which
nothing has been read, the select and reset inputs begin or end a transaction, and the clocks move it on.
-/

namespace Sys2Proof.Machine

open Sys2Proof

/-- The Service Port's relations are its own block's. -/
theorem PortSafe.congr {s t : State} (h : PortSafe s) (port : t.port = s.port) : PortSafe t := by
  obtain ⟨response, position, count, shift, unread, receiving, dataOut⟩ := h
  rw [← port] at *
  exact ⟨response, position, count, shift, unread, receiving, dataOut⟩

/-! ### Answers -/

/-- An answer puts a response with none of it read into the port, and does nothing else to the port (R168). -/
def Answers (answer : State → State) : Prop :=
  ∀ s, ∃ bytes, (answer s).port = { s.port with response := some ⟨bytes, 0⟩ }

/-- An effect that leaves the port and a response after it make an answer. -/
theorem exists_respond_port {s u : State} (h : u.port = s.port) (code : ResultCode) (data : List Byte) :
    ∃ bytes, (respond code data u).port = { s.port with response := some ⟨bytes, 0⟩ } :=
  ⟨_, by rw [← h]; rfl⟩

theorem exists_refuse_port (code : ResultCode) (s : State) :
    ∃ bytes, (refuse code s).port = { s.port with response := some ⟨bytes, 0⟩ } := exists_respond_port rfl code []

theorem answers_withLength {answer : State → State} (h : Answers answer) (want : Nat) (params : List Byte) :
    Answers (withLength want params answer) := by
  intro s
  unfold withLength
  split
  · exact h s
  · exact exists_refuse_port _ s

theorem answers_loadConfig (r : ConfigRecord) : Answers (answerLoadConfig r) := by
  intro s
  unfold answerLoadConfig
  split
  · exact exists_respond_port rfl _ _
  · exact exists_refuse_port _ s

theorem answers_start : Answers answerStart := by
  intro s
  unfold answerStart
  split
  · exact exists_respond_port (by simp) _ _
  · exact exists_refuse_port _ s

theorem answers_directory : Answers answerDirectory := by
  intro s
  unfold answerDirectory
  split
  · exact exists_refuse_port _ s
  · exact exists_respond_port rfl _ _

theorem answers_read (len : Nat) (total : Header → Nat) (items : Slot → List Byte) (n first extra : Nat) :
    Answers (answerRead len total items n first extra) := by
  intro s
  unfold answerRead
  split
  · exact exists_refuse_port _ s
  · split_ifs
    · exact exists_refuse_port _ s
    · exact exists_refuse_port _ s
    · split
      · exact exists_refuse_port _ s
      · split_ifs
        · exact exists_refuse_port _ s
        · exact exists_respond_port rfl _ _

theorem answers_history (first extra : Nat) : Answers (answerHistory first extra) := by
  intro s
  unfold answerHistory
  split_ifs
  · exact exists_refuse_port _ s
  · exact exists_refuse_port _ s
  · exact exists_respond_port rfl _ _

theorem answers_request (kind : OpKind) (n : Nat) (maintenance : Bool) : Answers (answerRequest kind n maintenance) := by
  intro s
  unfold answerRequest
  split
  · exact exists_refuse_port _ s
  · split_ifs
    · exact exists_refuse_port _ s
    · split
      · exact exists_respond_port rfl _ _
      · exact exists_refuse_port _ s

theorem answers_mark (b : Byte) : Answers (answerMark b) := by
  intro s
  unfold answerMark
  split
  · exact exists_refuse_port _ s
  · split_ifs
    · exact exists_respond_port (by simp) _ _
    · exact exists_refuse_port _ s

/-! ### Commands -/

/-- From `s` to `t` the port is left as it is, or has taken a command and answered it (R168, R169). -/
def Served (s t : State) : Prop :=
  t.port = s.port ∨ ∃ buffer bytes, t.port = { s.port with
    framer := .answering, buffer := buffer, bitCount := 0, shift := 0, response := some ⟨bytes, 0⟩ }

theorem served_takeCommand {answer : State → State} (h : Answers answer) (code : Byte) (params : List Byte) (s : State) :
    Served s (takeCommand code params answer s) := by
  unfold takeCommand
  split
  · obtain ⟨bytes, hport⟩ := h (s.setPort { s.port with
      framer := .answering, buffer := commandBytes code params, bitCount := 0, shift := 0 })
    exact .inr ⟨_, bytes, hport⟩
  · exact .inl rfl

/-- A command whose length is tested before its own tests (R171). -/
theorem served_withLength {answer : State → State} (h : Answers answer) (code : Byte) (want : Nat) (params : List Byte)
    (s : State) : Served s (takeCommand code params (withLength want params answer) s) :=
  served_takeCommand (answers_withLength h want params) code params s

section Commands

variable (params : List Byte) (s : State)

theorem served_getStatus : Served s (getStatusEffect params s) :=
  served_withLength (fun _ => exists_respond_port rfl _ _) _ _ params s

theorem served_getRoster : Served s (getRosterEffect params s) :=
  served_withLength (fun _ => exists_respond_port rfl _ _) _ _ params s

theorem served_loadConfig : Served s (loadConfigEffect params s) := served_withLength (answers_loadConfig _) _ _ params s

theorem served_start : Served s (startEffect params s) := served_withLength answers_start _ _ params s

theorem served_getDirectory : Served s (getDirectoryEffect params s) := served_withLength answers_directory _ _ params s

theorem served_readIncident : Served s (readIncidentEffect params s) :=
  served_withLength (answers_read _ _ _ _ _ _) _ _ params s

theorem served_readEvents : Served s (readEventsEffect params s) := served_withLength (answers_read _ _ _ _ _ _) _ _ params s

theorem served_readHistory : Served s (readHistoryEffect params s) := served_withLength (answers_history _ _) _ _ params s

theorem served_lockSlot : Served s (lockSlotEffect params s) := served_withLength (answers_request _ _ _) _ _ params s

theorem served_unlockSlot (maintenance : Bool) : Served s (unlockSlotEffect params maintenance s) :=
  served_withLength (answers_request _ _ _) _ _ params (s.setPins { s.pins with maintenance := maintenance })

theorem served_eraseSlot : Served s (eraseSlotEffect params s) := served_withLength (answers_request _ _ _) _ _ params s

theorem served_mark : Served s (markEffect params s) := served_withLength (answers_mark _) _ _ params s

/-- An unknown code is answered UNKNOWN, and a code that is known has its command's effect (R171). -/
theorem served_unknownCommand (code : Byte) : Served s (unknownCommandEffect code params s) := by
  unfold unknownCommandEffect
  split
  · exact served_getStatus params s
  · exact served_getRoster params s
  · exact served_loadConfig params s
  · exact served_start params s
  · exact served_getDirectory params s
  · exact served_readIncident params s
  · exact served_readEvents params s
  · exact served_readHistory params s
  · exact served_lockSlot params s
  · exact served_unlockSlot params s _
  · exact served_eraseSlot params s
  · exact served_mark params s
  · exact served_takeCommand (exists_refuse_port .unknown) code params s

end Commands

/-- The commands of the select and reset inputs, which begin or end a transaction. -/
def beginsOrEnds : Instr → Bool
  | .selectAsserted _ => true
  | .selectReleased _ => true
  | .powerOnResetRelease _ _ => true
  | .hardResetRelease _ _ => true
  | .resetAsserted _ _ => true
  | _ => false

/-- Every other command is a service command, which serves the port, or leaves the port. -/
theorem served_effectOf {c : Instr} (hc : beginsOrEnds c = false) (s : State) : Served s (effectOf c s) := by
  cases c with
  | getStatus dt params => exact served_getStatus params s
  | getRoster dt params => exact served_getRoster params s
  | loadConfig dt params => exact served_loadConfig params s
  | start dt params => exact served_start params s
  | getDirectory dt params => exact served_getDirectory params s
  | readIncident dt params => exact served_readIncident params s
  | readEvents dt params => exact served_readEvents params s
  | readHistory dt params => exact served_readHistory params s
  | lockSlot dt params => exact served_lockSlot params s
  | unlockSlot dt params maintenance => exact served_unlockSlot params s maintenance
  | eraseSlot dt params => exact served_eraseSlot params s
  | mark dt params => exact served_mark params s
  | unknownCommand dt code params => exact served_unknownCommand params s code
  | _ => first | (cases hc; done) | exact .inl (by simp [effectOf])

/-! ### All commands -/

theorem PortSafe.served {s t : State} (h : PortSafe s) (k : Served s t) : PortSafe t := by
  rcases k with hport | ⟨buffer, bytes, hport⟩
  · exact h.congr hport
  · constructor <;> simp [hport]

/-- A port at rest, IDLE or ignoring a transaction that a reset has cut off (R170). -/
theorem portSafe_released {t : State} {select : Bool} (port : t.port = ServicePort.released select) : PortSafe t := by
  cases select <;> constructor <;> simp [port, ServicePort.released, ServicePort.reset]

theorem portSafe_rest {t : State} (port : t.port = ServicePort.reset) : PortSafe t :=
  portSafe_released (select := false) port

/-- Select makes an IDLE port RECEIVING with nothing received, and leaves any other (R168). -/
theorem PortSafe.selectAsserted {s : State} (h : PortSafe s) : PortSafe (selectAssertedEffect s) := by
  unfold selectAssertedEffect
  simp only []
  split
  · constructor <;> simp [ServicePort.reset, commandComplete]
  · exact h.congr rfl

theorem PortSafe.resetReleased {s : State} (h : PortSafe s) (powerOn : Bool) (levels : ReleaseLevels) :
    PortSafe (resetReleased powerOn levels s) := by
  unfold Machine.resetReleased
  repeat' split
  · exact h
  · exact portSafe_released rfl
  · exact portSafe_released rfl

theorem PortSafe.effectOf {s : State} (h : PortSafe s) (c : Instr) : PortSafe (effectOf c s) := by
  cases hc : beginsOrEnds c with
  | false => exact h.served (served_effectOf hc s)
  | true =>
    cases c with
    | selectAsserted dt => exact h.selectAsserted
    | selectReleased dt => exact portSafe_rest rfl
    | resetAsserted dt input => exact portSafe_rest rfl
    | powerOnResetRelease dt levels =>
      have hs : PortSafe (s.setPins { s.pins with powerOnReset := false }) := h.congr rfl
      exact hs.resetReleased true levels
    | hardResetRelease dt levels =>
      have hs : PortSafe (s.setPins { s.pins with hardReset := false }) := h.congr rfl
      exact hs.resetReleased false levels
    | _ => cases hc

theorem PortSafe.advance {s : State} (h : PortSafe s) (dt : Passage) : PortSafe (s.advance dt) :=
  (h.clocked dt.clocks).congr rfl

theorem ModeSafe.advance {s : State} (h : ModeSafe s) (dt : Passage) : ModeSafe (s.advance dt) := h.congr (by simp)

/-- Settles O5: a step is a passage and at most one command's effect, and both keep the relations of both blocks. -/
theorem modesStayLegal : Obligations.ModesStayLegal := by
  unfold Obligations.ModesStayLegal
  intro s t hs hstep
  unfold step at hstep
  split at hstep
  · cases hstep; exact ⟨hs.mode.advance _, hs.port.advance _⟩
  · rename_i c rest _
    have hmode : ModeSafe (s.setPending rest) := hs.mode.congr rfl
    have hport : PortSafe (s.setPending rest) := hs.port.congr rfl
    rcases exec_cases hstep with ⟨rfl, -⟩ | ⟨rfl, -⟩
    · exact ⟨(hmode.advance _).effectOf _, (hport.advance _).effectOf _⟩
    · exact ⟨hmode.advance _, hport.advance _⟩

end Sys2Proof.Machine
end

section
/-!
PROOFS. Select, and the service commands that are answered before any test of their own (O58): an unknown code and a parameter length
that is not the command's FORMAT.
-/

namespace Sys2Proof.Machine

open Sys2Proof

section Transactions

variable {dt : Passage} {s : State}

/-- Select makes an IDLE port RECEIVING with an empty buffer, and leaves the port in any other framer state (R168). -/
theorem selectAssertedEffect_eq (s : State) : selectAssertedEffect s =
    (s.setPins { s.pins with select := true }).setPort
      (if s.port.framer = .idle then ⟨.receiving, [], 0, 0, none, true⟩ else s.port) := by
  unfold selectAssertedEffect
  by_cases h : s.port.framer = .idle
  · rw [if_pos h]; exact if_pos h
  · rw [if_neg h]; exact if_neg h

theorem exec_selectAsserted (ha : Accepts s) : exec (.selectAsserted dt) s =
    .next (((s.advance dt).setPins { s.pins with select := true }).setPort
      (if s.port.framer = .idle then ⟨.receiving, [], 0, 0, none, true⟩ else (s.advance dt).port)) := by
  have heffect := selectAssertedEffect_eq (s.advance dt)
  rw [show (s.advance dt).port.framer = s.port.framer by simp] at heffect
  rw [exec_accepted ha]
  exact congrArg _ heffect

/-- A code that is none of the twelve has no command's effect (R171, R194). -/
theorem unknownCommandEffect_eq {code : Byte} (h : code.toNat = 0 ∨ 12 < code.toNat) (params : List Byte) (s : State) :
    unknownCommandEffect code params s = takeCommand code params (refuse .unknown) s := by
  unfold unknownCommandEffect
  split
  case h_13 => rfl
  all_goals omega

/-- The pins are no part of what the port hears (R168). -/
theorem hears_setPins {code : Byte} {params : List Byte} {pins : Pins} :
    (s.setPins pins).hears dt code params ↔ s.hears dt code params :=
  ⟨fun h => ⟨h.receiving, h.begun⟩, fun h => ⟨h.receiving, h.begun⟩⟩

end Transactions

/-- Settles O58: by what `takeCommand` does with a command that is heard and with one that is not. -/
theorem transactionsBeginEndAndRefuse : Obligations.TransactionsBeginEndAndRefuse := by
  unfold Obligations.TransactionsBeginEndAndRefuse
  intro dt s ha
  refine ⟨exec_selectAsserted ha, exec_accepted ha, fun code params hcode => ?unknown, fun c code params want pins hc => ?known⟩
  case unknown =>
    have hexec : exec (.unknownCommand dt code params) s =
        .next (takeCommand code params (refuse .unknown) (s.advance dt)) := by
      rw [exec_accepted ha, ← unknownCommandEffect_eq hcode]; rfl
    rw [hexec]
    refine ⟨fun hh => ?_, fun hh => by rw [takeCommand_unheard hh]⟩
    rw [takeCommand_heard hh, refuse_taken dt code params (by simp)]; rfl
  case known =>
    have hexec : ∃ answer, exec c s =
        .next (takeCommand code params (withLength want params answer) ((s.setPins pins).advance dt)) := by
      rcases hc with ⟨rfl, rfl, rfl, rfl⟩ | ⟨rfl, rfl, rfl, rfl⟩ | ⟨rfl, rfl, rfl, rfl⟩ | ⟨rfl, rfl, rfl, rfl⟩ |
        ⟨rfl, rfl, rfl, rfl⟩ | ⟨rfl, rfl, rfl, rfl⟩ | ⟨rfl, rfl, rfl, rfl⟩ | ⟨rfl, rfl, rfl, rfl⟩ | ⟨rfl, rfl, rfl, rfl⟩ |
        ⟨key, rfl, rfl, rfl, rfl⟩ | ⟨rfl, rfl, rfl, rfl⟩ | ⟨rfl, rfl, rfl, rfl⟩
      all_goals exact ⟨_, exec_accepted ha⟩
    obtain ⟨answer, hexec⟩ := hexec
    rw [hexec, ← hears_setPins (pins := pins)]
    exact ⟨fun hh => by rw [takeCommand_unheard hh], fun hh hl => by rw [takeCommand_format hh hl]⟩

end Sys2Proof.Machine
end

section
/-!
PROOFS. START (O23): the loaded record becomes the active one and the device enters RUN, or SAFE at once under the power-fail warning.
-/

namespace Sys2Proof.Machine

open Sys2Proof

/-- The Service Port is no part of an entry to RUN. -/
theorem EnteredRun.setPorts {s t : State} (h : EnteredRun s t) (p q : ServicePort) :
    EnteredRun (s.setPort p) (t.setPort q) :=
  ⟨h.control, h.demand, h.blend, h.speed, h.output, h.line, h.own, h.peers, h.flags, h.heard, h.recorder, h.rest⟩

section Start

variable {dt : Passage} {s : State}

theorem exec_start (ha : Accepts s) (hh : s.hears dt 0x04 []) :
    exec (.start dt []) s = .next (answerStart ((s.advance dt).taken 0x04 [])) := by
  rw [exec_accepted ha]
  exact congrArg _ (takeCommand_heard hh)

/-- Without a record loaded in CONFIG, START is refused (R175). -/
theorem answerStart_refused (h : s.control.mode ≠ .config ∨ s.control.loaded = none) : answerStart s = refuse .state s := by
  unfold answerStart
  split
  · rename_i hm hl
    rcases h with h | h
    · exact absurd hm h
    · cases hl.symm.trans h
  · rfl

/-- With a record loaded in CONFIG, START is answered once the device has entered RUN (R175). -/
theorem answerStart_loaded {l : LoadedRecord} (hm : s.control.mode = .config) (hl : s.control.loaded = some l) :
    answerStart s = respond .ok [Mode.run.code] (enterRun true (activate l s)) := by
  simp only [answerStart, hm, hl]

end Start

/-- An entry to RUN leaves the axle constants in use (R48). -/
theorem enterRun_constants (s : State) : (enterRun true s).speed.constants = s.speed.constants := by
  have hspeed : (enterRun true s).speed = (startWork (changeMode .run s)).speed := by simp [enterRun]
  rw [hspeed]; simp [startWork_blocks]

/-- Under the warning POWER has just occurred when the entry to RUN ends (R185, R186). -/
theorem enterRun_warned_occurrence {s : State} (hw : s.control.warning = true) (hl : s.recorder.lastOccurrence.length = 12) :
    (enterRun true s).recorder.lastOccurrenceOf 12 = some s.now := by
  rw [enterRun_warned hw, powerFail_occurrence (by rw [State.setControl_recorder, worksInRun_recorder]; exact hl),
    State.setControl_now, worksInRun_now]

/-- Settles O23: START's record is activated, and the entry to RUN ends by the warning. -/
theorem startEntersRun : Obligations.StartEntersRun := by
  unfold Obligations.StartEntersRun
  intro dt s ha hh
  have hcontrol : ((s.advance dt).taken 0x04 []).control = s.control := by simp [State.taken]
  rw [exec_start ha hh]
  refine ⟨fun hrefused => ?refused, fun l hm hl hentries h1 h8 hlength => ⟨_, rfl, ?started⟩⟩
  case refused =>
    rw [answerStart_refused (by rwa [hcontrol]), refuse_taken dt 0x04 [] (by simp)]; rfl
  case started =>
    rw [answerStart_loaded (by rwa [hcontrol]) (by rwa [hcontrol])]
    generalize hu : activate l ((s.advance dt).taken 0x04 []) = u
    have hblocks : u = (((s.advance dt).setControl { s.control with active := some l.record, loaded := none }).setSpeed
        { s.speed with constants := some l.constants }).setPort ((s.advance dt).taken 0x04 []).port := hu ▸ rfl
    have huc : u.control = { s.control with active := some l.record, loaded := none } := by rw [hblocks]; rfl
    have hnow : (respond .ok [Mode.run.code] (enterRun true u)).now = u.now := now_congr (by simp)
    have hmodes := enterRun_control_fresh u
    refine ⟨?port, ?active, ?loaded, ?constants, fun hw => ?run, fun hw => ?warned⟩
    case port => simp [hblocks, respond, State.taken, State.answered, commandBytes, ResultCode.code, Mode.code]
    case active => simp only [respond_frame]; rw [hmodes, huc]; split <;> rfl
    case loaded => simp only [respond_frame]; rw [hmodes, huc]; split <;> rfl
    case constants => simp only [respond_frame]; rw [enterRun_constants, hblocks]; rfl
    case run =>
      have hentered : EnteredRun u (enterRun true u) := by
        rw [enterRun_unwarned (by rw [huc]; exact hw)]
        refine enteredRun_worksInRun (by rw [huc]; exact h1) ?_
        rw [huc, hblocks]; simp [hentries, h8]
      subst hu
      exact hentered.setPorts (s.advance dt).port _
    case warned =>
      have huw : u.control.warning = true := by rw [huc]; exact hw
      obtain ⟨hvalid, -, -, hblend, -⟩ := enterRun_warned_blocks huw
      have hoccurred := enterRun_warned_occurrence huw (by rw [hblocks]; simpa using hlength)
      rw [if_pos huw] at hmodes
      rw [hnow]
      simp only [respond_frame]
      exact ⟨by rw [hmodes], hvalid, hblend, by rw [hmodes], hoccurred⟩

end Sys2Proof.Machine
end

section
/-!
PROOFS. The reading commands (O59): what each answers from the state, and that a read's items are the bytes of the items asked for.
-/

namespace Sys2Proof.Machine

open Sys2Proof

/-! ### Bytes and items -/

theorem byteOf_toNat (b : Byte) : byteOf b.toNat = b := by simp [byteOf]

/-- The flags of the status block (R196). -/
theorem statusFlags_bits (s : State) : s.statusFlags.getLsbD 0 = s.roster.unheard ∧ s.statusFlags.getLsbD 1 = s.roster.duplicate ∧
    s.statusFlags.getLsbD 2 = s.recorder.pendingTrigger.isSome ∧ (s.statusFlags.getLsbD 3 = true ↔ s.store.op ≠ .none) := by
  have hbits : ∀ a b c d : Bool, (byteOfBits [a, b, c, d]).getLsbD 0 = a ∧ (byteOfBits [a, b, c, d]).getLsbD 1 = b ∧
      (byteOfBits [a, b, c, d]).getLsbD 2 = c ∧ (byteOfBits [a, b, c, d]).getLsbD 3 = d := by decide
  obtain ⟨h0, h1, h2, h3⟩ :=
    hbits s.roster.unheard s.roster.duplicate s.recorder.pendingTrigger.isSome s.store.busy
  exact ⟨h0, h1, h2, by rw [State.statusFlags, h3]; simp [Store.busy]⟩

/-- The LOCKED count and the next incident number are 0 during the scan (R172). -/
theorem scannedBytes_eq (st : Store) :
    [byteOf (if st.scanning then 0 else st.lockedCount)] ++ natBytes2 (if st.scanning then 0 else st.nextNumber) =
      if st.op = .scan then [0, 0, 0] else byteOf st.lockedCount :: natBytes2 st.nextNumber := by
  by_cases h : st.op = .scan
  · simp only [Store.scanning, h, beq_self_eq_true, if_true]; rfl
  · simp [Store.scanning, h]

section Items

variable {α β : Type} {f : α → List β} {len : Nat} (hf : ∀ x, (f x).length = len)
include hf

/-- Items of one length begin at its multiples. -/
theorem drop_flatMap_mul (xs : List α) (n : Nat) : (xs.flatMap f).drop (len * n) = (xs.drop n).flatMap f := by
  induction n generalizing xs with
  | zero => simp
  | succ n ih =>
    cases xs with
    | nil => simp
    | cons x xs => simp [Nat.mul_succ, Nat.add_comm, ← List.drop_drop, hf, ih]

theorem take_flatMap_mul (xs : List α) (n : Nat) : (xs.flatMap f).take (len * n) = (xs.take n).flatMap f := by
  induction n generalizing xs with
  | zero => simp
  | succ n ih =>
    cases xs with
    | nil => simp
    | cons x xs => simp [Nat.mul_succ, Nat.add_comm, List.take_append, hf, ih]

end Items

theorem snapshotBytes_length (x : Snapshot) : x.bytes.length = snapshotLength := by
  simp [Snapshot.bytes, timeBytes, natBytes2, wordBytes, snapshotLength]

/-- The snapshots of a read, cut at the last one (R179). -/
theorem readData_snapshots {xs ys : List Snapshot} {first : Byte} {extra : Nat}
    (hys : ys = (xs.drop first.toNat).take (extra + 1)) :
    readData (snapshotsBytes xs) snapshotLength xs.length first.toNat extra =
      [first, byteOf ys.length] ++ ys.flatMap Snapshot.bytes := by
  have hcount : ys.length = returned xs.length first.toNat extra := by simp [hys, returned]
  have hcut : (xs.drop first.toNat).take ys.length = ys := by
    rw [hys, List.length_take, List.take_eq_take_min (i := extra + 1)]
  rw [readData, ← hcount, snapshotsBytes, drop_flatMap_mul snapshotBytes_length, take_flatMap_mul snapshotBytes_length, hcut,
    byteOf_toNat]

/-! ### The store's reads -/

/-- A STORED or LOCKED slot is read by its header (R153, R178). -/
theorem readable_eq_header {x : Slot} (h : x.state = .stored ∨ x.state = .locked) : x.readable = x.header := by
  rcases h with h | h <;> simp [Slot.readable, h]

theorem readable_eq_none {x : Slot} (h1 : x.state ≠ .stored) (h2 : x.state ≠ .locked) : x.readable = none := by
  unfold Slot.readable
  split
  · exact absurd ‹_› h1
  · exact absurd ‹_› h2
  · rfl

section Reads

variable {len : Nat} {total : Header → Nat} {items : Slot → List Byte} {n first extra : Nat} {u : State} {x : Slot} {h : Header}

theorem answerRead_absent (hx : u.store.slot? n = none) : answerRead len total items n first extra u = refuse .range u := by
  rw [answerRead, hx]

variable (hx : u.store.slot? n = some x)
include hx

theorem answerRead_held (held : u.storeHeld = true) : answerRead len total items n first extra u = refuse .busy u := by
  simp [answerRead, hx, held]

variable (free : u.storeHeld = false)
include free

theorem answerRead_many (he : 15 < extra) : answerRead len total items n first extra u = refuse .range u := by
  simp [answerRead, hx, free, he]

variable (he : extra ≤ 15)
include he

theorem answerRead_unreadable (hr : x.readable = none) : answerRead len total items n first extra u = refuse .state u := by
  simp [answerRead, hx, free, Nat.not_lt.2 he, hr]

variable (hr : x.readable = some h)
include hr

theorem answerRead_past (hf : total h ≤ first) : answerRead len total items n first extra u = refuse .range u := by
  simp [answerRead, hx, free, Nat.not_lt.2 he, hr, hf]

theorem answerRead_items (hf : first < total h) : answerRead len total items n first extra u =
    respond .ok (h.bytes ++ readData (items x) len (total h) first extra) u := by
  simp [answerRead, hx, free, Nat.not_lt.2 he, hr, Nat.not_le.2 hf]

end Reads

/-! ### The live ring -/

section History

variable {first : Byte} {extra : Nat} {u : State}

theorem answerHistory_refused (h : 15 < extra ∨ u.recorder.history.length ≤ first.toNat) :
    answerHistory first.toNat extra u = refuse .range u := by
  unfold answerHistory
  split_ifs with he hf
  · rfl
  · rfl
  · exact absurd h (not_or.2 ⟨he, hf⟩)

theorem answerHistory_items (he : extra ≤ 15) (hf : first.toNat < u.recorder.history.length) :
    answerHistory first.toNat extra u = respond .ok
      ([first, byteOf ((u.recorder.history.drop first.toNat).take (extra + 1)).length] ++
        ((u.recorder.history.drop first.toNat).take (extra + 1)).flatMap Snapshot.bytes) u := by
  rw [answerHistory, if_neg (Nat.not_lt.2 he), if_neg (Nat.not_le.2 hf), readData_snapshots rfl]

end History

/-! ### The commands -/

section Commands

variable {dt : Passage} {s : State} (ha : Accepts s)
include ha

theorem exec_getStatus (hh : s.hears dt 0x01 []) :
    exec (.getStatus dt []) s = .next (s.answered dt 0x01 [] (0 :: s.statusBlock)) := by
  rw [exec_accepted ha, ← respond_ok_taken]
  exact congrArg _ (takeCommand_heard hh)

theorem exec_getRoster (hh : s.hears dt 0x02 []) :
    exec (.getRoster dt []) s = .next (s.answered dt 0x02 [] (0 :: s.roster.bytes)) := by
  rw [exec_accepted ha, ← respond_ok_taken]
  exact congrArg _ (takeCommand_heard hh)

theorem exec_getDirectory (hh : s.hears dt 0x05 []) : exec (.getDirectory dt []) s =
    .next (s.answered dt 0x05 [] (if s.storeHeld then [1] else 0 :: s.store.directory)) := by
  have hexec : exec (.getDirectory dt []) s = .next (answerDirectory ((s.advance dt).taken 0x05 [])) :=
    (exec_accepted ha).trans (congrArg _ (takeCommand_heard hh))
  have hheld : ((s.advance dt).taken 0x05 []).storeHeld = s.storeHeld := rfl
  rw [hexec, answerDirectory, hheld]
  split
  · rw [refuse_taken dt 0x05 [] (by simp)]; rfl
  · rw [respond_ok_taken]; rfl

theorem exec_readHistory {first extra : Byte} (hh : s.hears dt 0x08 [first, extra]) : exec (.readHistory dt [first, extra]) s =
    .next (answerHistory first.toNat extra.toNat ((s.advance dt).taken 0x08 [first, extra])) :=
  (exec_accepted ha).trans (congrArg _ (takeCommand_heard hh))

/-- READ_INCIDENT and READ_EVENTS differ in the items that they take of a slot alone (R178). -/
theorem exec_read {c : Instr} {code n first extra : Byte} {len : Nat} {total : Header → Nat} {items : Slot → List Byte}
    (hc : (c = .readIncident dt [n, first, extra] ∧ code = 6 ∧ len = 34 ∧
        total = (fun h => h.preCount + h.postCount) ∧ items = Slot.snapshots) ∨
      (c = .readEvents dt [n, first, extra] ∧ code = 7 ∧ len = 9 ∧ total = Header.eventCount ∧ items = Slot.events))
    (hh : s.hears dt code [n, first, extra]) : exec c s =
      .next (answerRead len total items n.toNat first.toNat extra.toNat ((s.advance dt).taken code [n, first, extra])) := by
  rcases hc with ⟨rfl, rfl, rfl, rfl, rfl⟩ | ⟨rfl, rfl, rfl, rfl, rfl⟩
  all_goals exact (exec_accepted ha).trans (congrArg _ (takeCommand_heard hh))

end Commands

/-- Settles O59: each reading command by the first test that it fails, and else by what it reads. -/
theorem readsAnswerFromTheMoment : Obligations.ReadsAnswerFromTheMoment := by
  unfold Obligations.ReadsAnswerFromTheMoment
  intro dt s held ha hheld
  rw [← storeHeld_iff] at hheld
  obtain ⟨hunheard, hduplicate, hpending, hbusy⟩ := statusFlags_bits s
  refine ⟨fun hh => ⟨s.statusFlags, hunheard, hduplicate, hpending, hbusy, ?status⟩, exec_getRoster ha, fun hh hb => ?busy,
    fun hh free => ?directory, fun first extra hh => ⟨fun hb => ?range, fun he hf => ⟨_, rfl, ?history⟩⟩,
    fun c code n first extra len total items hc hh => ?reads⟩
  case status =>
    rw [exec_getStatus ha hh, ← scannedBytes_eq]
    simp only [State.statusBlock, List.append_assoc]
    rfl
  case busy => rw [exec_getDirectory ha hh, if_pos (hheld.1 hb)]
  case directory => rw [exec_getDirectory ha hh, if_neg (mt hheld.2 free)]; rfl
  case range =>
    rw [exec_readHistory ha hh, answerHistory_refused (u := (s.advance dt).taken 0x08 [first, extra]) hb,
      refuse_taken dt 0x08 [first, extra] (by simp)]
    rfl
  case history =>
    rw [exec_readHistory ha hh, answerHistory_items (u := (s.advance dt).taken 0x08 [first, extra]) he hf, respond_ok_taken]
    rfl
  case reads =>
    have hfree : ¬ held → ((s.advance dt).taken code [n, first, extra]).storeHeld = false :=
      fun free => Bool.not_eq_true _ ▸ mt hheld.2 free
    have refused : ∀ {r : ResultCode}, r ≠ .ok → answerRead len total items n.toNat first.toNat extra.toNat
          ((s.advance dt).taken code [n, first, extra]) = refuse r ((s.advance dt).taken code [n, first, extra]) →
        exec c s = .next (s.answered dt code [n, first, extra] [r.code]) :=
      fun hr hanswer => by rw [exec_read ha hc hh, hanswer, refuse_taken dt code _ hr]
    refine ⟨fun hx => refused (r := .range) (by simp) (answerRead_absent hx), fun x hx =>
      ⟨fun hb => refused (r := .busy) (by simp) (answerRead_held hx (hheld.1 hb)),
        fun free he => refused (r := .range) (by simp) (answerRead_many hx (hfree free) he),
        fun free he h1 h2 => refused (r := .state) (by simp)
          (answerRead_unreadable hx (hfree free) he (readable_eq_none h1 h2)),
        fun h free he hs hx' => ?header⟩⟩
    have hr : x.readable = some h := (readable_eq_header hs).trans hx'
    refine ⟨fun hf => refused (r := .range) (by simp) (answerRead_past hx (hfree free) he hr hf), ?_⟩
    rintro hf k rfl
    rw [exec_read ha hc hh, answerRead_items (u := (s.advance dt).taken code [n, first, extra]) hx (hfree free) he hr hf,
      respond_ok_taken]
    simp [readData, returned, byteOf_toNat]

end Sys2Proof.Machine
end

section
/-!
PROOFS. The queue of commands (O1): a step takes its front command, and no command's effect touches it.
-/

namespace Sys2Proof.Machine

open Sys2Proof

/-- No command's effect adds to the queue or takes from it: a reset's release keeps it, and so does every block's operation. -/
@[simp] theorem effectOf_pending (c : Instr) (s : State) : (effectOf c s).pending = s.pending := by
  cases c with
  | powerOnResetRelease dt levels =>
    exact resetReleased_frame true levels (s.setPins { s.pins with powerOnReset := false })
  | hardResetRelease dt levels =>
    exact resetReleased_frame false levels (s.setPins { s.pins with hardReset := false })
  | _ => simp [effectOf]

/-- A command leaves the queue alone, whether it has its effect or meets a device held in reset. -/
theorem exec_pending {c : Instr} {s t : State} (h : exec c s = .next t) : t.pending = s.pending := by
  rcases exec_cases h with ⟨rfl, -⟩ | ⟨rfl, -⟩
  · rw [effectOf_pending, (advance_frame c.dt s).1]
  · exact (advance_frame c.dt s).1

theorem step_cons (c : Instr) (rest : List Instr) (s : State) :
    step (s.setPending (c :: rest)) = exec c (s.setPending rest) := rfl

/-- The tick is the model's choice (log entry 1). -/
theorem step_nil (s : State) : step (s.setPending []) = .next ((s.setPending []).advance (.quiet 1)) := rfl

/-- Settles O1: the two forms of the queue by `step`, and that no command touches it by `exec_pending`. -/
theorem stepTakesTheFrontCommand : Obligations.StepTakesTheFrontCommand :=
  ⟨step_cons, fun _ _ _ => exec_pending, step_nil⟩

end Sys2Proof.Machine
end
